-- ==== Sys2Proof/Word.lean ====
section
/-!
DEFINITION. The word types of the MN3248 model and their plainest arithmetic: 32-bit registers (R9), bytes, and the signed
difference of two counters that wrap.
-/

namespace Sys2Proof

/-- A 32-bit register or Hearth word (R9). -/
abbrev Word := BitVec 32

/-- A byte of SRAM, of a frame or of the NAND die. -/
abbrev Byte := BitVec 8

/-- Bits `lo` to `lo + w - 1` of a number. -/
def bitsOf (v lo w : Nat) : Nat := (v >>> lo) % 2 ^ w

/-- The signed reading of `a - b` for counters of `w` bits that wrap: from -2^(w-1) to 2^(w-1) - 1. -/
def wrapDiff (w a b : Nat) : Int :=
  let m := 2 ^ w
  let x := (a + m - b % m) % m
  if x < 2 ^ (w - 1) then (x : Int) else (x : Int) - (m : Int)

/-- A number as a signed number of `w` bits. -/
def signed (w v : Nat) : Int :=
  let x := v % 2 ^ w
  if x < 2 ^ (w - 1) then (x : Int) else (x : Int) - (2 ^ w : Nat)

/-- Rounding `a / b` to the nearest integer with halves rounded up, for `b > 0`. -/
def roundHalfUp (a b : Int) : Int := (2 * a + b).fdiv (2 * b)

/-- Rounding `a / b` to the nearest integer with halves away from zero, for `b > 0`. -/
def roundHalfAway (a b : Int) : Int :=
  if a < 0 then -((2 * -a + b).fdiv (2 * b)) else (2 * a + b).fdiv (2 * b)

/-- A number limited to the range from `lo` to `hi`. -/
def clampNat (lo hi v : Nat) : Nat := if v < lo then lo else if hi < v then hi else v

/-- An integer limited to the range from `lo` to `hi`. -/
def clampInt (lo hi v : Int) : Int := if v < lo then lo else if hi < v then hi else v

/-- The bytes of a number, most significant first, `n` of them (R319: frames carry the most significant byte first). -/
def beBytes : Nat → Nat → List Byte
  | 0, _ => []
  | n + 1, v => BitVec.ofNat 8 (v >>> (8 * n)) :: beBytes n v

/-- The number that a list of bytes spells, most significant first. -/
def ofBeBytes (l : List Byte) : Nat := l.foldl (fun a b => a * 256 + b.toNat) 0

/-- Element `i` of a list, or `dflt` beyond its end. -/
def nth {α : Type} (l : List α) (i : Nat) (dflt : α) : α := l.getD i dflt

/-- The list with element `i` replaced by `f` of it. -/
def upd {α : Type} (l : List α) (i : Nat) (f : α → α) : List α :=
  match l, i with
  | [], _ => []
  | x :: t, 0 => f x :: t
  | x :: t, n + 1 => x :: upd t n f

end Sys2Proof
end

