-- ==== Sys2Proof/Syntax.lean ====
section
/-!
DEFINITION. The commands of the MN3248 model: one constructor of `Instr` for each row of spec/opcode_table.json, with the row's
operands. A command is a write or a read of a register, an Imvia instruction that Hearth executes, a frame or a message that
arrives, an event on a pin, or a moment of the device's own schedule that has come.
-/

namespace Sys2Proof

/-- The two chain ports of a device (R315). -/
inductive Port where
  | dn | up
  deriving DecidableEq, Repr

/-- What the code check of an 80-bit codeword finds (R29). -/
inductive Ecc where
  | ok | corrected | uncorrectable
  deriving DecidableEq, Repr

/-- What a converter delivers for one channel at one instant: its 14 raw bit decisions (R564), and whether its input lay above
or below its range (R74). The analog side decides all three. -/
structure Sample where
  ch : Fin 34
  raw : BitVec 14
  overRange : Bool
  underRange : Bool
  deriving DecidableEq, Repr

/-- A chain frame without its CRC (R335, R336): `mac` is the truncated CMAC, present when `auth` is set. -/
structure Frame where
  ty : BitVec 4
  rev : BitVec 2
  seq : BitVec 2
  auth : Bool
  src : BitVec 7
  orig : Bool
  dest : BitVec 7
  payload : List Byte
  mac : Word
  deriving DecidableEq, Repr


/-- By whose hand a register is written (R242, R514, R620): Hearth, a chain frame without authentication, or a chain frame that passed
its authentication or the host's SPI write on a head, which counts as authenticated (R620). -/
inductive By where
  | hearth | plain | auth
  deriving DecidableEq, Repr

/-- The direction in which the estimate of a tracked factor lies from its active value (R571). -/
inductive Move where
  | down | stay | up
  deriving DecidableEq, Repr

/-- The payload of a RESULT message (R454, R460): SEQ and PH0 of the publication, the cell mask, and one 18-bit value per cell of the
mask, in ascending order of cells. -/
structure TwinResult where
  seq : Byte
  ph0 : Word
  mask : Word
  vals : List (BitVec 18)
  deriving DecidableEq, Repr

/-- The payload of a MODEL message (R212): the fields of a phase model as PHTIM carries them (R343). -/
structure ModelMsg where
  tb : BitVec 53
  pc : BitVec 16
  pinc : Word
  seq : Byte
  locked : Bool
  hold : Bool
  step : Bool
  deriving DecidableEq, Repr

/-- The commands of the block: one constructor for each row of spec/opcode_table.json; those with operands stand first, each part in the
order of the table. -/
inductive Instr where
  /-- POWER_ON_RESET (R608). Power-on reset clears the device to its reset state and samples the role straps before release. -/
  | powerOnReset (head0 head1 head2 twin0 twin1 twin2 : Bool)
  /-- RESET_RELEASE (R55). Reset is released and the start-up sequence begins. -/
  | resetRelease (otpOk : Bool)
  /-- FIREGUARD_LOGIC_BIST_END (R545). Fireguard's logic BIST ends 45 µs after reset release; a failure sets GFAIL and latches STF. -/
  | fireguardLogicBistEnd (pass : Bool)
  /-- RC_WINDOW_END (R39). A 32-cycle measuring window of the Fireguard RC oscillator completes and sets RCOK from its verdict. -/
  | rcWindowEnd (inRange : Bool)
  /-- FREQ_WINDOW_END (R34). A 32,768-bit-time window of the received bit rate ends and the member adjusts its trim, setting FLOCK after two windows within ±10 ppm. -/
  | freqWindowEnd (within : Bool)
  /-- SCRUB_STEP (R43). The SRAM scrub reads one codeword every 8,138 cycles, yielding to foreground accesses. -/
  | scrubStep (e : Ecc)
  /-- SAFE_CURRENT_LIMIT_TRIP (R81). A SAFE output that has sat in current limit for 1 ms turns off and raises an L2 SUPPLY fault. -/
  | safeCurrentLimitTrip (out : Fin 2)
  /-- BUCK_THRESHOLD (R90). VBUS crossing a buck threshold switches the external buck on or off by its own hysteresis. -/
  | buckThreshold (on : Bool)
  /-- REGULATOR_FAULT (R499). VREG5 or VDD12 outside its range for 10 µs raises SUPPLY 0x05 at L2. -/
  | regulatorFault (rail : Fin 2)
  /-- CONV_INJ_REQ (R124). A CONV_INJ write with REQ = 1 requests an injected conversion with the settings written. -/
  | convInjReq (w : Word)
  /-- CONVERSION_COMPLETE (R105). Conversions of an instant complete and the samples with their marks enter the drawers and tracker A 82 ticks after the hold edge. -/
  | conversionComplete (l : List Sample)
  /-- INJECTION_COMPLETE (R125). An injected sample enters its drawer and any result it completes publishes, or INJERR is set for a non-SUM drawer. -/
  | injectionComplete (l : List Sample)
  /-- QUIET_WINDOW_OPEN (R414). At S − QLEAD, or at once when S is learnt late, shelf converters that honour quiet windows pause. -/
  | quietWindowOpen (cut : BitVec 4)
  /-- WINDOW_BOUNDARY (R161). A period boundary of a WINDOW or IQ drawer's phase source closes and publishes the open window and opens the next. -/
  | windowBoundary (src : Fin 5)
  /-- DRAWER_CONFIG_WRITE (R175). A write to ACC_DCFG, ACC_DPAR or ACC_DCHEN drops the drawer's open accumulations without publication and applies the new setting. -/
  | drawerConfigWrite (addr : BitVec 16) (w : Word)
  /-- ACC_CMD_RST (R175). An ACC_CMD.RST bit drops and restarts drawer d on every channel. -/
  | accCmdRst (mask : BitVec 4)
  /-- RESULT_STATUS_READ (R170). A read of ACC_RSTAT or ACC_XSTAT returns the status, latches the result words into a snapshot and clears NEW and LOST. -/
  | resultStatusRead (r : Fin 140)
  /-- TRACKER_A_READ (R179). A read of ACC_TRKA returns both extremes of tracker A and clears it. -/
  | trackerARead (ch : Fin 34)
  /-- TRACKER_B_READ (R179). A read of ACC_TRKBL returns tracker B's minimum, latches its maximum into a shadow and clears tracker B. -/
  | trackerBRead (ch : Fin 34)
  /-- PHTIM (R200). A member consumes a phase timing frame, stamps the marker's arrival, forms the offset and applies alignment, model and path updates. -/
  | phtim (p : Port) (ta : BitVec 48) (step : BitVec 5) (f : Frame)
  /-- PHSYNC_EDGE (R213). A head stamps a PHSYNC edge, updates its phase loop and, when selected, sends a TRIG frame. -/
  | phsyncEdge (rising : Bool) (step : BitVec 5)
  /-- TIMEBASE_COMPARE_ARM (R219). A write to TIM_TCMPH commits both words and arms the timebase compare unit. -/
  | timebaseCompareArm (n : Fin 4) (w : Word)
  /-- PHASE_COMPARE_ARM (R220). A write to TIM_PCMP arms the phase compare unit and resolves its value. -/
  | phaseCompareArm (n : Fin 4) (w : Word)
  /-- COMPARE_DISARM (R223). A TIM_CMPCTL.DIS write disarms a compare unit without firing it. -/
  | compareDisarm (mask : Byte)
  /-- TIMEBASE_COMPARE_FIRE (R219). A timebase compare unit fires, sets FIRED, drives the sweep trigger and interrupt, and disarms or adds its increment. -/
  | timebaseCompareFire (n : Fin 4)
  /-- PHASE_COMPARE_FIRE (R221). A phase compare unit fires at t(v), possibly deferred, and drives the trigger and interrupt before incrementing or disarming. -/
  | phaseCompareFire (n : Fin 4)
  /-- CAPTURE_EVENT (R225). A capture source event loads TIM_CAPL and TIM_CAPH, setting FULL or OVR. -/
  | captureEvent (src : BitVec 3) (step : BitVec 5)
  /-- CAPTURE_READ (R225). A read of TIM_CAPL clears FULL and latches TIM_CAPH into a shadow. -/
  | captureRead (u : Fin 4)
  /-- AUX7_COMPARATOR_EDGE (R227). The AUX7 comparator changes state and serves as a capture source. -/
  | aux7ComparatorEdge (rising : Bool) (step : BitVec 5)
  /-- ADD (R258). Hearth adds two registers and writes Z, N, C and V. -/
  | add (rd ra rb : BitVec 4)
  /-- SUB (R258). Hearth subtracts two registers and writes Z, N, C and V. -/
  | sub (rd ra rb : BitVec 4)
  /-- ADC (R258). Hearth adds two registers with carry. -/
  | adc (rd ra rb : BitVec 4)
  /-- SBC (R258). Hearth subtracts two registers with borrow. -/
  | sbc (rd ra rb : BitVec 4)
  /-- ADDSS (R258). Hearth adds with signed saturation, setting V on saturation. -/
  | addss (rd ra rb : BitVec 4)
  /-- SUBSS (R258). Hearth subtracts with signed saturation. -/
  | subss (rd ra rb : BitVec 4)
  /-- ADDUS (R258). Hearth adds with unsigned saturation. -/
  | addus (rd ra rb : BitVec 4)
  /-- SUBUS (R258). Hearth subtracts with unsigned saturation at 0. -/
  | subus (rd ra rb : BitVec 4)
  /-- AND (R258). Hearth computes a bitwise AND. -/
  | andR (rd ra rb : BitVec 4)
  /-- OR (R258). Hearth computes a bitwise OR. -/
  | orR (rd ra rb : BitVec 4)
  /-- XOR (R258). Hearth computes a bitwise XOR. -/
  | xorR (rd ra rb : BitVec 4)
  /-- BIC (R258). Hearth clears the bits of one register that are set in another. -/
  | bic (rd ra rb : BitVec 4)
  /-- SHL (R258). Hearth shifts left by rb[4:0]. -/
  | shl (rd ra rb : BitVec 4)
  /-- SHR (R258). Hearth shifts right logically by rb[4:0]. -/
  | shr (rd ra rb : BitVec 4)
  /-- SAR (R258). Hearth shifts right arithmetically by rb[4:0]. -/
  | sar (rd ra rb : BitVec 4)
  /-- ROR (R258). Hearth rotates right by rb[4:0]. -/
  | ror (rd ra rb : BitVec 4)
  /-- MUL (R258). Hearth multiplies and keeps the low 32 bits. -/
  | mul (rd ra rb : BitVec 4)
  /-- MULH (R258). Hearth multiplies signed and keeps the high 32 bits. -/
  | mulh (rd ra rb : BitVec 4)
  /-- MULHU (R258). Hearth multiplies unsigned and keeps the high 32 bits. -/
  | mulhu (rd ra rb : BitVec 4)
  /-- MIN (R258). Hearth takes the signed minimum. -/
  | min (rd ra rb : BitVec 4)
  /-- MAX (R258). Hearth takes the signed maximum. -/
  | max (rd ra rb : BitVec 4)
  /-- MINU (R258). Hearth takes the unsigned minimum. -/
  | minu (rd ra rb : BitVec 4)
  /-- MAXU (R258). Hearth takes the unsigned maximum. -/
  | maxu (rd ra rb : BitVec 4)
  /-- CMP (R258). Hearth sets the flags of ra − rb without writing a register. -/
  | cmp (ra rb : BitVec 4)
  /-- TST (R258). Hearth sets the flags of ra AND rb without writing a register. -/
  | tst (ra rb : BitVec 4)
  /-- MOV (R258). Hearth copies one register to another. -/
  | mov (rd ra : BitVec 4)
  /-- CLZ (R258). Hearth counts the leading zeros of a register. -/
  | clz (rd ra : BitVec 4)
  /-- ABSS (R258). Hearth takes the absolute value with saturation. -/
  | abss (rd ra : BitVec 4)
  /-- ADDI (R259). Hearth adds a sign-extended immediate. -/
  | addi (rd ra : BitVec 4) (imm : BitVec 18)
  /-- ANDI (R259). Hearth ANDs a zero-extended immediate. -/
  | andi (rd ra : BitVec 4) (imm : BitVec 18)
  /-- ORI (R259). Hearth ORs a zero-extended immediate. -/
  | ori (rd ra : BitVec 4) (imm : BitVec 18)
  /-- XORI (R259). Hearth XORs a zero-extended immediate. -/
  | xori (rd ra : BitVec 4) (imm : BitVec 18)
  /-- SHI (R259). Hearth shifts or rotates by an immediate amount of the kind the immediate selects. -/
  | shi (rd ra : BitVec 4) (imm : BitVec 18)
  /-- CMPI (R259). Hearth sets the flags of ra minus an immediate. -/
  | cmpi (ra : BitVec 4) (imm : BitVec 18)
  /-- MOVL (R259). Hearth loads a zero-extended 16-bit immediate. -/
  | movl (rd : BitVec 4) (imm : BitVec 16)
  /-- MOVH (R259). Hearth loads the upper 16 bits of a register from an immediate. -/
  | movh (rd : BitVec 4) (imm : BitVec 16)
  /-- CSEL (R260). Hearth selects one of two registers by a condition. -/
  | csel (rd ra rb cond : BitVec 4)
  /-- LDW (R261). Hearth loads a 32-bit word from data SRAM. -/
  | ldw (rd ra : BitVec 4) (imm : BitVec 18) (e : Ecc)
  /-- LDH (R261). Hearth loads a sign-extended halfword from data SRAM. -/
  | ldh (rd ra : BitVec 4) (imm : BitVec 18) (e : Ecc)
  /-- LDHU (R261). Hearth loads a zero-extended halfword from data SRAM. -/
  | ldhu (rd ra : BitVec 4) (imm : BitVec 18) (e : Ecc)
  /-- LDB (R261). Hearth loads a sign-extended byte from data SRAM. -/
  | ldb (rd ra : BitVec 4) (imm : BitVec 18) (e : Ecc)
  /-- LDBU (R261). Hearth loads a zero-extended byte from data SRAM. -/
  | ldbu (rd ra : BitVec 4) (imm : BitVec 18) (e : Ecc)
  /-- STW (R261). Hearth stores a 32-bit word to data SRAM. -/
  | stw (rs ra : BitVec 4) (imm : BitVec 18)
  /-- STH (R261). Hearth stores a halfword by read-modify-write of the codeword. -/
  | sth (rs ra : BitVec 4) (imm : BitVec 18) (e : Ecc)
  /-- STB (R261). Hearth stores a byte by read-modify-write of the codeword. -/
  | stb (rs ra : BitVec 4) (imm : BitVec 18) (e : Ecc)
  /-- LDR (R263). Hearth loads a register-space register through the register port under its access rules. -/
  | ldr (rd ra : BitVec 4) (imm : BitVec 18)
  /-- STR (R263). Hearth writes a register-space register through the posted write buffer, stopped for authenticated-only registers. -/
  | str (rs ra : BitVec 4) (imm : BitVec 18)
  /-- PUSH (R262). Hearth stores the registers of the mask on the stack below W14. -/
  | push (mask : BitVec 16)
  /-- POP (R262). Hearth loads the registers of the mask from the stack and raises W14. -/
  | pop (mask : BitVec 16) (e : Ecc)
  /-- B (R264). Hearth branches by a signed offset when the condition holds. -/
  | branch (cond : BitVec 4) (off : BitVec 14)
  /-- CALL (R264). Hearth writes the return offset to W15 and branches. -/
  | call (off : BitVec 14)
  /-- JR (R264). Hearth jumps to the bank offset in a register. -/
  | jr (ra : BitVec 4)
  /-- CALLR (R264). Hearth writes the return offset to W15 and jumps to a register's offset. -/
  | callr (ra : BitVec 4)
  /-- SVC (R265). User code enters the SVC vector with a service number; in supervisor mode it raises PRIV. -/
  | svc (n : BitVec 8)
  /-- MEAS_GO (R269). MEAS in its GO form launches a software sweep and returns acceptance or the refusal cause. -/
  | measGo (rd : BitVec 4)
  /-- MEAS_ARM (R269). MEAS in its ARM form arms the sweep engine. -/
  | measArm (rd : BitVec 4)
  /-- MEAS_DISARM (R269). MEAS in its DISARM form disarms the sweep engine. -/
  | measDisarm (rd : BitVec 4)
  /-- MEAS_STOP (R269). MEAS in its STOP form ends the sweep in flight. -/
  | measStop (rd : BitVec 4)
  /-- MEAS_INJ (R269). MEAS in its INJ form requests an injection from its operands without changing CONV_INJ. -/
  | measInj (rd ra : BitVec 4) (drw : BitVec 2) (aux cur : Bool) (slot : BitVec 4)
  /-- WAITT (R271). Hearth computes a timebase target and stops fetching until the wait ends. -/
  | waitt (rd ra rb rm : BitVec 4) (isAbs : Bool)
  /-- WAITPH (R271). Hearth computes a phase-counter target and stops fetching until the wait ends. -/
  | waitph (rd ra rm : BitVec 4) (isAbs : Bool)
  /-- DRAW (R277). Hearth reads a published result whole with its sequence number and sets the flags from its marks. -/
  | draw (rd ra : BitVec 4) (ch : BitVec 6) (drw : BitVec 2) (cr : Bool) (nm1 : BitVec 3)
  /-- SEND (R279). Hearth copies a frame payload into the sequencer transmit queue and writes its sequence number, or a refusal cause. -/
  | send (rd ra rb : BitVec 4) (auth blk : Bool)
  /-- RECV (R280). Hearth takes the oldest frame from the sequencer receive queue into a buffer. -/
  | recv (rd ra rb : BitVec 4) (blk : Bool)
  /-- BAL_TRANSFER (R282). BAL in its transfer form commands a charge transfer on a shelf, or returns the refusal cause. -/
  | balTransfer (rd ra : BitVec 4) (sh : Fin 4) (cell : Fin 8) (dir : Bool)
  /-- BAL_STOP_SHELF (R281). BAL in its stop form ends the work on one shelf with END = STOP. -/
  | balStopShelf (rd : BitVec 4) (sh : Fin 4)
  /-- BAL_STOP_ALL (R281). BAL in its stop-every-shelf form ends the work on every shelf. -/
  | balStopAll (rd : BitVec 4)
  /-- CRC (R283). Hearth starts a background check-engine scan, refused with BUSY or RANGE. -/
  | crc (rd ra rb : BitVec 4) (sp : BitVec 2) (res : Bool)
  /-- LOG (R284). Hearth copies a program record into the log append queue, refused with FULL or UNAVAIL. -/
  | logRec (rd ra rb : BitVec 4) (blk : Bool)
  /-- RAISE (R286). Hearth posts a fault of a chosen class, level and code, handled like a hardware source. -/
  | raise (ra cls : BitVec 4) (lvl : BitVec 2) (code : Byte)
  /-- PLOAD_OPEN (R291). A program-load OPEN frame invalidates the inactive bank or its segment and starts a load session. -/
  | ploadOpen (p : Port) (f : Frame)
  /-- PLOAD_DATA (R292). A program-load DATA frame writes its chunk and sets its SEQ_LDMAP bit. -/
  | ploadData (p : Port) (f : Frame)
  /-- PLOAD_CLOSE (R294). A program-load CLOSE frame starts the image check, or sets MISSING while chunks are absent. -/
  | ploadClose (p : Port) (f : Frame)
  /-- PLOAD_ABORT (R295). A program-load ABORT frame ends the session and leaves the bank invalid. -/
  | ploadAbort (p : Port) (f : Frame)
  /-- RUN_SWAP (R296). A RUN request of form SWAP schedules the inactive bank to become active at a named boundary, or is refused. -/
  | runSwap (p : Port) (f : Frame)
  /-- RUN_RESTART (R296). A RUN request of form RESTART schedules the active program to re-enter at a named boundary, or is refused. -/
  | runRestart (p : Port) (f : Frame)
  /-- RUN_HALT (R296). A RUN request of form HALT halts Hearth at its next instruction boundary. -/
  | runHalt (p : Port) (f : Frame)
  /-- RUN_CANCEL (R296). A RUN request of form CANCEL cancels a pending SWAP or RESTART. -/
  | runCancel (p : Port) (f : Frame)
  /-- SEQ_GRANT_WRITE (R302). A supervisor write to SEQ_GRANT takes effect ANDed with GRANTMAX; chain and host writes are ignored. -/
  | seqGrantWrite (by_ : By) (w : Word)
  /-- DOORBELL (R245). A write to SEQ_DOOR sets interrupt line 14. -/
  | doorbell (w : Word)
  /-- REGRD (R340). A member consumes a register-read request and answers with the value and STATUS. -/
  | regrd (p : Port) (f : Frame)
  /-- REGWR (R340). A member consumes a register-write request, checks authentication and locks, writes and answers. -/
  | regwr (p : Port) (f : Frame)
  /-- BLKRD (R340). A member consumes a block-read request over register space, data SRAM or log pages and answers with the data. -/
  | blkrd (p : Port) (f : Frame)
  /-- BLKWR (R340). A member consumes a block-write request, writing words in order until one fails. -/
  | blkwr (p : Port) (f : Frame)
  /-- TRIG (R342). A member consumes a TRIG express frame and launches a sweep at the target tick, or refuses it as LATE. -/
  | trig (f : Frame)
  /-- REPORT (R365). A device consumes a REPORT frame into its sequencer receive queue or, at a head, its host receive queue. -/
  | report (p : Port) (f : Frame)
  /-- LOGX (R346). A device consumes a LOGX frame into its receive queues. -/
  | logx (p : Port) (f : Frame)
  /-- FRAME_FORWARD (R327). A member relays an ordinary frame slot by slot through its insertion buffer, checking it as it passes. -/
  | frameForward (p : Port) (f : Frame) (crc : Word)
  /-- OWN_FRAME_START (R328). A device starts one of its own ordinary frames once its insertion buffer is empty and the output is free. -/
  | ownFrameStart (p : Port)
  /-- FAULT_SYMBOL_RECEIVED (R332). A FAULT slot arriving at a port is relayed to the other port by a member, or acted on by a head. -/
  | faultSymbolReceived (p : Port)
  /-- ECHO_REQUEST (R349). A receiving port answers an ECHO request with an ECHO reply exactly 312.5 ns after it arrived. -/
  | echoRequest (p : Port)
  /-- ECHO_REPLY (R349). An ECHO reply returns to the requesting port, which stamps it and enters the hop delay into its average. -/
  | echoReply (p : Port) (hop : BitVec 24)
  /-- HOPREP (R356). A head consumes a HOPREP and queues the update for its PHTIM frames. -/
  | hoprep (p : Port) (f : Frame)
  /-- RESIDENCE_MEASURE (R326). A device measures its residence deviation in each direction against its loopback once per second. -/
  | residenceMeasure (fwd rev : BitVec 16)
  /-- PORT_TRAIN (R334). Valid transitions at a DOWN port take it to TRAIN, loading its port factors. -/
  | portTrain (p : Port)
  /-- PORT_UP (R334). 1,024 consecutive valid slots with eye width of at least 24 take a port to UP and copy its live settings. -/
  | portUp (p : Port) (eye : Byte)
  /-- PORT_DOWN (R334). A port with no valid slot for 8 slots, low eye for 1 ms or reversed polarity goes DOWN, failing any frame in progress. -/
  | portDown (p : Port)
  /-- EYE_WIDTH_LOW (R334). A port whose eye width stays below 24 for 1 s while UP raises an L0 CHAIN notice. -/
  | eyeWidthLow (p : Port)
  /-- KINDLING_GO (R391). A CHN_KCTL.GO write makes a head start a full or partial kindling. -/
  | kindlingGo (w : Word)
  /-- KINDLE (R350). A member receives a KINDLE, takes NEXT as its pending address and echoes the hop above. -/
  | kindle (p : Port) (f : Frame)
  /-- KINDLE_RETURN (R350). The KINDLE returns to the head's DN port, closing the ring and fixing N, RTOT and RFWD. -/
  | kindleReturn (f : Frame)
  /-- TOPO (R352). A member consumes TOPO, validating its address and path delays, deriving session keys and starting the pair exchange, or dropping its address. -/
  | topo (p : Port) (f : Frame)
  /-- KEND (R351). A head receives a KEND, counting the devices reached during kindling or taking it as a break indication. -/
  | kend (p : Port) (f : Frame)
  /-- RING_RETURN_CHECK (R357). The marker of a PHTIM frame returns on the head's DN port and is checked against Td + RFWD. -/
  | ringReturnCheck (t : BitVec 48) (step : BitVec 5)
  /-- RESPONSE_RECEIVE (R361). A head matches a response to its outstanding request and delivers it to the host receive queue. -/
  | responseReceive (p : Port) (f : Frame)
  /-- CHN_TRIGH_WRITE (R367). A write to CHN_TRIGH commits a written trigger for sending, or counts it as LATE. -/
  | chnTrighWrite (w : Word)
  /-- SPI_RDREG (R375). An SPI frame with OP RDREG returns a head register value with a trailer CRC. -/
  | spiRdreg (addr : BitVec 16) (whole : Bool)
  /-- SPI_WRREG (R375). An SPI frame with OP WRREG writes a head register when both CRCs pass and acknowledges. -/
  | spiWrreg (addr : BitVec 16) (w : Word) (crcOk : Bool)
  /-- SPI_TXF (R377). An SPI frame with OP TXF checks and queues a chain frame in the host transmit queue, answering with RESULT. -/
  | spiTxf (words : List Word) (crcOk : Bool)
  /-- SPI_RXF (R379). An SPI frame with OP RXF returns the oldest host receive record, removed only when CSN rises after a complete trailer. -/
  | spiRxf (whole : Bool)
  /-- SPI_INVALID_FRAME (R376). An SPI frame whose command CRC fails or OP is invalid is rejected, counted and flagged. -/
  | spiInvalidFrame (badCrc : Bool)
  /-- BREAK_NOTICE_SEND (R382). With BLO and BHI located, the head sends the break notice on both ports. -/
  | breakNoticeSend (blo bhi : BitVec 7)
  /-- BREAK_NOTICE (R383). A member consumes the CHN_HEAL broadcast, latches an L1 CHAIN fault and takes its side. -/
  | breakNotice (p : Port) (f : Frame)
  /-- BAL_CMD_TRANSFER (R402). A BAL_CMD write of the transfer form starts a transfer from BAL_CMDQ or records a refusal cause. -/
  | balCmdTransfer (by_ : By) (w : Word)
  /-- BAL_CMD_STOP_SHELF (R402). A BAL_CMD write of the stop-shelf form ends the work on one shelf. -/
  | balCmdStopShelf (by_ : By) (sh : Fin 4)
  /-- BAL_CMD_STOP_ALL (R402). A BAL_CMD write of the stop-every-shelf form ends all balancer work. -/
  | balCmdStopAll (by_ : By)
  /-- SEL_TURN_ON (R404). The selection pair of the commanded cell turns on, after the previous cell's pair has had 1,000 ticks to turn off. -/
  | selTurnOn (k : Fin 4)
  /-- SELECTION_SETTLED (R404). 15,000 ticks after selection the shelf enters running and starts its first cycle with the setpoint ramp. -/
  | selectionSettled (k : Fin 4) (vc : BitVec 16)
  /-- SWITCHING_CYCLE_END (R398). A switching cycle ends, its current is measured and counted and the loop corrects the next peak. -/
  | switchingCycleEnd (k : Fin 4) (avg ticks : BitVec 16) (pred : BitVec 32) (ilim overcur : Bool)
  /-- NO_DEMAGNETISATION (R431). No zero-current within 4 × the predicted demagnetising time raises an L1 BAL fault. -/
  | noDemagnetisation (k : Fin 4)
  /-- SELECTION_DRIVER_FAULT (R431). A SEL driver readback that differs from its command for 200 µs raises an L1 BAL fault. -/
  | selectionDriverFault (cell : Fin 32)
  /-- SELECTION_INTERLOCK (R431). Readback of two SEL drivers on in one shelf raises an L2 BAL fault. -/
  | selectionInterlock (k : Fin 4)
  /-- SEL_HOLD_EXPIRY (R404). The SEL hold after a transfer ends and the selection pair turns off. -/
  | selHoldExpiry (k : Fin 4)
  /-- BUS_PAUSE (R411). VBUS above VHI or below VLO pauses transfers of the affected direction. -/
  | busPause (high : Bool)
  /-- BUS_RESUME (R411). VBUS returning past the threshold less its hysteresis resumes the paused transfers. -/
  | busResume (high : Bool)
  /-- BAL_XCTL_GO (R421). A BAL_XCTL write with GO requests a sinusoidal excitation on a shelf, with the result in XRES. -/
  | balXctlGo (by_ : By) (k : Fin 4) (w : Word)
  /-- BAL_XCTL_STOP (R406). A BAL_XCTL write with STOP ends the excitation with END = STOP. -/
  | balXctlStop (by_ : By) (k : Fin 4)
  /-- EXCITATION_START (R422). An accepted excitation starts after selection, or at its PCB boundary, resetting the generator and making its phase source valid. -/
  | excitationStart (k : Fin 4)
  /-- EXCITATION_BOUNDARY (R424). The excitation generator reaches a period boundary and ends the excitation with XEND at period NPER. -/
  | excitationBoundary (k : Fin 4)
  /-- OWN_HANDOVER (R427). The twin receives the OWN HANDOVER message, takes ownership and acknowledges. -/
  | ownHandover (ok auto : Bool)
  /-- OWN_ACK (R427). The primary receives the twin's acknowledgement, sets OWNER = 2 and completes the handover. -/
  | ownAck (ok : Bool)
  /-- OWN_STOP (R430). The twin receives OWN STOP, ends its work and turns its SEL pins off. -/
  | ownStop (ok : Bool)
  /-- OWN_STOPACK (R430). The primary receives OWN STOPACK and takes ownership back. -/
  | ownStopack (ok : Bool)
  /-- FIREGUARD_STROBE (R441). Every 15 RC cycles Fireguard evaluates each enabled comparator and advances or resets its deglitch counter. -/
  | fireguardStrobe (tripped : BitVec 76)
  /-- COMPARATOR_SELF_TEST (R443). Seven RC cycles after a strobe Fireguard self-tests one comparator, latching STF after two failures. -/
  | comparatorSelfTest (pass : Bool)
  /-- GUARD_LATCH_CLEAR (R446). An authenticated write of 1 to a GRD_GLATCH bit clears it when no comparator of that bit is counting. -/
  | guardLatchClear (w : Word)
  /-- PAIRSET (R457). An authenticated GRD_PAIRSET write sets the pair ID, commits a pairing record and restarts the pair exchange. -/
  | pairset (w : Word)
  /-- HEALTH (R683). A HEALTH message from the partner updates its reported role, state, FIT bits and faults. -/
  | healthMsg (m : BitVec 48) (ok : Bool)
  /-- PAIR (R458). A PAIR message from the partner is judged for pairing and its echoes measure the twin-link delay. -/
  | pairMsg (m : BitVec 112) (ok : Bool) (echo : BitVec 16)
  /-- RESULT (R461). The primary compares a RESULT with its kept publication of the same PH0, cell by cell. -/
  | resultMsg (m : TwinResult) (ok : Bool)
  /-- TIME (R37). B0 receives A0's TIME message and aligns to it, clearing SOLO at the first one after the link returns. -/
  | timeMsg (dep : BitVec 53) (ta : BitVec 53) (ok : Bool)
  /-- MODEL (R212). B0 receives a phase model from A0 and relays it on chain B. -/
  | modelMsg (m : ModelMsg) (ok : Bool)
  /-- SFR (R468). A head receives a safety frame relayed by its partner for the chain comparison. -/
  | sfrMsg (m : BitVec 128) (ok : Bool)
  /-- TRIG_WORD (R455). B0 receives A0's TRIG word and commits the same trigger on chain B. -/
  | trigWord (t : BitVec 16) (fine : BitVec 5) (tid : Byte)
  /-- SAFETY (R468). A head consumes a SAFETY frame, relays it to its partner and latches FRM when the guard or fault level demands it. -/
  | safety (p : Port) (f : Frame)
  /-- SAFETY_COMPARE_CLOSE (R469). The comparison of a pair and period closes with a verdict, raising a TWIN fault on anything but MATCH. -/
  | safetyCompareClose (a : BitVec 7)
  /-- SAFE_ON (R474). An authenticated GRD_SAFECTL.ON write turns a SAFE output on, or is refused with ONREF. -/
  | safeOn (mask : BitVec 2)
  /-- OFF_PULSE_START (R476). Once per test interval, or 10 ms after a failure, an on SAFE output is switched off for its pulse width. -/
  | offPulseStart (j : Fin 2)
  /-- OFF_PULSE_SAMPLE (R477). SRB is sampled 10 µs before the pulse ends, counting a failure and raising SUPPLY faults. -/
  | offPulseSample (j : Fin 2) (high : Bool)
  /-- OFF_PULSE_END (R476). The off-pulse ends and the switch closes unless a demand holds it off. -/
  | offPulseEnd (j : Fin 2)
  /-- SAFE_READBACK_SAMPLE (R477). Every 100 µs SRB is sampled, raising an L2 SUPPLY fault after three wrong samples. -/
  | safeReadbackSample (j : Fin 2) (high : Bool)
  /-- FLT_ACK (R513). A write to FLT_ACK acknowledges the selected level, clearing its first source and its entries in FLT_CLS, or is refused for L2. -/
  | fltAck (by_ : By) (w : Word)
  /-- FLT_UNLOCK (R518). A write to FLT_UNLOCK with the correct CMAC leaves Lockout for Measure; a wrong value raises SEC 0x04. -/
  | fltUnlock (w : Word)
  /-- DIAG_GO (R522). A BST_CTL.DGO write starts a REF, DAC, OW or BT diagnostic run, or records a refusal. -/
  | diagGo (by_ : By)
  /-- CONVERTER_BIST_END (R537). A converter BIST step finishes its 64 conversions and passes, or fails with MEAS 0x04. -/
  | converterBistEnd (pass : Bool)
  /-- MEMORY_BIST_PHASE_END (R540). A copy, test or restore phase of a memory BIST step ends, with a failure remapping the block or raising MEM 0x05. -/
  | memoryBistPhaseEnd (fails : BitVec 16) (word : BitVec 9) (bit : Fin 80) (unc : Bool)
  /-- HEARTH_LOGIC_BIST_END (R546). Hearth's logic BIST ends, comparing its signature, reloading keys and resuming page programs. -/
  | hearthLogicBistEnd (pass : Bool)
  /-- CHK_GO (R553). A CHK_CMD.GO write starts a check-engine scan, or records a refusal. -/
  | chkGo (by_ : By) (w : Word)
  /-- SCAN_END (R554). A scan completes or ends on ECC or discard, writing its result, comparing and posting line 10. -/
  | scanEnd (unc : Bool)
  /-- CAL_RUN_COMPLETE (R567). CAL_RUN makes its new factors active, increments CAL_GEN, snapshots, clears stale causes and posts line 15. -/
  | calRunComplete (factors : List Word) (residual : List Byte)
  /-- CAL_UNLOCK (R577). An authenticated write of the key to CAL_UNLOCK copies the snapshot to the shadow and unlocks the factor registers. -/
  | calUnlock (w : Word)
  /-- CAL_SHADOW_WRITE (R575). A write of a factor register while unlocked fills the shadow and restarts the 1 s relock. -/
  | calShadowWrite (addr : BitVec 16) (w : Word)
  /-- CAL_COMMIT (R578). An authenticated CAL_CMD.COMMIT copies the selected shadow parts to the active set when CAL_HCRC equals CAL_CHECK. -/
  | calCommit (mask : BitVec 2)
  /-- TRACKING_ATTEMPT (R571). Every 2,000 ticks a converter makes or skips a tracking conversion, updating factors after 64 and completing rounds. -/
  | trackingAttempt (moves : List Move) (residual : List Byte)
  /-- DIE_TEMP_CONVERSION (R574). An idle-slot die-temperature conversion at least every 100 ms updates TNOW and judges the TEMP cause. -/
  | dieTempConversion (t : BitVec 16)
  /-- EMBER_CHECK (R595). The ember timer expires and the device runs an ember sweep and judges the means against its thresholds. -/
  | emberCheck (cells : List (BitVec 16)) (aux : List (BitVec 16))
  /-- WAKE_TONE_RELAY (R597). A Banked member detecting a wake tone sends its own tone on its other port. -/
  | wakeToneRelay (p : Port)
  /-- WAKE_TONE_HEAD (R598). A head detecting a wake tone wakes, sets TONE and raises WAKEOUT. -/
  | wakeToneHead (p : Port)
  /-- LINE_TRAFFIC_WAKE (R601). 50 µs of valid traffic on a port wakes a Banked member into Start or Lockout with a tentative address. -/
  | lineTrafficWake (p : Port)
  /-- WARM_RESET (R608). A write of the key to SYS_RSTCMD releases reset without sampling the straps and reruns start-up. -/
  | warmReset (w : Word)
  /-- KEY_FRAME (R623). A key frame authenticated under KW installs or erases the provisioning key and renews SEC_DNONCE. -/
  | keyFrame (p : Port) (f : Frame)
  /-- TEST_TOKEN (R625). A write to SEC_TTOKH attempts test-mode entry, alarming on a wrong token. -/
  | testToken (hi : Word)
  /-- SEGMENT_PROGRAM_COMPLETE (R642). A segment program completes, freeing its RAM copy or retiring a failed block. -/
  | segmentProgramComplete (ok : Bool)
  /-- LOG_MOUNT_COMPLETE (R644). The mount re-establishes the last committed record, writes held appends and the POWERUP record. -/
  | logMountComplete (torn : BitVec 16)
  /-- LOG_SCRUB (R649). The background log scrub reads a programmed segment and marks its block for refresh as needed. -/
  | logScrub (blk : Fin 960) (bits : Byte) (unc : Bool)
  /-- LOG_REFRESH (R649). A marked or aged block is copied to an erased block and the mapping switched in one step. -/
  | logRefresh (blk : Fin 960)
  /-- LOG_READOUT_GO (R652). A LOG_RDCTL.GO write starts or restarts a readout stream. -/
  | logReadoutGo (w : Word)
  /-- LOG_ERASE (R654). An authenticated write of the key to LOG_ERASE commits an ERASE record and starts erasing the record area. -/
  | logErase (w : Word)
  /-- LOG_UTC (R638). A write to LOG_UTC appends a TIME record. -/
  | logUtc (w : Word)
  /-- LOG_HEADSEQ_READ (R657). A read of LOG_HEADSEQL or LOG_TAILSEQL latches the high SEQ word and the tag. -/
  | logHeadseqRead (tail : Bool)
  /-- PMC_OVERFLOW (R663). A PMC wraps past 0xFFFF_FFFF, sets OVF, increments a chained PMC and may sample Hearth. -/
  | pmcOverflow (n : Fin 6)
  /-- PMC_READ (R664). A read of PRF_PMC latches a chained higher PMC into a shadow. -/
  | pmcRead (n : Fin 6)
  /-- TAG_RECORD_CLOSE (R671). A tagged frame's record closes at its last stamp, drop or failure and is written to the ring. -/
  | tagRecordClose (dropped : Bool)
  /-- TAG_RECORD_READ (R671). A read of PRF_TAG word 0 latches the record and clears its VALID. -/
  | tagRecordRead (r : Fin 8)
  /-- FAULT_STAMP_READ (R521). A read of FLT_FSTL latches FLT_FSTH into a shadow. -/
  | faultStampRead (l : Fin 4)
  /-- REGISTER_WRITE (R12). A write to a register without its own row sets its fields under their access types. -/
  | registerWrite (by_ : By) (addr : BitVec 16) (w : Word)
  /-- ILLEGAL_OPCODE (R255). Hearth meets an instruction word whose opcode is unassigned, such as erased memory 0x00 or 0x3F, and raises an ILL exception. -/
  | illegalOpcode (w : Word)
  /-- STARTUP_REGULATOR_START (R85). VSTK rising past the start threshold makes the start-up regulator drive HVG and start the buck. -/
  | startupRegulatorStart
  /-- VBUS_RISE (R85). VBUS rising past 9.5 V with the regulators in range starts the 200 µs count to reset release. -/
  | vbusRise
  /-- FIREGUARD_ARM (R32). Fireguard arms with its reset configuration 50 µs after reset release and FLT goes high unless a condition holds. -/
  | fireguardArm
  /-- VTREF_ENABLE (R65). VTREF turns on 0.1 ms after reset release. -/
  | vtrefEnable
  /-- TWIN_TX_ENABLE (R65). The twin-link transmitter turns on 0.35 ms after reset release. -/
  | twinTxEnable
  /-- HEAD_TX_ENABLE (R59). A head enables its transmitters and starts sending idle frames 0.5 ms after reset release. -/
  | headTxEnable
  /-- MAIN_OSC_FAIL (R39). The main oscillator stops or leaves its trimmed range and MAINOK falls. -/
  | mainOscFail
  /-- CAL_RUN_AUTO (R565). The device starts self-calibration by itself once frequency lock is reached at start-up. -/
  | calRunAuto
  /-- LINE_ACTIVITY_LOST (R35). A member loses line activity on DN, holds its oscillator trim and clears FLOCK. -/
  | lineActivityLost
  /-- SOLO_TIMEOUT (R37). Head B0 sets SOLO when its twin link to A0 has not come up 20 ms after reset release, and runs its own phase loop. -/
  | soloTimeout
  /-- KINDLING_START (R59). A head starts kindling 10 ms after reset release. -/
  | kindlingStart
  /-- KINDLING_REPEAT (R59). A head repeats kindling every 100 ms while the KINDLE frame has not returned. -/
  | kindlingRepeat
  /-- KINDLING_ABANDON (R59). A head stops kindling after 2 s, reports the devices reached, broadcasts TOPO with OPEN and sets IRQ. -/
  | kindlingAbandon
  /-- VBUS_POWER_FAIL (R87). VBUS falling below the power-fail warning stops the shelf converters, ends transfers with PFAIL and holds new page programs. -/
  | vbusPowerFail
  /-- VBUS_RECOVER (R643). VBUS rising back above 9.75 V before reaching 9.0 V resumes log programming. -/
  | vbusRecover
  /-- VBUS_UNDERVOLTAGE (R588). VBUS falling through 9.0 V takes the device to Off. -/
  | vbusUndervoltage
  /-- VBUS_HIGH (R412). VBUS rising through 16.5 V ends every transfer toward the bus and every excitation with BUSHI. -/
  | vbusHigh
  /-- VBUS_OVERVOLTAGE (R85). VBUS rising above 18.0 V raises an L2 SUPPLY fault. -/
  | vbusOvervoltage
  /-- DIE_TEMP_BAL_STOP (R97). The die reaching 145 °C stops every shelf converter and raises an L1 BAL fault. -/
  | dieTempBalStop
  /-- DIE_TEMP_BAL_RESUME (R97). The die falling to 135 °C lets BAL commands be accepted again. -/
  | dieTempBalResume
  /-- DIE_TEMP_SUPPLY (R97). The die reaching 160 °C raises an L2 SUPPLY fault. -/
  | dieTempSupply
  /-- CONV_GO (R115). A CONV_CMD.GO write launches a software sweep, accepted or refused one tick later. -/
  | convGo
  /-- CONV_ARM (R116). A CONV_CMD.ARM write arms the sweep engine for one-shot hardware triggers. -/
  | convArm
  /-- CONV_DISARM (R116). A CONV_CMD.DISARM write disarms the sweep engine. -/
  | convDisarm
  /-- CONV_STOP (R110). A CONV_CMD.STOP write ends the sweep in flight after its next instant enters the drawers. -/
  | convStop
  /-- SWEEP_ACQUISITION (R118). At S − 20 the converters of a sweep abandon background tracking, begin acquisition and the auxiliary multiplexer selects its slot. -/
  | sweepAcquisition
  /-- INJECTION_START (R125). An accepted injection begins acquisition once the selected converters are free, dropping overlapped scheduled instants on those channels. -/
  | injectionStart
  /-- QUIET_WINDOW_CLOSE (R414). At S + QTRAIL the paused shelf converters may start cycles again. -/
  | quietWindowClose
  /-- ACC_CMD_TCLR (R179). ACC_CMD.TCLR clears every tracker of the device. -/
  | accCmdTclr
  /-- ACC_CMD_XRST (R193). ACC_CMD.XRST drops the open windows of every excitation accumulator. -/
  | accCmdXrst
  /-- CONV_TSL_READ (R147). A read of CONV_TSL latches the matching CONV_TSH into a shadow. -/
  | convTslRead
  /-- TIMEBASE_WRAP (R195). The 48-bit timebase wraps to 0 and sets TBWRAP. -/
  | timebaseWrap
  /-- TIMEBASE_READ (R196). A read of TIM_TBL returns bits [31:0] and latches bits [47:32] into the TIM_TBH shadow. -/
  | timebaseRead
  /-- PHTIM_SEND (R198). A head sends a phase timing frame with its departure stamp and phase model every 1.024 ms, and A0 sends TIME to B0. -/
  | phtimSend
  /-- MODEL_ACTIVATE (R210). An accepted phase model takes effect at its boundary TB. -/
  | modelActivate
  /-- TIMING_FRAME_MISS (R204). No phase timing frame has passed its check half an interval after its expected arrival, so a miss is counted. -/
  | timingFrameMiss
  /-- PHSYNC_EDGE_MISSED (R216). A PHSYNC edge missing 1 % of P beyond its predicted boundary counts as missed, leading to LOCKED = 0 after four. -/
  | phsyncEdgeMissed
  /-- PERIOD_COUNT_WRAP (R218). The period count wraps from 0xFFFF to 0 and sets PWRAP. -/
  | periodCountWrap
  /-- PHASE_MODEL_READ (R231). A read of TIM_PMBL latches TIM_PMBH, TIM_PMPC and TIM_PINC of the same model. -/
  | phaseModelRead
  /-- RETI (R252). Hearth restores the saved flags, mode and IEN and continues at SEQ_EPC. -/
  | reti
  /-- YIELD (R266). User code enters the YIELD vector; supervisor code stalls until an enabled line is pending. -/
  | yield
  /-- WAIT_END (R272). A wait ends on its target, a masked event, an interrupt or the loss of the phase model, writing rd and the flags. -/
  | waitEnd
  /-- STALL_RELEASE (R247). A SEND, RECV or LOG stalled on a full or empty queue completes once the queue has room or a frame. -/
  | stallRelease
  /-- INTERRUPT_ENTRY (R246). At an instruction boundary Hearth takes the lowest pending enabled line, saving state and entering its vector. -/
  | interruptEntry
  /-- SEQ_LDCTL_ABORT (R295). An authenticated SEQ_LDCTL.ABORT write aborts the open load session. -/
  | seqLdctlAbort
  /-- IMAGE_CHECK_COMPLETE (R294). The CODECRC and CMAC check of a closed image ends in acceptance or rejection with a cause. -/
  | imageCheckComplete
  /-- RUN_BOUNDARY (R299). At the boundary of a pending SWAP or RESTART the program enters at word 0, taking the device into Measure the first time. -/
  | runBoundary
  /-- BACKGROUND_ECHO (R355). A member echoes the hop above it once every 256 slots. -/
  | backgroundEcho
  /-- KINDLE_SEND (R350). A member sends the updated KINDLE on UP once its echoes of the hop above are done. -/
  | kindleSend
  /-- KINDLE_NO_ECHO (R350). No echo reply within 2 µs makes the member send KEND with cause NOECHO. -/
  | kindleNoEcho
  /-- RING_RETURN_MISSING (R357). A PHTIM marker that fails to return in time is a break indication. -/
  | ringReturnMissing
  /-- REQUEST_SEND (R359). A head sends the next request from its host transmit queue once its destination has fewer than four outstanding. -/
  | requestSend
  /-- REQUEST_TIMEOUT (R363). A request's timeout expires and the head retries it or writes a timeout record. -/
  | requestTimeout
  /-- TRIG_SEND (R369). A head starts a committed TRIG frame at the next free express slot of its UP output. -/
  | trigSend
  /-- CHAIN_HEALED (R382). After the notice's passage time the head sets STATE = 2 and HEALED. -/
  | chainHealed
  /-- BAL_QCLR (R410). A BAL_CTL.QCLR write clears every BAL_QCELL counter. -/
  | balQclr
  /-- HANDOVER (R427). A BAL_HOCTL HANDOVER write makes the primary end its work and hand balancing to the twin. -/
  | handover
  /-- RETURN (R430). A BAL_HOCTL RETURN write returns balancing to the primary. -/
  | returnOwner
  /-- OWNERSHIP_TIMEOUT (R429). A primary whose twin link is not UP 1.35 ms after reset release takes balancing ownership. -/
  | ownershipTimeout
  /-- CLOCK_HEARTBEAT_FAIL (R444). A main-clock heartbeat absent or out of range for 16 RC cycles latches guard bit CLK. -/
  | clockHeartbeatFail
  /-- CONFIG_CRC_CHECK (R452). Fireguard recomputes the CRC of its active configuration, latching CFG on a mismatch. -/
  | configCrcCheck
  /-- GRD_LOCK (R451). An authenticated GRD_CTL.LOCK write commits the shadow configuration when its CRC matches, or is refused. -/
  | grdLock
  /-- HEALTH_SEND (R454). A twin link idle for 250 µs sends a HEALTH message. -/
  | healthSend
  /-- TWIN_LINK_DOWN (R456). 1 ms without a valid message, or four CRC failures, take the twin link DOWN and raise an L1 TWIN fault. -/
  | twinLinkDown
  /-- RESULT_DEADLINE (R463). A primary publication without a matching RESULT by the deadline counts a miss, raising a TWIN fault at MISSMAX. -/
  | resultDeadline
  /-- FAULT_WORD (R455). A head receiving the partner's FAULT word latches the REL source of its SAFE demand. -/
  | faultWord
  /-- SAFETY_FRAME_SEND (R465). A member sends its SAFETY frame for the period at its scheduled frame boundary. -/
  | safetyFrameSend
  /-- SAFE_DEMAND (R473). An authenticated GRD_SAFECTL.DEM write latches the HOST source of the SAFE demand. -/
  | safeDemand
  /-- SAFE_ACK (R475). An authenticated GRD_SAFECTL.ACK write clears the demand latch when no source remains active. -/
  | safeAck
  /-- L0_RATE_WINDOW (R512). Each 100,000,000-cycle window restarts every class's count of L0 log records. -/
  | l0RateWindow
  /-- DIAG_STOP (R533). A BST_CTL.DSTOP write aborts the diagnostic run. -/
  | diagStop
  /-- DIAG_STEP (R525). A diagnostic step begins at its scheduled time, applying its source and starting its injections after settling. -/
  | diagStep
  /-- DIAG_INJECTION (R524). The diagnostic engine issues its next injection once the previous one has published. -/
  | diagInjection
  /-- DIAG_RUN_END (R532). A diagnostic run ends, writing its results and raising its single fault on failure. -/
  | diagRunEnd
  /-- CONVERTER_BIST_STEP (R538). The automatic rotation starts a converter BIST step on the next enabled converter. -/
  | converterBistStep
  /-- MEMORY_BIST_GO (R544). A BST_CTL.MGO write runs memory BIST from FIRST to LAST once. -/
  | memoryBistGo
  /-- MEMORY_BIST_STOP (R544). A BST_CTL.MSTOP write ends the memory BIST step at its next element and runs the restore. -/
  | memoryBistStop
  /-- MEMORY_BIST_STEP (R544). The automatic rotation starts a memory BIST step on the next block when the power account allows. -/
  | memoryBistStep
  /-- MEMORY_BIST_RESUME (R536). A memory BIST step paused by the power account resumes when room returns. -/
  | memoryBistResume
  /-- HEARTH_LOGIC_BIST (R546). Hearth's logic BIST runs automatically from 0.10 ms after reset release. -/
  | hearthLogicBist
  /-- LBH (R546). An authenticated BST_CTL.LBH write starts Hearth's logic BIST, clearing secrets, or is refused. -/
  | lbh
  /-- CHK_STOP (R555). A CHK_CMD.STOP write suspends the scan after its current group with END = STOPPED. -/
  | chkStop
  /-- CAL_CMD_RUN (R566). An authenticated CAL_CMD.RUN write starts CAL_RUN, or is refused with a code. -/
  | calCmdRun
  /-- CAL_CONVERTERS_TAKEN (R567). CAL_RUN takes the converters once the pending injection and the last instant have entered the drawers. -/
  | calConvertersTaken
  /-- CAL_RELOCK (R577). The CAL block relocks 1 s after the last shadow write. -/
  | calRelock
  /-- CAL_LOCK (R577). A CAL_CMD.LOCK write locks the factor registers. -/
  | calLock
  /-- CAL_LOAD (R580). A CAL_CMD.LOAD write copies the newer intact log slot into the shadow and CAL_CHECK. -/
  | calLoad
  /-- CAL_SNAP (R576). A CAL_SNAP.SNAP write copies the active set to the snapshot and computes CAL_SCRC. -/
  | calSnap
  /-- COMM_TIMEOUT (R589). COMM_TIMEOUT expires without a valid frame and the device enters Banked. -/
  | commTimeout
  /-- SLEEP (R590). An authenticated SYS_PWRCTL.SLEEP write requests entry to Banked, or is refused. -/
  | sleep
  /-- RELEASE (R605). An authenticated SYS_PWRCTL.RELEASE write appends a pairing record with the release mark. -/
  | release
  /-- WAKE (R600). A SYS_PWRCTL.WAKE write makes a woken head send idle slots on both ports. -/
  | wake
  /-- BANKED_ENTRY_COMPLETE (R591). 2 ms after entry the device drops its model, powers down and becomes Banked. -/
  | bankedEntryComplete
  /-- HEAD_WAKE_PHTIM_START (R600). 10 ms after the WAKE write a head starts sending PHTIM frames with its stored token. -/
  | headWakePhtimStart
  /-- EMBER_CHECK_END (R595). After its summary record is committed the ember check returns the device to Banked. -/
  | emberCheckEnd
  /-- CSN_WAKE (R599). CSN falling wakes a Banked head. -/
  | csnWake
  /-- SEC_LOCK (R627). A SEC_CTL.LOCK write locks SEC_POLICY. -/
  | secLock
  /-- GLITCH_DETECT (R626). A supply or oscillator glitch raises the security alarm with source GLITCH. -/
  | glitchDetect
  /-- FLUSH_TIMER (R641). The oldest byte of the open segment has waited LOG_CFG.FLUSH. -/
  | flushTimer
  /-- LOG_FLUSH (R641). A LOG_CTL.FLUSH write requests programming of the open segment. -/
  | logFlush
  /-- SEGMENT_PROGRAM_START (R642). The controller starts programming the next queued segment, committing the records that end in it. -/
  | segmentProgramStart
  /-- LOG_MOUNT_FAIL (R645). A mount that cannot complete within 50 ms fails, raising MEM 0x08 and taking the system records as absent. -/
  | logMountFail
  /-- BLOCK_ERASE_COMPLETE (R634). An erase of the oldest ring block completes and the tail moves. -/
  | blockEraseComplete
  /-- LOG_READOUT_STOP (R652). A LOG_RDCTL.STOP write ends the readout stream. -/
  | logReadoutStop
  /-- LOG_READOUT_FRAME (R652). Once the frame spacing has passed the stream sends its next LOGX frame. -/
  | logReadoutFrame
  /-- LOG_ERASE_COMPLETE (R654). The erasure of the record area completes. -/
  | logEraseComplete
  /-- SNAPSHOT_CAPTURE_END (R639). A fault snapshot capture ends after 64 post-fault publications or 1 s. -/
  | snapshotCaptureEnd
  /-- PRF_CLR (R675). A PRF_CTL.CLR write clears every PMC and OVF bit. -/
  | prfClr
  /-- CYCLE_COUNTER_READ (R659). A read of PRF_CYCL latches the high word of the cycle counter. -/
  | cycleCounterRead
  /-- TOKEN_READ (R390). A read of CHN_TOKL latches CHN_TOKH. -/
  | tokenRead
  /-- CCRAW_READ (R498). A read of TWN_CCRAW word 0 latches all eight words for the selected pair. -/
  | ccrawRead
  /-- FETCH_UNCORRECTABLE (R244). An instruction fetch finds an uncorrectable codeword, and Hearth halts before that instruction executes and raises MEM 0x03. -/
  | fetchUncorrectable
  /-- USER_FETCH_OUTSIDE_REGION (R304). Hearth in user mode fetches from outside the active image's user region and raises a PRIV exception. -/
  | userFetchOutsideRegion
  /-- CHAIN_TRIGGER_TARGET (R115). The target tick T named by a consumed TRIG frame arrives, and at T + 1 the sweep trigger is accepted or refused under R116 and R129. -/
  | chainTriggerTarget
  /-- TRIG_WORD_DELAYED_START (R455). A0 starts the TRIG word to B0 at T − 65,000 ticks for a trigger whose T lay more than 65,000 ticks ahead when it was committed. -/
  | trigWordDelayedStart
  deriving DecidableEq, Repr

end Sys2Proof
end

