-- ==== Sys2Proof/Decode.lean ====
section
/-!
DEFINITION. The command that a word of spec/opcode_table.json spells. Its rows give no bits, so there is none; Imvia instruction words are
decoded in Machine/Imvia.lean, by Hearth's fetch.
-/

namespace Sys2Proof

/-- The command that a word spells by the bits of the opcode table: its rows give none. -/
def decodeTableWord (_nbits _w : Nat) : Option Instr := none

end Sys2Proof
end

