-- ==== Sys2Proof/Machine/Crypto.lean ====
section
/-!
DEFINITION. AES-128 encryption, AES-CMAC and the CRC machine of R550, over plain numbers and bytes: the key derivations and tags of
16_security.md and 17_peat_log.md, and the checks of frames, messages, images, sets and scans.
-/

namespace Sys2Proof.Machine

namespace Aes

/-- Entries 0 to 31 of the AES S-box. -/
def sbox0 : List Nat :=
  [99, 124, 119, 123, 242, 107, 111, 197, 48, 1, 103, 43, 254, 215, 171, 118, 202, 130, 201, 125, 250, 89, 71, 240, 173, 212, 162, 175, 156, 164, 114, 192]

/-- Entries 32 to 63 of the AES S-box. -/
def sbox1 : List Nat :=
  [183, 253, 147, 38, 54, 63, 247, 204, 52, 165, 229, 241, 113, 216, 49, 21, 4, 199, 35, 195, 24, 150, 5, 154, 7, 18, 128, 226, 235, 39, 178, 117]

/-- Entries 64 to 95 of the AES S-box. -/
def sbox2 : List Nat :=
  [9, 131, 44, 26, 27, 110, 90, 160, 82, 59, 214, 179, 41, 227, 47, 132, 83, 209, 0, 237, 32, 252, 177, 91, 106, 203, 190, 57, 74, 76, 88, 207]

/-- Entries 96 to 127 of the AES S-box. -/
def sbox3 : List Nat :=
  [208, 239, 170, 251, 67, 77, 51, 133, 69, 249, 2, 127, 80, 60, 159, 168, 81, 163, 64, 143, 146, 157, 56, 245, 188, 182, 218, 33, 16, 255, 243, 210]

/-- Entries 128 to 159 of the AES S-box. -/
def sbox4 : List Nat :=
  [205, 12, 19, 236, 95, 151, 68, 23, 196, 167, 126, 61, 100, 93, 25, 115, 96, 129, 79, 220, 34, 42, 144, 136, 70, 238, 184, 20, 222, 94, 11, 219]

/-- Entries 160 to 191 of the AES S-box. -/
def sbox5 : List Nat :=
  [224, 50, 58, 10, 73, 6, 36, 92, 194, 211, 172, 98, 145, 149, 228, 121, 231, 200, 55, 109, 141, 213, 78, 169, 108, 86, 244, 234, 101, 122, 174, 8]

/-- Entries 192 to 223 of the AES S-box. -/
def sbox6 : List Nat :=
  [186, 120, 37, 46, 28, 166, 180, 198, 232, 221, 116, 31, 75, 189, 139, 138, 112, 62, 181, 102, 72, 3, 246, 14, 97, 53, 87, 185, 134, 193, 29, 158]

/-- Entries 224 to 255 of the AES S-box. -/
def sbox7 : List Nat :=
  [225, 248, 152, 17, 105, 217, 142, 148, 155, 30, 135, 233, 206, 85, 40, 223, 140, 161, 137, 13, 191, 230, 66, 104, 65, 153, 45, 15, 176, 84, 187, 22]

/-- The AES S-box. -/
def sbox (x : Nat) : Nat :=
  let t := match x / 32 with
    | 0 => sbox0 | 1 => sbox1 | 2 => sbox2 | 3 => sbox3 | 4 => sbox4 | 5 => sbox5 | 6 => sbox6 | _ => sbox7
  t.getD (x % 32) 0

/-- Multiplication by x in the field of AES. -/
def xtime (a : Nat) : Nat := if a < 128 then 2 * a else (2 * a - 256).xor 27

/-- The bytes of a 128-bit block, most significant first. -/
def toBytes (b : BitVec 128) : List Nat := (List.range 16).map (fun i => b.toNat / 2 ^ (8 * (15 - i)) % 256)

/-- The block that sixteen bytes spell. -/
def ofBytes (l : List Nat) : BitVec 128 := BitVec.ofNat 128 (l.foldl (fun a b => a * 256 + b % 256) 0)

/-- The exclusive-or of two lists of bytes. -/
def xorBytes (a b : List Nat) : List Nat := List.zipWith Nat.xor a b

/-- One step of the key schedule: the next round key from the last and the round constant. -/
def nextKey (k : List Nat) (rcon : Nat) : List Nat :=
  let w (i : Nat) : List Nat := (k.drop (4 * i)).take 4
  let t := match w 3 with
    | [a, b, c, d] => [(sbox b).xor rcon, sbox c, sbox d, sbox a]
    | l => l
  let w0 := xorBytes (w 0) t
  let w1 := xorBytes (w 1) w0
  let w2 := xorBytes (w 2) w1
  let w3 := xorBytes (w 3) w2
  w0 ++ w1 ++ w2 ++ w3

/-- SubBytes and ShiftRows: byte r + 4c of the result is the substituted byte r + 4(c + r). -/
def subShift (s : List Nat) : List Nat :=
  (List.range 16).map (fun i => sbox (s.getD ((i % 4) + 4 * ((i / 4 + i % 4) % 4)) 0))

/-- MixColumns on one column. -/
def mixColumn (c : List Nat) : List Nat :=
  match c with
  | [a, b, d, e] =>
    [(xtime a).xor ((xtime b).xor (b.xor (d.xor e))), a.xor ((xtime b).xor ((xtime d).xor (d.xor e))),
     a.xor (b.xor ((xtime d).xor ((xtime e).xor e))), (xtime a).xor (a.xor (b.xor (d.xor (xtime e))))]
  | l => l

/-- MixColumns. -/
def mixColumns (s : List Nat) : List Nat :=
  mixColumn (s.take 4) ++ mixColumn ((s.drop 4).take 4) ++ mixColumn ((s.drop 8).take 4) ++ mixColumn ((s.drop 12).take 4)

/-- The nine middle rounds and the last, by the round constants left. -/
def rounds : List Nat → List Nat → List Nat → List Nat
  | [], _, s => s
  | [r], k, s => xorBytes (subShift s) (nextKey k r)
  | r :: t, k, s =>
    let k := nextKey k r
    rounds t k (xorBytes (mixColumns (subShift s)) k)

/-- AES-128-Encrypt. -/
def encrypt (key block : BitVec 128) : BitVec 128 :=
  let k := toBytes key
  ofBytes (rounds [1, 2, 4, 8, 16, 32, 64, 128, 27, 54] k (xorBytes (toBytes block) k))

/-- The inverse S-box: the byte whose substitution is `y`. -/
def invSbox (y : Nat) : Nat := ((List.range 256).find? (fun x => sbox x == y)).getD 0

/-- InvShiftRows and InvSubBytes. -/
def invSubShift (s : List Nat) : List Nat :=
  (List.range 16).map (fun i => invSbox (s.getD ((i % 4) + 4 * ((i / 4 + 4 - i % 4) % 4)) 0))

/-- InvMixColumns: three more times MixColumns, whose fourth power is the identity. -/
def invMixColumns (s : List Nat) : List Nat := mixColumns (mixColumns (mixColumns s))

/-- The round keys 1 to 10, last first, before the ones in `acc`. -/
def schedule : List Nat → List Nat → List (List Nat) → List (List Nat)
  | [], _, acc => acc
  | r :: t, k, acc => schedule t (nextKey k r) (nextKey k r :: acc)

/-- The inverse rounds over the round keys, last first, down to the cipher key. -/
def invRounds : List (List Nat) → List Nat → List Nat → List Nat
  | [], k0, s => xorBytes (invSubShift s) k0
  | k :: t, k0, s => invRounds t k0 (invMixColumns (xorBytes (invSubShift s) k))

/-- AES-128-Decrypt. -/
def decrypt (key block : BitVec 128) : BitVec 128 :=
  let k0 := toBytes key
  match schedule [1, 2, 4, 8, 16, 32, 64, 128, 27, 54] k0 [] with
  | [] => block
  | k :: t => ofBytes (invRounds t k0 (xorBytes (toBytes block) k))

/-- The doubling that makes the two subkeys of CMAC. -/
def double (b : BitVec 128) : BitVec 128 := if b.getMsbD 0 then (b <<< 1) ^^^ 0x87 else b <<< 1

/-- The chaining of CMAC over full blocks; the last one is given ready mixed with its subkey. -/
def chain (key : BitVec 128) : BitVec 128 → List (BitVec 128) → BitVec 128
  | x, [] => x
  | x, b :: t => chain key (encrypt key (x ^^^ b)) t

/-- The blocks of a message, the last padded under CMAC and mixed with its subkey; `n` bounds the blocks. -/
def blocks (k1 k2 : BitVec 128) : Nat → List Nat → List (BitVec 128)
  | 0, _ => []
  | n + 1, m =>
    if m.length < 16 then [ofBytes (m ++ 128 :: List.replicate (15 - m.length) 0) ^^^ k2]
    else if m.length = 16 then [ofBytes m ^^^ k1]
    else ofBytes (m.take 16) :: blocks k1 k2 n (m.drop 16)

/-- AES-CMAC of a message of bytes. -/
def cmac (key : BitVec 128) (m : List Byte) : BitVec 128 :=
  let k1 := double (encrypt key 0)
  chain key 0 (blocks k1 (double k1) (m.length / 16 + 1) (m.map BitVec.toNat))

/-- The 32 most significant bits of a CMAC (R615). -/
def cmac32 (key : BitVec 128) (m : List Byte) : Word := BitVec.ofNat 32 ((cmac key m).toNat / 2 ^ 96)

end Aes

namespace Crc

/-- The low `n` bits of a number in reverse order. -/
def reflect : Nat → Nat → Nat
  | 0, _ => 0
  | n + 1, v => (v % 2) * 2 ^ n + reflect n (v / 2)

/-- One bit of R550, at width `w`. -/
def bit (w poly crc b : Nat) : Nat :=
  let top := (crc / 2 ^ (w - 1) + b) % 2
  let s := crc * 2 % 2 ^ w
  if top = 1 then s.xor (poly % 2 ^ w) else s

/-- One byte of R550, its bits from the highest of `n` left. -/
def bits (w poly : Nat) : Nat → Nat → Nat → Nat
  | 0, crc, _ => crc
  | n + 1, crc, b => bits w poly n (bit w poly crc (b / 2 ^ n % 2)) b

/-- One byte of R550, reflected at the input or not. -/
def byte (w poly : Nat) (refin : Bool) (crc : Nat) (b : Byte) : Nat :=
  bits w poly 8 crc (if refin then reflect 8 b.toNat else b.toNat)

/-- A run of bytes. -/
def run (w poly : Nat) (refin : Bool) (crc : Nat) (l : List Byte) : Nat := l.foldl (byte w poly refin) crc

/-- The completion of R550: output reflection and final inversion. -/
def finish (w : Nat) (refout xorout : Bool) (crc : Nat) : Nat :=
  let r := if refout then reflect w crc else crc
  if xorout then r.xor (2 ^ w - 1) else r

/-- The CRC-32 of R335 and R289. -/
def crc32 (l : List Byte) : Word := BitVec.ofNat 32 (finish 32 true true (run 32 0x04C11DB7 true 0xFFFFFFFF l))

/-- The CRC-32 of R452 and R454, of polynomial 0x1EDC_6F41. -/
def crc32c (l : List Byte) : Word := BitVec.ofNat 32 (finish 32 true true (run 32 0x1EDC6F41 true 0xFFFFFFFF l))

/-- The SPI CRC-8 of R374. -/
def crc8 (l : List Byte) : Byte := BitVec.ofNat 8 (finish 8 false true (run 8 0x2F false 0xFF l))

end Crc

/-- The four bytes of a word, most significant first. -/
def wordBytes (w : Word) : List Byte := beBytes 4 w.toNat

/-- The four bytes of a word, least significant first. -/
def wordBytesLe (w : Word) : List Byte := (beBytes 4 w.toNat).reverse

/-- The words that a list of bytes spells, most significant byte first, a short end filled with 0. -/
def wordsOf : List Byte → List Word
  | a :: b :: c :: d :: t => BitVec.ofNat 32 (ofBeBytes [a, b, c, d]) :: wordsOf t
  | [] => []
  | l => [BitVec.ofNat 32 (ofBeBytes (l ++ List.replicate (4 - l.length) 0))]

end Sys2Proof.Machine
end

