-- ==== Sys2Proof/Config.lean ====
section
/-!
DEFINITION. What the spec leaves to the part or to chance: opaque constants with no body, so that no proof can see a value of
them. Each one is named in the assumption log.
-/

namespace Sys2Proof.Config

/-- The `n`-th random 32-bit value that the device draws: challenges, nonces, tags (R518, R632, R669). A free value. -/
opaque random : Nat → BitVec 32

/-- The root key KR burnt into OTP at test (R612). A free value. -/
opaque rootKey : BitVec 128

/-- The eight characters of the part's trace code (R2), as eight bytes. A free value. -/
opaque traceCode : BitVec 64

/-- The hop delay or residence deviation that a head holds after kindling `kid` for the path element `e` (kind × 256 + index) and against
which it judges the first HOPREP (R356): KINDLE gives it sums only. A free value. -/
opaque kindled : (kid e : Nat) → Nat

/-- The deviation in 0.01 % that CAL_QLOOP counts for a cycle average against a setpoint of 0, for which R582 states no value. A free
value. -/
opaque zeroSetpointDeviation : (avg : Int) → Int

end Sys2Proof.Config
end

