-- ==== Sys2Proof/Machine/RegFields.lean ====
section
/-!
DEFINITION. The software-visible registers by name (R11, R677 to R679): the byte address of each register and the place of
each of its fields, transcribed from the register tables of the chapters of spec/. A register of a series takes its index
or indices as arguments. Reserved bits have no field (R16).
-/

namespace Sys2Proof.Machine

/-- The place of a field: its register's byte address, its lowest bit and its width (R11). -/
structure Fld where
  addr : Nat
  lo : Nat
  width : Nat
  deriving DecidableEq, Repr

namespace R

def SYS_ID : Nat := 0x0000
def SYS_STRAP : Nat := 0x0004
def SYS_CLKSTAT : Nat := 0x0008
def SYS_PWRSTAT : Nat := 0x0010
def SYS_PWRCTL : Nat := 0x0014
def SYS_COMMTMO : Nat := 0x0018
def SYS_RSTCAUSE : Nat := 0x001C
def SYS_RSTCMD : Nat := 0x0020
def SYS_WAKE : Nat := 0x0024
def SYS_SLPT : Nat := 0x0028
def SYS_EMBCFG : Nat := 0x0030
def SYS_EMBTHV : Nat := 0x0034
def SYS_EMBTHX : Nat := 0x0038
def SYS_EMBSTAT : Nat := 0x003C
def SYS_EMBRES : Nat := 0x0040
def CHN_ADDR : Nat := 0x1000
def CHN_TOKL : Nat := 0x1004
def CHN_TOKH : Nat := 0x1008
def CHN_PSTAT : Nat := 0x100C
def CHN_LERR : Nat := 0x1010
def CHN_UERR : Nat := 0x1014
def CHN_FREV : Nat := 0x1018
def CHN_EFLAG : Nat := 0x101C
def CHN_HEAL : Nat := 0x1020
def CHN_TMO : Nat := 0x1024
def CHN_TRIGCFG : Nat := 0x1028
def CHN_TRIGL : Nat := 0x102C
def CHN_TRIGH : Nat := 0x1030
def CHN_TRIGSTAT : Nat := 0x1034
def CHN_KCTL : Nat := 0x1038
def CHN_KSTAT : Nat := 0x103C
def CHN_BRK : Nat := 0x1040
def CHN_RFWD : Nat := 0x1044
def CHN_RTOT : Nat := 0x1048
def CHN_IRQST : Nat := 0x104C
def CHN_IRQEN : Nat := 0x1050
def CHN_HQCTL : Nat := 0x1054
def CHN_HQSTAT : Nat := 0x1058
def CHN_SPIERR : Nat := 0x105C
def CHN_SQSTAT : Nat := 0x1060
def SEQ_CTL : Nat := 0x2000
def SEQ_STAT : Nat := 0x2004
def SEQ_IP : Nat := 0x2008
def SEQ_IE : Nat := 0x200C
def SEQ_EPC : Nat := 0x2010
def SEQ_ESR : Nat := 0x2014
def SEQ_EXC : Nat := 0x2018
def SEQ_EXCI : Nat := 0x201C
def SEQ_GRANT : Nat := 0x2020
def SEQ_UWIN : Nat := 0x2024
def SEQ_UREG : Nat := 0x2028
def SEQ_DOOR : Nat := 0x202C
def SEQ_BANK : Nat := 0x2030
def SEQ_BVER (i : Nat) : Nat := 0x2040 + i * 0x10
def SEQ_BGEN (i : Nat) : Nat := 0x2044 + i * 0x10
def SEQ_BLEN (i : Nat) : Nat := 0x2048 + i * 0x10
def SEQ_BCRC (i : Nat) : Nat := 0x204C + i * 0x10
def SEQ_LDCTL : Nat := 0x2060
def SEQ_LDSTAT : Nat := 0x2064
def SEQ_RUNVER : Nat := 0x2068
def SEQ_RUN : Nat := 0x206C
def SEQ_RUNSTAT : Nat := 0x2070
def SEQ_LDMAP (i : Nat) : Nat := 0x2080 + i * 0x4
def SEQ_MBOX (i : Nat) : Nat := 0x2400 + i * 0x4
def CONV_CHEN : Nat := 0x3000
def CONV_DEVEN : Nat := 0x3004
def CONV_TRIG : Nat := 0x3008
def CONV_DLY : Nat := 0x300C
def CONV_SWEEP : Nat := 0x3010
def CONV_INTV : Nat := 0x3014
def CONV_AUXCTL : Nat := 0x3018
def CONV_AUXSEQ0 : Nat := 0x301C
def CONV_AUXSEQ1 : Nat := 0x3020
def CONV_CMD : Nat := 0x3024
def CONV_STAT : Nat := 0x3028
def CONV_MISS : Nat := 0x302C
def CONV_MISSC : Nat := 0x3030
def CONV_DROP : Nat := 0x3034
def CONV_INJ : Nat := 0x3038
def CONV_INJCH : Nat := 0x303C
def CONV_FADJ : Nat := 0x3040
def CONV_TSL : Nat := 0x3044
def CONV_TSH : Nat := 0x3048
def CONV_ORF : Nat := 0x304C
def CONV_URF : Nat := 0x3050
def CONV_RNGX : Nat := 0x3054
def CONV_DIAG : Nat := 0x3058
def CONV_DIAGCH : Nat := 0x305C
def CONV_TDAC : Nat := 0x3060
def ACC_RSTAT (i : Nat) (j : Nat) : Nat := 0x4000 + i * 0x60 + j * 0x18
def ACC_RESA (i : Nat) (j : Nat) : Nat := 0x4004 + i * 0x60 + j * 0x18
def ACC_RESB (i : Nat) (j : Nat) : Nat := 0x4008 + i * 0x60 + j * 0x18
def ACC_RESC (i : Nat) (j : Nat) : Nat := 0x400C + i * 0x60 + j * 0x18
def ACC_RCNT (i : Nat) (j : Nat) : Nat := 0x4010 + i * 0x60 + j * 0x18
def ACC_RPH (i : Nat) (j : Nat) : Nat := 0x4014 + i * 0x60 + j * 0x18
def ACC_TRKA (i : Nat) : Nat := 0x4CC0 + i * 0x10
def ACC_TRKBL (i : Nat) : Nat := 0x4CC4 + i * 0x10
def ACC_TRKBH (i : Nat) : Nat := 0x4CC8 + i * 0x10
def ACC_TRKN (i : Nat) : Nat := 0x4CCC + i * 0x10
def ACC_DCFG (i : Nat) (j : Nat) : Nat := 0x4EE0 + i * 0x10 + j * 0x4
def ACC_DPAR (i : Nat) (j : Nat) : Nat := 0x4F10 + i * 0x10 + j * 0x4
def ACC_DCHEN (i : Nat) : Nat := 0x4F40 + i * 0x4
def ACC_XSTAT (i : Nat) : Nat := 0x4F50 + i * 0x18
def ACC_XA (i : Nat) : Nat := 0x4F54 + i * 0x18
def ACC_XB (i : Nat) : Nat := 0x4F58 + i * 0x18
def ACC_XC (i : Nat) : Nat := 0x4F5C + i * 0x18
def ACC_XCNT (i : Nat) : Nat := 0x4F60 + i * 0x18
def ACC_XPH (i : Nat) : Nat := 0x4F64 + i * 0x18
def ACC_XCFG : Nat := 0x4FB0
def ACC_CTL : Nat := 0x4FB4
def ACC_CMD : Nat := 0x4FB8
def ACC_STAT : Nat := 0x4FBC
def ACC_SATF : Nat := 0x4FC0
def ACC_SATX : Nat := 0x4FC4
def ACC_NEW (i : Nat) : Nat := 0x4FC8 + i * 0x4
def ACC_NEWX : Nat := 0x4FD8
def ACC_WHELD : Nat := 0x4FDC
def BAL_CTL : Nat := 0x5000
def BAL_STAT : Nat := 0x5004
def BAL_CMDQ : Nat := 0x5008
def BAL_CMD : Nat := 0x500C
def BAL_CMDRES : Nat := 0x5010
def BAL_BUSCTL : Nat := 0x5014
def BAL_BUSSTAT : Nat := 0x5018
def BAL_HOCTL : Nat := 0x501C
def BAL_EVT : Nat := 0x5020
def BAL_SHCFG (i : Nat) : Nat := 0x5040 + i * 0x20
def BAL_SHLIM (i : Nat) : Nat := 0x5044 + i * 0x20
def BAL_SHSTAT (i : Nat) : Nat := 0x5048 + i * 0x20
def BAL_QDONE (i : Nat) : Nat := 0x504C + i * 0x20
def BAL_IMEAS (i : Nat) : Nat := 0x5050 + i * 0x20
def BAL_XCTL (i : Nat) : Nat := 0x5054 + i * 0x20
def BAL_XFRQ (i : Nat) : Nat := 0x5058 + i * 0x20
def BAL_XAMP (i : Nat) : Nat := 0x505C + i * 0x20
def BAL_QCELL (i : Nat) : Nat := 0x5100 + i * 0x4
def BAL_TAPRES (i : Nat) : Nat := 0x5180 + i * 0x4
def GRD_OVEN : Nat := 0x6000
def GRD_UVEN : Nat := 0x6004
def GRD_CTH : Nat := 0x6008
def GRD_TCFG : Nat := 0x600C
def GRD_TTH (i : Nat) : Nat := 0x6010 + i * 0x4
def GRD_STH : Nat := 0x6020
def GRD_GCFG : Nat := 0x6024
def GRD_SAFECFG : Nat := 0x6028
def GRD_CFGCRC : Nat := 0x602C
def GRD_PAIRSET : Nat := 0x6030
def GRD_CTL : Nat := 0x6034
def GRD_STAT : Nat := 0x6040
def GRD_ACTCRC : Nat := 0x6044
def GRD_GLATCH : Nat := 0x6048
def GRD_GLIVE : Nat := 0x604C
def GRD_COVL : Nat := 0x6050
def GRD_CUVL : Nat := 0x6054
def GRD_TLAT : Nat := 0x6058
def GRD_STEST : Nat := 0x605C
def GRD_SAFECTL : Nat := 0x6060
def GRD_SAFESTAT : Nat := 0x6064
def GRD_SAFECNT : Nat := 0x6068
def TIM_TBL : Nat := 0x7000
def TIM_TBH : Nat := 0x7004
def TIM_STAT : Nat := 0x7008
def TIM_ALIGN : Nat := 0x700C
def TIM_PDLY : Nat := 0x7010
def TIM_PDLYR : Nat := 0x7014
def TIM_PHASE : Nat := 0x7018
def TIM_PHCFG : Nat := 0x701C
def TIM_PHTX : Nat := 0x7020
def TIM_PHSTAT : Nat := 0x7024
def TIM_PINC : Nat := 0x7028
def TIM_PMBL : Nat := 0x702C
def TIM_PMBH : Nat := 0x7030
def TIM_PMPC : Nat := 0x7034
def TIM_PSWINC : Nat := 0x7038
def TIM_TCMPL (i : Nat) : Nat := 0x7040 + i * 0x10
def TIM_TCMPH (i : Nat) : Nat := 0x7044 + i * 0x10
def TIM_TCMPINC (i : Nat) : Nat := 0x7048 + i * 0x10
def TIM_PCMP (i : Nat) : Nat := 0x7080 + i * 0x8
def TIM_PCMPINC (i : Nat) : Nat := 0x7084 + i * 0x8
def TIM_CMPSTAT : Nat := 0x70A0
def TIM_CMPIE : Nat := 0x70A4
def TIM_CMPCTL : Nat := 0x70A8
def TIM_CAPCFG (i : Nat) : Nat := 0x70B0 + i * 0x10
def TIM_CAPL (i : Nat) : Nat := 0x70B4 + i * 0x10
def TIM_CAPH (i : Nat) : Nat := 0x70B8 + i * 0x10
def TIM_CAPSTAT : Nat := 0x70F0
def TIM_AUXCMP : Nat := 0x70F4
def FLT_STAT : Nat := 0x8000
def FLT_ACK : Nat := 0x8004
def FLT_CLSA : Nat := 0x8008
def FLT_CLSB : Nat := 0x800C
def FLT_DISCGEN : Nat := 0x8010
def FLT_CNT : Nat := 0x8014
def FLT_LKREF : Nat := 0x8018
def FLT_UNLCH : Nat := 0x801C
def FLT_UNLOCK : Nat := 0x8020
def FLT_CFG : Nat := 0x8024
def FLT_FSRC (i : Nat) : Nat := 0x8040 + i * 0x10
def FLT_FINFO (i : Nat) : Nat := 0x8044 + i * 0x10
def FLT_FSTL (i : Nat) : Nat := 0x8048 + i * 0x10
def FLT_FSTH (i : Nat) : Nat := 0x804C + i * 0x10
def SEC_STAT : Nat := 0x9000
def SEC_CTL : Nat := 0x9004
def SEC_POLICY : Nat := 0x9008
def SEC_ALM : Nat := 0x900C
def SEC_AFAIL : Nat := 0x9010
def SEC_KVER : Nat := 0x9014
def SEC_DNONCE : Nat := 0x9018
def SEC_PROVRES : Nat := 0x901C
def SEC_PROVBUF (i : Nat) : Nat := 0x9020 + i * 0x4
def SEC_TCH : Nat := 0x9040
def SEC_TTOKL : Nat := 0x9044
def SEC_TTOKH : Nat := 0x9048
def SEC_NONCE (i : Nat) : Nat := 0x9050 + i * 0x4
def CHK_CFG : Nat := 0xA000
def CHK_POLY : Nat := 0xA004
def CHK_INIT : Nat := 0xA008
def CHK_EXP : Nat := 0xA00C
def CHK_START : Nat := 0xA010
def CHK_LEN : Nat := 0xA014
def CHK_CMD : Nat := 0xA018
def CHK_STAT : Nat := 0xA01C
def CHK_RUN : Nat := 0xA020
def CHK_RES : Nat := 0xA024
def CHK_POS : Nat := 0xA028
def CHK_REM : Nat := 0xA02C
def CHK_FLT : Nat := 0xA030
def BST_CTL : Nat := 0xB000
def BST_STAT : Nat := 0xB004
def BST_MCFG : Nat := 0xB008
def BST_MSTAT : Nat := 0xB00C
def BST_MFAIL : Nat := 0xB010
def BST_MFCNT : Nat := 0xB014
def BST_LSTAT : Nat := 0xB018
def BST_CCFG : Nat := 0xB01C
def BST_CSTAT : Nat := 0xB020
def BST_CFAIL : Nat := 0xB024
def BST_CFAILX : Nat := 0xB028
def BST_DCFG : Nat := 0xB030
def BST_DCELL : Nat := 0xB034
def BST_DTOL : Nat := 0xB038
def BST_DDAC : Nat := 0xB03C
def BST_OWCFG : Nat := 0xB040
def BST_BTCFG : Nat := 0xB044
def BST_BTI : Nat := 0xB048
def BST_DSTAT : Nat := 0xB04C
def BST_DFAIL : Nat := 0xB050
def BST_DFAILX : Nat := 0xB054
def BST_DLAST : Nat := 0xB058
def BST_OWOPEN : Nat := 0xB05C
def BST_OWRES : Nat := 0xB060
def BST_OWX : Nat := 0xB064
def BST_BTSTAT : Nat := 0xB068
def BST_EVT : Nat := 0xB06C
def PRF_CTL : Nat := 0xC000
def PRF_STAT : Nat := 0xC004
def PRF_UEN : Nat := 0xC008
def PRF_CYCL : Nat := 0xC010
def PRF_CYCH : Nat := 0xC014
def PRF_PMC (i : Nat) : Nat := 0xC020 + i * 0x8
def PRF_PMCFG (i : Nat) : Nat := 0xC024 + i * 0x8
def PRF_SAMP : Nat := 0xC050
def PRF_TAGCFG : Nat := 0xC060
def PRF_TAGSTAT : Nat := 0xC064
def PRF_TAG0 (i : Nat) : Nat := 0xC080 + i * 0x18
def PRF_TAG1 (i : Nat) : Nat := 0xC084 + i * 0x18
def PRF_TAG2 (i : Nat) : Nat := 0xC088 + i * 0x18
def PRF_TAG3 (i : Nat) : Nat := 0xC08C + i * 0x18
def PRF_TAG4 (i : Nat) : Nat := 0xC090 + i * 0x18
def PRF_TAG5 (i : Nat) : Nat := 0xC094 + i * 0x18
def CAL_OFS (i : Nat) : Nat := 0xD000 + i * 0x18
def CAL_GAIN (i : Nat) : Nat := 0xD004 + i * 0x18
def CAL_TRIM0 (i : Nat) : Nat := 0xD008 + i * 0x18
def CAL_TRIM1 (i : Nat) : Nat := 0xD00C + i * 0x18
def CAL_TRIM2 (i : Nat) : Nat := 0xD010 + i * 0x18
def CAL_TRIM3 (i : Nat) : Nat := 0xD014 + i * 0x18
def CAL_EQ0 (i : Nat) : Nat := 0xD340 + i * 0x8
def CAL_EQ1 (i : Nat) : Nat := 0xD344 + i * 0x8
def CAL_META : Nat := 0xD350
def CAL_CTL : Nat := 0xD380
def CAL_CMD : Nat := 0xD384
def CAL_UNLOCK : Nat := 0xD388
def CAL_CHECK : Nat := 0xD38C
def CAL_SCRC : Nat := 0xD390
def CAL_HCRC : Nat := 0xD394
def CAL_STAT : Nat := 0xD398
def CAL_STALE : Nat := 0xD39C
def CAL_GEN : Nat := 0xD3A0
def CAL_TREF : Nat := 0xD3A4
def CAL_MAXAGE : Nat := 0xD3A8
def CAL_TRKLIM : Nat := 0xD3AC
def CAL_QLIM : Nat := 0xD3B0
def CAL_SNAP : Nat := 0xD3B4
def CAL_TRKCNT : Nat := 0xD3B8
def CAL_QRES (i : Nat) : Nat := 0xD3C0 + i * 0x4
def CAL_QEYE : Nat := 0xD3E4
def CAL_QLOOP (i : Nat) : Nat := 0xD3F0 + i * 0x4
def CAL_EQLIVE0 (i : Nat) : Nat := 0xD400 + i * 0x8
def CAL_EQLIVE1 (i : Nat) : Nat := 0xD404 + i * 0x8
def LOG_STAT : Nat := 0xE000
def LOG_CFG : Nat := 0xE004
def LOG_CTL : Nat := 0xE008
def LOG_ERASE : Nat := 0xE00C
def LOG_HEADOFS : Nat := 0xE010
def LOG_HEADSEQL : Nat := 0xE014
def LOG_HEADSEQH : Nat := 0xE018
def LOG_HEADTAG (i : Nat) : Nat := 0xE01C + i * 0x4
def LOG_TAILOFS : Nat := 0xE030
def LOG_TAILSEQL : Nat := 0xE034
def LOG_TAILSEQH : Nat := 0xE038
def LOG_TAILTAG (i : Nat) : Nat := 0xE03C + i * 0x4
def LOG_WEAR : Nat := 0xE050
def LOG_ECC : Nat := 0xE054
def LOG_DROP : Nat := 0xE058
def LOG_BOOT : Nat := 0xE05C
def LOG_UTC : Nat := 0xE060
def LOG_RDSTART : Nat := 0xE070
def LOG_RDLEN : Nat := 0xE074
def LOG_RDCTL : Nat := 0xE078
def LOG_RDSTAT : Nat := 0xE07C
def LOG_SNAP : Nat := 0xE080
def TWN_STAT : Nat := 0xF000
def TWN_PAIRID : Nat := 0xF004
def TWN_DLY : Nat := 0xF008
def TWN_CFG : Nat := 0xF00C
def TWN_TOL : Nat := 0xF010
def TWN_DIFF : Nat := 0xF014
def TWN_CMPCNT : Nat := 0xF018
def TWN_EVT : Nat := 0xF01C
def TWN_LASTD : Nat := 0xF020
def TWN_CCCFG : Nat := 0xF040
def TWN_CCSTAT : Nat := 0xF044
def TWN_CCCNT : Nat := 0xF048
def TWN_CCFIRST : Nat := 0xF04C
def TWN_CCMM (i : Nat) : Nat := 0xF050 + i * 0x4
def TWN_CCSGL (i : Nat) : Nat := 0xF060 + i * 0x4
def TWN_CCLOST (i : Nat) : Nat := 0xF070 + i * 0x4
def TWN_CCSEL : Nat := 0xF080
def TWN_CCRAW (i : Nat) : Nat := 0xF084 + i * 0x4

end R

namespace F

/-! SYS_ID (R3) -/
def SYS_ID_PART : Fld := ⟨0x0000, 16, 16⟩
def SYS_ID_SILLET : Fld := ⟨0x0000, 12, 4⟩
def SYS_ID_SILDIG : Fld := ⟨0x0000, 8, 4⟩
def SYS_ID_FAMILY : Fld := ⟨0x0000, 4, 4⟩
/-! SYS_STRAP (R611) -/
def SYS_STRAP_UNSTABLE : Fld := ⟨0x0004, 2, 1⟩
def SYS_STRAP_TWINSEL : Fld := ⟨0x0004, 1, 1⟩
def SYS_STRAP_HEADSEL : Fld := ⟨0x0004, 0, 1⟩
/-! SYS_CLKSTAT (R38) -/
def SYS_CLKSTAT_SOLO : Fld := ⟨0x0008, 7, 1⟩
def SYS_CLKSTAT_ALIGNED : Fld := ⟨0x0008, 6, 1⟩
def SYS_CLKSTAT_PLOCK : Fld := ⟨0x0008, 5, 1⟩
def SYS_CLKSTAT_FLOCK : Fld := ⟨0x0008, 4, 1⟩
def SYS_CLKSTAT_RCOK : Fld := ⟨0x0008, 3, 1⟩
def SYS_CLKSTAT_MAINOK : Fld := ⟨0x0008, 2, 1⟩
def SYS_CLKSTAT_LOSTF : Fld := ⟨0x0008, 1, 1⟩
def SYS_CLKSTAT_LOSTP : Fld := ⟨0x0008, 0, 1⟩
/-! SYS_PWRSTAT (R611) -/
def SYS_PWRSTAT_PRES : Fld := ⟨0x0010, 24, 4⟩
def SYS_PWRSTAT_WCAUSE : Fld := ⟨0x0010, 16, 8⟩
def SYS_PWRSTAT_FOREIGN : Fld := ⟨0x0010, 11, 1⟩
def SYS_PWRSTAT_TENT : Fld := ⟨0x0010, 10, 1⟩
def SYS_PWRSTAT_WOKE : Fld := ⟨0x0010, 9, 1⟩
def SYS_PWRSTAT_STATE : Fld := ⟨0x0010, 0, 3⟩
/-! SYS_PWRCTL (R611) -/
def SYS_PWRCTL_WAKE : Fld := ⟨0x0014, 2, 1⟩
def SYS_PWRCTL_RELEASE : Fld := ⟨0x0014, 1, 1⟩
def SYS_PWRCTL_SLEEP : Fld := ⟨0x0014, 0, 1⟩
/-! SYS_COMMTMO (R611) -/
def SYS_COMMTMO_TMO : Fld := ⟨0x0018, 0, 16⟩
/-! SYS_RSTCAUSE (R611) -/
def SYS_RSTCAUSE_LKOW : Fld := ⟨0x001C, 2, 1⟩
def SYS_RSTCAUSE_WARM : Fld := ⟨0x001C, 1, 1⟩
def SYS_RSTCAUSE_POR : Fld := ⟨0x001C, 0, 1⟩
/-! SYS_RSTCMD (R611) -/
def SYS_RSTCMD_KEY : Fld := ⟨0x0020, 0, 32⟩
/-! SYS_WAKE (R611) -/
def SYS_WAKE_WEN : Fld := ⟨0x0024, 8, 1⟩
def SYS_WAKE_PORT : Fld := ⟨0x0024, 1, 1⟩
def SYS_WAKE_TONE : Fld := ⟨0x0024, 0, 1⟩
/-! SYS_SLPT (R611) -/
def SYS_SLPT_SEC : Fld := ⟨0x0028, 0, 32⟩
/-! SYS_EMBCFG (R611) -/
def SYS_EMBCFG_EN : Fld := ⟨0x0030, 31, 1⟩
def SYS_EMBCFG_TMASK : Fld := ⟨0x0030, 18, 4⟩
def SYS_EMBCFG_TONE : Fld := ⟨0x0030, 16, 1⟩
def SYS_EMBCFG_INTV : Fld := ⟨0x0030, 0, 12⟩
/-! SYS_EMBTHV (R611) -/
def SYS_EMBTHV_OV : Fld := ⟨0x0034, 16, 16⟩
def SYS_EMBTHV_UV : Fld := ⟨0x0034, 0, 16⟩
/-! SYS_EMBTHX (R611) -/
def SYS_EMBTHX_IMB : Fld := ⟨0x0038, 16, 16⟩
def SYS_EMBTHX_HOT : Fld := ⟨0x0038, 8, 8⟩
def SYS_EMBTHX_COLD : Fld := ⟨0x0038, 0, 8⟩
/-! SYS_EMBSTAT (R611) -/
def SYS_EMBSTAT_CHECKS : Fld := ⟨0x003C, 16, 16⟩
def SYS_EMBSTAT_TONES : Fld := ⟨0x003C, 8, 8⟩
def SYS_EMBSTAT_CROSS : Fld := ⟨0x003C, 0, 5⟩
/-! SYS_EMBRES (R611) -/
def SYS_EMBRES_MAX : Fld := ⟨0x0040, 16, 16⟩
def SYS_EMBRES_MIN : Fld := ⟨0x0040, 0, 16⟩
/-! CHN_ADDR (R390) -/
def CHN_ADDR_KID : Fld := ⟨0x1000, 16, 16⟩
def CHN_ADDR_TENT : Fld := ⟨0x1000, 9, 1⟩
def CHN_ADDR_VALID : Fld := ⟨0x1000, 8, 1⟩
def CHN_ADDR_ADDR : Fld := ⟨0x1000, 0, 7⟩
/-! CHN_TOKL (R390) -/
def CHN_TOKL_TOKL : Fld := ⟨0x1004, 0, 32⟩
/-! CHN_TOKH (R390) -/
def CHN_TOKH_TOKH : Fld := ⟨0x1008, 0, 16⟩
/-! CHN_PSTAT (R390) -/
def CHN_PSTAT_BREV : Fld := ⟨0x100C, 16, 4⟩
def CHN_PSTAT_REV : Fld := ⟨0x100C, 8, 4⟩
def CHN_PSTAT_UPST : Fld := ⟨0x100C, 4, 2⟩
def CHN_PSTAT_DNST : Fld := ⟨0x100C, 0, 2⟩
/-! CHN_LERR (R390) -/
def CHN_LERR_UP : Fld := ⟨0x1010, 16, 16⟩
def CHN_LERR_DN : Fld := ⟨0x1010, 0, 16⟩
/-! CHN_UERR (R390) -/
def CHN_UERR_STOMP : Fld := ⟨0x1014, 16, 16⟩
def CHN_UERR_FAIL : Fld := ⟨0x1014, 0, 16⟩
/-! CHN_FREV (R390) -/
def CHN_FREV_RSVT : Fld := ⟨0x1018, 16, 16⟩
def CHN_FREV_CNT : Fld := ⟨0x1018, 0, 16⟩
/-! CHN_EFLAG (R390) -/
def CHN_EFLAG_SQOVF : Fld := ⟨0x101C, 7, 1⟩
def CHN_EFLAG_EYELOW : Fld := ⟨0x101C, 6, 1⟩
def CHN_EFLAG_DNDOWN : Fld := ⟨0x101C, 5, 1⟩
def CHN_EFLAG_UPDOWN : Fld := ⟨0x101C, 4, 1⟩
def CHN_EFLAG_FREV : Fld := ⟨0x101C, 3, 1⟩
def CHN_EFLAG_STOMP : Fld := ⟨0x101C, 2, 1⟩
def CHN_EFLAG_LERRUP : Fld := ⟨0x101C, 1, 1⟩
def CHN_EFLAG_LERRDN : Fld := ⟨0x101C, 0, 1⟩
/-! CHN_HEAL (R390) -/
def CHN_HEAL_BHI : Fld := ⟨0x1020, 16, 7⟩
def CHN_HEAL_BLO : Fld := ⟨0x1020, 8, 7⟩
def CHN_HEAL_SIDE : Fld := ⟨0x1020, 0, 2⟩
/-! CHN_TMO (R391) -/
def CHN_TMO_RETRY : Fld := ⟨0x1024, 16, 4⟩
def CHN_TMO_TMO : Fld := ⟨0x1024, 0, 16⟩
/-! CHN_TRIGCFG (R391) -/
def CHN_TRIGCFG_DEST : Fld := ⟨0x1028, 24, 7⟩
def CHN_TRIGCFG_PHS : Fld := ⟨0x1028, 16, 2⟩
def CHN_TRIGCFG_LEAD : Fld := ⟨0x1028, 0, 16⟩
/-! CHN_TRIGL (R391) -/
def CHN_TRIGL_TL : Fld := ⟨0x102C, 0, 32⟩
/-! CHN_TRIGH (R391) -/
def CHN_TRIGH_TID : Fld := ⟨0x1030, 24, 8⟩
def CHN_TRIGH_FINE : Fld := ⟨0x1030, 16, 5⟩
def CHN_TRIGH_TH : Fld := ⟨0x1030, 0, 16⟩
/-! CHN_TRIGSTAT (R391) -/
def CHN_TRIGSTAT_TID : Fld := ⟨0x1034, 24, 8⟩
def CHN_TRIGSTAT_LATE : Fld := ⟨0x1034, 0, 16⟩
/-! CHN_KCTL (R391) -/
def CHN_KCTL_NFOREIGN : Fld := ⟨0x1038, 24, 8⟩
def CHN_KCTL_FIRST : Fld := ⟨0x1038, 8, 7⟩
def CHN_KCTL_MODE : Fld := ⟨0x1038, 4, 1⟩
def CHN_KCTL_KSTATE : Fld := ⟨0x1038, 2, 2⟩
def CHN_KCTL_GO : Fld := ⟨0x1038, 0, 1⟩
/-! CHN_KSTAT (R391) -/
def CHN_KSTAT_KID : Fld := ⟨0x103C, 16, 16⟩
def CHN_KSTAT_REVS : Fld := ⟨0x103C, 8, 8⟩
def CHN_KSTAT_OPEN : Fld := ⟨0x103C, 7, 1⟩
def CHN_KSTAT_N : Fld := ⟨0x103C, 0, 7⟩
/-! CHN_BRK (R391) -/
def CHN_BRK_STATE : Fld := ⟨0x1040, 30, 2⟩
def CHN_BRK_BHI : Fld := ⟨0x1040, 16, 7⟩
def CHN_BRK_BLO : Fld := ⟨0x1040, 8, 7⟩
def CHN_BRK_CAUSE : Fld := ⟨0x1040, 0, 4⟩
/-! CHN_RFWD (R391) -/
def CHN_RFWD_RFWD : Fld := ⟨0x1044, 0, 32⟩
/-! CHN_RTOT (R391) -/
def CHN_RTOT_RTOT : Fld := ⟨0x1048, 0, 32⟩
/-! CHN_IRQST (R392) -/
def CHN_IRQST_SAFE : Fld := ⟨0x104C, 9, 1⟩
def CHN_IRQST_SPIERR : Fld := ⟨0x104C, 8, 1⟩
def CHN_IRQST_RXOVF : Fld := ⟨0x104C, 7, 1⟩
def CHN_IRQST_FAULTSYM : Fld := ⟨0x104C, 6, 1⟩
def CHN_IRQST_KDONE : Fld := ⟨0x104C, 5, 1⟩
def CHN_IRQST_HEALED : Fld := ⟨0x104C, 4, 1⟩
def CHN_IRQST_BREAK : Fld := ⟨0x104C, 3, 1⟩
def CHN_IRQST_TMO : Fld := ⟨0x104C, 2, 1⟩
def CHN_IRQST_TXFREE : Fld := ⟨0x104C, 1, 1⟩
def CHN_IRQST_RXWM : Fld := ⟨0x104C, 0, 1⟩
/-! CHN_IRQEN (R392) -/
def CHN_IRQEN_EN : Fld := ⟨0x1050, 0, 10⟩
/-! CHN_HQCTL (R392) -/
def CHN_HQCTL_SEQCOPY : Fld := ⟨0x1054, 16, 1⟩
def CHN_HQCTL_WM : Fld := ⟨0x1054, 0, 10⟩
/-! CHN_HQSTAT (R392) -/
def CHN_HQSTAT_RXFR : Fld := ⟨0x1058, 22, 10⟩
def CHN_HQSTAT_TXFREE : Fld := ⟨0x1058, 16, 5⟩
def CHN_HQSTAT_RXOVF : Fld := ⟨0x1058, 0, 16⟩
/-! CHN_SPIERR (R392) -/
def CHN_SPIERR_OP : Fld := ⟨0x105C, 16, 16⟩
def CHN_SPIERR_CRC : Fld := ⟨0x105C, 0, 16⟩
/-! CHN_SQSTAT (R392) -/
def CHN_SQSTAT_OVF : Fld := ⟨0x1060, 16, 8⟩
def CHN_SQSTAT_TXN : Fld := ⟨0x1060, 8, 4⟩
def CHN_SQSTAT_RXN : Fld := ⟨0x1060, 0, 3⟩
/-! SEQ_CTL (R313) -/
def SEQ_CTL_IEN : Fld := ⟨0x2000, 0, 1⟩
/-! SEQ_STAT (R313) -/
def SEQ_STAT_PC : Fld := ⟨0x2004, 16, 14⟩
def SEQ_STAT_RUNPEND : Fld := ⟨0x2004, 8, 1⟩
def SEQ_STAT_HCAUSE : Fld := ⟨0x2004, 5, 3⟩
def SEQ_STAT_BANK : Fld := ⟨0x2004, 4, 1⟩
def SEQ_STAT_MODE : Fld := ⟨0x2004, 3, 1⟩
def SEQ_STAT_STALL : Fld := ⟨0x2004, 2, 1⟩
def SEQ_STAT_HALT : Fld := ⟨0x2004, 1, 1⟩
def SEQ_STAT_RUN : Fld := ⟨0x2004, 0, 1⟩
/-! SEQ_IP (R313) -/
def SEQ_IP_IP : Fld := ⟨0x2008, 0, 16⟩
/-! SEQ_IE (R313) -/
def SEQ_IE_IE : Fld := ⟨0x200C, 0, 16⟩
/-! SEQ_EPC (R313) -/
def SEQ_EPC_EPC : Fld := ⟨0x2010, 0, 13⟩
/-! SEQ_ESR (R313) -/
def SEQ_ESR_IEN : Fld := ⟨0x2014, 5, 1⟩
def SEQ_ESR_MODE : Fld := ⟨0x2014, 4, 1⟩
def SEQ_ESR_Z : Fld := ⟨0x2014, 3, 1⟩
def SEQ_ESR_N : Fld := ⟨0x2014, 2, 1⟩
def SEQ_ESR_C : Fld := ⟨0x2014, 1, 1⟩
def SEQ_ESR_V : Fld := ⟨0x2014, 0, 1⟩
/-! SEQ_EXC (R313) -/
def SEQ_EXC_CAUSE : Fld := ⟨0x2018, 0, 4⟩
/-! SEQ_EXCI (R313) -/
def SEQ_EXCI_INFO : Fld := ⟨0x201C, 0, 32⟩
/-! SEQ_GRANT (R313) -/
def SEQ_GRANT_CHAIN : Fld := ⟨0x2020, 20, 1⟩
def SEQ_GRANT_LOG : Fld := ⟨0x2020, 19, 1⟩
def SEQ_GRANT_CRC : Fld := ⟨0x2020, 18, 1⟩
def SEQ_GRANT_BAL : Fld := ⟨0x2020, 17, 1⟩
def SEQ_GRANT_MEAS : Fld := ⟨0x2020, 16, 1⟩
def SEQ_GRANT_BLK : Fld := ⟨0x2020, 0, 16⟩
/-! SEQ_UWIN (R313) -/
def SEQ_UWIN_SIZE : Fld := ⟨0x2024, 16, 9⟩
def SEQ_UWIN_BASE : Fld := ⟨0x2024, 0, 9⟩
/-! SEQ_UREG (R313) -/
def SEQ_UREG_UEND : Fld := ⟨0x2028, 16, 14⟩
def SEQ_UREG_USTART : Fld := ⟨0x2028, 0, 13⟩
/-! SEQ_DOOR (R313) -/
def SEQ_DOOR_DOOR : Fld := ⟨0x202C, 0, 32⟩
/-! SEQ_BANK (R313) -/
def SEQ_BANK_UVAL : Fld := ⟨0x2030, 8, 2⟩
def SEQ_BANK_VALID : Fld := ⟨0x2030, 4, 2⟩
def SEQ_BANK_ACT : Fld := ⟨0x2030, 0, 1⟩
/-! SEQ_BVER (R313) -/
def SEQ_BVER_VERSION (i : Nat) : Fld := ⟨0x2040 + i * 0x10, 0, 32⟩
/-! SEQ_BGEN (R313) -/
def SEQ_BGEN_LREV (i : Nat) : Fld := ⟨0x2044 + i * 0x10, 16, 4⟩
def SEQ_BGEN_IFGEN (i : Nat) : Fld := ⟨0x2044 + i * 0x10, 0, 16⟩
/-! SEQ_BLEN (R313) -/
def SEQ_BLEN_LEN (i : Nat) : Fld := ⟨0x2048 + i * 0x10, 0, 14⟩
/-! SEQ_BCRC (R313) -/
def SEQ_BCRC_CODECRC (i : Nat) : Fld := ⟨0x204C + i * 0x10, 0, 32⟩
/-! SEQ_LDCTL (R313) -/
def SEQ_LDCTL_ABORT : Fld := ⟨0x2060, 0, 1⟩
/-! SEQ_LDSTAT (R313) -/
def SEQ_LDSTAT_CHUNKS : Fld := ⟨0x2064, 16, 16⟩
def SEQ_LDSTAT_CAUSE : Fld := ⟨0x2064, 8, 4⟩
def SEQ_LDSTAT_MISSING : Fld := ⟨0x2064, 4, 1⟩
def SEQ_LDSTAT_KIND : Fld := ⟨0x2064, 3, 1⟩
def SEQ_LDSTAT_STATE : Fld := ⟨0x2064, 0, 3⟩
/-! SEQ_RUNVER (R313) -/
def SEQ_RUNVER_VERSION : Fld := ⟨0x2068, 0, 32⟩
/-! SEQ_RUN (R313) -/
def SEQ_RUN_PCB : Fld := ⟨0x206C, 16, 16⟩
def SEQ_RUN_FORM : Fld := ⟨0x206C, 0, 2⟩
/-! SEQ_RUNSTAT (R313) -/
def SEQ_RUNSTAT_PCB : Fld := ⟨0x2070, 16, 16⟩
def SEQ_RUNSTAT_PEND : Fld := ⟨0x2070, 8, 1⟩
def SEQ_RUNSTAT_CAUSE : Fld := ⟨0x2070, 4, 4⟩
def SEQ_RUNSTAT_FORM : Fld := ⟨0x2070, 0, 2⟩
/-! SEQ_LDMAP (R313) -/
def SEQ_LDMAP_MAP (i : Nat) : Fld := ⟨0x2080 + i * 0x4, 0, 32⟩
/-! SEQ_MBOX (R680) -/
def SEQ_MBOX_MBOX (i : Nat) : Fld := ⟨0x2400 + i * 0x4, 0, 32⟩
/-! CONV_CHEN (R133) -/
def CONV_CHEN_CELL : Fld := ⟨0x3000, 0, 32⟩
/-! CONV_DEVEN (R134) -/
def CONV_DEVEN_AUX : Fld := ⟨0x3004, 1, 1⟩
def CONV_DEVEN_CUR : Fld := ⟨0x3004, 0, 1⟩
/-! CONV_TRIG (R135) -/
def CONV_TRIG_ONESHOT : Fld := ⟨0x3008, 8, 1⟩
def CONV_TRIG_CMP : Fld := ⟨0x3008, 4, 2⟩
def CONV_TRIG_SRC : Fld := ⟨0x3008, 0, 3⟩
/-! CONV_DLY (R136) -/
def CONV_DLY_FINE : Fld := ⟨0x300C, 16, 5⟩
def CONV_DLY_COARSE : Fld := ⟨0x300C, 0, 16⟩
/-! CONV_SWEEP (R137) -/
def CONV_SWEEP_COUNT : Fld := ⟨0x3010, 0, 16⟩
/-! CONV_INTV (R138) -/
def CONV_INTV_UNIT : Fld := ⟨0x3014, 16, 1⟩
def CONV_INTV_INTV : Fld := ⟨0x3014, 0, 16⟩
/-! CONV_AUXCTL (R139) -/
def CONV_AUXCTL_POS : Fld := ⟨0x3018, 8, 4⟩
def CONV_AUXCTL_RESTART : Fld := ⟨0x3018, 4, 1⟩
def CONV_AUXCTL_LEN : Fld := ⟨0x3018, 0, 4⟩
/-! CONV_AUXSEQ0 (R140) -/
def CONV_AUXSEQ0_ENT : Fld := ⟨0x301C, 0, 32⟩
/-! CONV_AUXSEQ1 (R140) -/
def CONV_AUXSEQ1_ENT : Fld := ⟨0x3020, 0, 32⟩
/-! CONV_CMD (R141) -/
def CONV_CMD_STOP : Fld := ⟨0x3024, 3, 1⟩
def CONV_CMD_DISARM : Fld := ⟨0x3024, 2, 1⟩
def CONV_CMD_ARM : Fld := ⟨0x3024, 1, 1⟩
def CONV_CMD_GO : Fld := ⟨0x3024, 0, 1⟩
/-! CONV_STAT (R142) -/
def CONV_STAT_IDX : Fld := ⟨0x3028, 16, 16⟩
def CONV_STAT_CALRUN : Fld := ⟨0x3028, 4, 1⟩
def CONV_STAT_INJRUN : Fld := ⟨0x3028, 3, 1⟩
def CONV_STAT_INJPEND : Fld := ⟨0x3028, 2, 1⟩
def CONV_STAT_ARMED : Fld := ⟨0x3028, 1, 1⟩
def CONV_STAT_INFL : Fld := ⟨0x3028, 0, 1⟩
/-! CONV_MISS (R143) -/
def CONV_MISS_CNT : Fld := ⟨0x302C, 0, 16⟩
/-! CONV_MISSC (R143) -/
def CONV_MISSC_INJ : Fld := ⟨0x3030, 6, 1⟩
def CONV_MISSC_PHASE : Fld := ⟨0x3030, 5, 1⟩
def CONV_MISSC_RATE : Fld := ⟨0x3030, 4, 1⟩
def CONV_MISSC_LATE : Fld := ⟨0x3030, 3, 1⟩
def CONV_MISSC_STATE : Fld := ⟨0x3030, 2, 1⟩
def CONV_MISSC_CAL : Fld := ⟨0x3030, 1, 1⟩
def CONV_MISSC_BUSY : Fld := ⟨0x3030, 0, 1⟩
/-! CONV_DROP (R144) -/
def CONV_DROP_RATE : Fld := ⟨0x3034, 16, 16⟩
def CONV_DROP_INJ : Fld := ⟨0x3034, 0, 16⟩
/-! CONV_INJ (R145) -/
def CONV_INJ_DRW : Fld := ⟨0x3038, 8, 2⟩
def CONV_INJ_AUXSLOT : Fld := ⟨0x3038, 4, 4⟩
def CONV_INJ_AUX : Fld := ⟨0x3038, 2, 1⟩
def CONV_INJ_CUR : Fld := ⟨0x3038, 1, 1⟩
def CONV_INJ_REQ : Fld := ⟨0x3038, 0, 1⟩
/-! CONV_INJCH (R145) -/
def CONV_INJCH_CELL : Fld := ⟨0x303C, 0, 32⟩
/-! CONV_FADJ (R146) -/
def CONV_FADJ_VALID : Fld := ⟨0x3040, 8, 1⟩
def CONV_FADJ_FRAC : Fld := ⟨0x3040, 0, 5⟩
/-! CONV_TSL (R147) -/
def CONV_TSL_TICKL : Fld := ⟨0x3044, 0, 32⟩
/-! CONV_TSH (R147) -/
def CONV_TSH_FINE : Fld := ⟨0x3048, 16, 5⟩
def CONV_TSH_TICKH : Fld := ⟨0x3048, 0, 16⟩
/-! CONV_ORF (R148) -/
def CONV_ORF_CELL : Fld := ⟨0x304C, 0, 32⟩
/-! CONV_URF (R148) -/
def CONV_URF_CELL : Fld := ⟨0x3050, 0, 32⟩
/-! CONV_RNGX (R148) -/
def CONV_RNGX_AUX : Fld := ⟨0x3054, 1, 1⟩
def CONV_RNGX_CUR : Fld := ⟨0x3054, 0, 1⟩
/-! CONV_DIAG (R149) -/
def CONV_DIAG_ISRC : Fld := ⟨0x3058, 4, 2⟩
def CONV_DIAG_CSRC : Fld := ⟨0x3058, 0, 2⟩
/-! CONV_DIAGCH (R149) -/
def CONV_DIAGCH_CELL : Fld := ⟨0x305C, 0, 32⟩
/-! CONV_TDAC (R149) -/
def CONV_TDAC_EN : Fld := ⟨0x3060, 16, 1⟩
def CONV_TDAC_CODE : Fld := ⟨0x3060, 0, 10⟩
/-! ACC_RSTAT (R188) -/
def ACC_RSTAT_SEQ (i : Nat) (j : Nat) : Fld := ⟨0x4000 + i * 0x60 + j * 0x18, 24, 8⟩
def ACC_RSTAT_DGEN (i : Nat) (j : Nat) : Fld := ⟨0x4000 + i * 0x60 + j * 0x18, 16, 8⟩
def ACC_RSTAT_CGEN (i : Nat) (j : Nat) : Fld := ⟨0x4000 + i * 0x60 + j * 0x18, 12, 4⟩
def ACC_RSTAT_CMIX (i : Nat) (j : Nat) : Fld := ⟨0x4000 + i * 0x60 + j * 0x18, 11, 1⟩
def ACC_RSTAT_CSTALE (i : Nat) (j : Nat) : Fld := ⟨0x4000 + i * 0x60 + j * 0x18, 10, 1⟩
def ACC_RSTAT_PHV (i : Nat) (j : Nat) : Fld := ⟨0x4000 + i * 0x60 + j * 0x18, 9, 1⟩
def ACC_RSTAT_GAP (i : Nat) (j : Nat) : Fld := ⟨0x4000 + i * 0x60 + j * 0x18, 8, 1⟩
def ACC_RSTAT_BALACT (i : Nat) (j : Nat) : Fld := ⟨0x4000 + i * 0x60 + j * 0x18, 7, 1⟩
def ACC_RSTAT_QSHORT (i : Nat) (j : Nat) : Fld := ⟨0x4000 + i * 0x60 + j * 0x18, 6, 1⟩
def ACC_RSTAT_DIAG (i : Nat) (j : Nat) : Fld := ⟨0x4000 + i * 0x60 + j * 0x18, 5, 1⟩
def ACC_RSTAT_RANGE (i : Nat) (j : Nat) : Fld := ⟨0x4000 + i * 0x60 + j * 0x18, 4, 1⟩
def ACC_RSTAT_SAT (i : Nat) (j : Nat) : Fld := ⟨0x4000 + i * 0x60 + j * 0x18, 3, 1⟩
def ACC_RSTAT_VALID (i : Nat) (j : Nat) : Fld := ⟨0x4000 + i * 0x60 + j * 0x18, 2, 1⟩
def ACC_RSTAT_LOST (i : Nat) (j : Nat) : Fld := ⟨0x4000 + i * 0x60 + j * 0x18, 1, 1⟩
def ACC_RSTAT_NEW (i : Nat) (j : Nat) : Fld := ⟨0x4000 + i * 0x60 + j * 0x18, 0, 1⟩
/-! ACC_RESA (R189) -/
def ACC_RESA_A (i : Nat) (j : Nat) : Fld := ⟨0x4004 + i * 0x60 + j * 0x18, 0, 32⟩
/-! ACC_RESB (R189) -/
def ACC_RESB_B (i : Nat) (j : Nat) : Fld := ⟨0x4008 + i * 0x60 + j * 0x18, 0, 32⟩
/-! ACC_RESC (R189) -/
def ACC_RESC_AH (i : Nat) (j : Nat) : Fld := ⟨0x400C + i * 0x60 + j * 0x18, 24, 8⟩
def ACC_RESC_BH (i : Nat) (j : Nat) : Fld := ⟨0x400C + i * 0x60 + j * 0x18, 16, 8⟩
def ACC_RESC_GAPS (i : Nat) (j : Nat) : Fld := ⟨0x400C + i * 0x60 + j * 0x18, 8, 8⟩
/-! ACC_RCNT (R189) -/
def ACC_RCNT_CNT (i : Nat) (j : Nat) : Fld := ⟨0x4010 + i * 0x60 + j * 0x18, 0, 24⟩
/-! ACC_RPH (R189) -/
def ACC_RPH_PH0 (i : Nat) (j : Nat) : Fld := ⟨0x4014 + i * 0x60 + j * 0x18, 0, 32⟩
/-! ACC_TRKA (R192) -/
def ACC_TRKA_AMAX (i : Nat) : Fld := ⟨0x4CC0 + i * 0x10, 16, 16⟩
def ACC_TRKA_AMIN (i : Nat) : Fld := ⟨0x4CC0 + i * 0x10, 0, 16⟩
/-! ACC_TRKBL (R192) -/
def ACC_TRKBL_BMIN (i : Nat) : Fld := ⟨0x4CC4 + i * 0x10, 0, 32⟩
/-! ACC_TRKBH (R192) -/
def ACC_TRKBH_BMAX (i : Nat) : Fld := ⟨0x4CC8 + i * 0x10, 0, 32⟩
/-! ACC_TRKN (R192) -/
def ACC_TRKN_ACNT (i : Nat) : Fld := ⟨0x4CCC + i * 0x10, 16, 16⟩
def ACC_TRKN_BCNT (i : Nat) : Fld := ⟨0x4CCC + i * 0x10, 0, 16⟩
/-! ACC_DCFG (R190) -/
def ACC_DCFG_SLOT (i : Nat) (j : Nat) : Fld := ⟨0x4EE0 + i * 0x10 + j * 0x4, 24, 4⟩
def ACC_DCFG_PSRC (i : Nat) (j : Nat) : Fld := ⟨0x4EE0 + i * 0x10 + j * 0x4, 18, 3⟩
def ACC_DCFG_H (i : Nat) (j : Nat) : Fld := ⟨0x4EE0 + i * 0x10 + j * 0x4, 12, 6⟩
def ACC_DCFG_SHIFT (i : Nat) (j : Nat) : Fld := ⟨0x4EE0 + i * 0x10 + j * 0x4, 8, 4⟩
def ACC_DCFG_K (i : Nat) (j : Nat) : Fld := ⟨0x4EE0 + i * 0x10 + j * 0x4, 4, 4⟩
def ACC_DCFG_SWP (i : Nat) (j : Nat) : Fld := ⟨0x4EE0 + i * 0x10 + j * 0x4, 2, 1⟩
def ACC_DCFG_MODE (i : Nat) (j : Nat) : Fld := ⟨0x4EE0 + i * 0x10 + j * 0x4, 0, 2⟩
/-! ACC_DPAR (R191) -/
def ACC_DPAR_M (i : Nat) (j : Nat) : Fld := ⟨0x4F10 + i * 0x10 + j * 0x4, 0, 16⟩
/-! ACC_DCHEN (R191) -/
def ACC_DCHEN_CELL (i : Nat) : Fld := ⟨0x4F40 + i * 0x4, 0, 32⟩
/-! ACC_XSTAT (R188) -/
def ACC_XSTAT_SEQ (i : Nat) : Fld := ⟨0x4F50 + i * 0x18, 24, 8⟩
def ACC_XSTAT_DGEN (i : Nat) : Fld := ⟨0x4F50 + i * 0x18, 16, 8⟩
def ACC_XSTAT_CGEN (i : Nat) : Fld := ⟨0x4F50 + i * 0x18, 12, 4⟩
def ACC_XSTAT_CMIX (i : Nat) : Fld := ⟨0x4F50 + i * 0x18, 11, 1⟩
def ACC_XSTAT_CSTALE (i : Nat) : Fld := ⟨0x4F50 + i * 0x18, 10, 1⟩
def ACC_XSTAT_PHV (i : Nat) : Fld := ⟨0x4F50 + i * 0x18, 9, 1⟩
def ACC_XSTAT_GAP (i : Nat) : Fld := ⟨0x4F50 + i * 0x18, 8, 1⟩
def ACC_XSTAT_BALACT (i : Nat) : Fld := ⟨0x4F50 + i * 0x18, 7, 1⟩
def ACC_XSTAT_QSHORT (i : Nat) : Fld := ⟨0x4F50 + i * 0x18, 6, 1⟩
def ACC_XSTAT_DIAG (i : Nat) : Fld := ⟨0x4F50 + i * 0x18, 5, 1⟩
def ACC_XSTAT_RANGE (i : Nat) : Fld := ⟨0x4F50 + i * 0x18, 4, 1⟩
def ACC_XSTAT_SAT (i : Nat) : Fld := ⟨0x4F50 + i * 0x18, 3, 1⟩
def ACC_XSTAT_VALID (i : Nat) : Fld := ⟨0x4F50 + i * 0x18, 2, 1⟩
def ACC_XSTAT_LOST (i : Nat) : Fld := ⟨0x4F50 + i * 0x18, 1, 1⟩
def ACC_XSTAT_NEW (i : Nat) : Fld := ⟨0x4F50 + i * 0x18, 0, 1⟩
/-! ACC_XA (R189) -/
def ACC_XA_A (i : Nat) : Fld := ⟨0x4F54 + i * 0x18, 0, 32⟩
/-! ACC_XB (R189) -/
def ACC_XB_B (i : Nat) : Fld := ⟨0x4F58 + i * 0x18, 0, 32⟩
/-! ACC_XC (R189) -/
def ACC_XC_AH (i : Nat) : Fld := ⟨0x4F5C + i * 0x18, 24, 8⟩
def ACC_XC_BH (i : Nat) : Fld := ⟨0x4F5C + i * 0x18, 16, 8⟩
def ACC_XC_XLAG (i : Nat) : Fld := ⟨0x4F5C + i * 0x18, 0, 16⟩
/-! ACC_XCNT (R189) -/
def ACC_XCNT_CNT (i : Nat) : Fld := ⟨0x4F60 + i * 0x18, 0, 24⟩
/-! ACC_XPH (R189) -/
def ACC_XPH_PH0 (i : Nat) : Fld := ⟨0x4F64 + i * 0x18, 0, 32⟩
/-! ACC_XCFG (R193) -/
def ACC_XCFG_EN3 : Fld := ⟨0x4FB0, 26, 1⟩
def ACC_XCFG_DRW3 : Fld := ⟨0x4FB0, 24, 2⟩
def ACC_XCFG_EN2 : Fld := ⟨0x4FB0, 18, 1⟩
def ACC_XCFG_DRW2 : Fld := ⟨0x4FB0, 16, 2⟩
def ACC_XCFG_EN1 : Fld := ⟨0x4FB0, 10, 1⟩
def ACC_XCFG_DRW1 : Fld := ⟨0x4FB0, 8, 2⟩
def ACC_XCFG_EN0 : Fld := ⟨0x4FB0, 2, 1⟩
def ACC_XCFG_DRW0 : Fld := ⟨0x4FB0, 0, 2⟩
/-! ACC_CTL (R193) -/
def ACC_CTL_TRKDIAG : Fld := ⟨0x4FB4, 8, 1⟩
def ACC_CTL_TASLOT : Fld := ⟨0x4FB4, 0, 4⟩
/-! ACC_CMD (R193) -/
def ACC_CMD_XRST : Fld := ⟨0x4FB8, 5, 1⟩
def ACC_CMD_TCLR : Fld := ⟨0x4FB8, 4, 1⟩
def ACC_CMD_RST : Fld := ⟨0x4FB8, 0, 4⟩
/-! ACC_STAT (R194) -/
def ACC_STAT_XDROP : Fld := ⟨0x4FBC, 8, 4⟩
def ACC_STAT_INJERR : Fld := ⟨0x4FBC, 7, 1⟩
def ACC_STAT_WAIT : Fld := ⟨0x4FBC, 0, 4⟩
/-! ACC_SATF (R194) -/
def ACC_SATF_CELL : Fld := ⟨0x4FC0, 0, 32⟩
/-! ACC_SATX (R194) -/
def ACC_SATX_AUX : Fld := ⟨0x4FC4, 1, 1⟩
def ACC_SATX_CUR : Fld := ⟨0x4FC4, 0, 1⟩
/-! ACC_NEW (R194) -/
def ACC_NEW_CELL (i : Nat) : Fld := ⟨0x4FC8 + i * 0x4, 0, 32⟩
/-! ACC_NEWX (R194) -/
def ACC_NEWX_AUX : Fld := ⟨0x4FD8, 4, 4⟩
def ACC_NEWX_CUR : Fld := ⟨0x4FD8, 0, 4⟩
/-! ACC_WHELD (R194) -/
def ACC_WHELD_CNT : Fld := ⟨0x4FDC, 0, 16⟩
/-! BAL_CTL (R435) -/
def BAL_CTL_QCLR : Fld := ⟨0x5000, 31, 1⟩
def BAL_CTL_QLEAD : Fld := ⟨0x5000, 16, 9⟩
def BAL_CTL_QTRAIL : Fld := ⟨0x5000, 8, 8⟩
def BAL_CTL_AUTOHO : Fld := ⟨0x5000, 4, 1⟩
def BAL_CTL_QWEN : Fld := ⟨0x5000, 0, 4⟩
/-! BAL_STAT (R435) -/
def BAL_STAT_ACT : Fld := ⟨0x5004, 28, 4⟩
def BAL_STAT_XACT : Fld := ⟨0x5004, 24, 4⟩
def BAL_STAT_SELON : Fld := ⟨0x5004, 20, 4⟩
def BAL_STAT_PAUSE : Fld := ⟨0x5004, 16, 4⟩
def BAL_STAT_HOT : Fld := ⟨0x5004, 8, 1⟩
def BAL_STAT_HOAVAIL : Fld := ⟨0x5004, 4, 1⟩
def BAL_STAT_OWNER : Fld := ⟨0x5004, 0, 2⟩
/-! BAL_CMDQ (R436) -/
def BAL_CMDQ_IMA : Fld := ⟨0x5008, 16, 16⟩
def BAL_CMDQ_QMC : Fld := ⟨0x5008, 0, 16⟩
/-! BAL_CMD (R436) -/
def BAL_CMD_SH : Fld := ⟨0x500C, 16, 2⟩
def BAL_CMD_CELL : Fld := ⟨0x500C, 13, 3⟩
def BAL_CMD_DIR : Fld := ⟨0x500C, 12, 1⟩
def BAL_CMD_FORM : Fld := ⟨0x500C, 10, 2⟩
/-! BAL_CMDRES (R436) -/
def BAL_CMDRES_XRES : Fld := ⟨0x5010, 8, 8⟩
def BAL_CMDRES_CAUSE : Fld := ⟨0x5010, 0, 8⟩
/-! BAL_BUSCTL (R436) -/
def BAL_BUSCTL_VHI : Fld := ⟨0x5014, 16, 8⟩
def BAL_BUSCTL_VLO : Fld := ⟨0x5014, 8, 8⟩
/-! BAL_BUSSTAT (R436) -/
def BAL_BUSSTAT_PHI : Fld := ⟨0x5018, 16, 16⟩
def BAL_BUSSTAT_PLO : Fld := ⟨0x5018, 0, 16⟩
/-! BAL_HOCTL (R436) -/
def BAL_HOCTL_RES : Fld := ⟨0x501C, 8, 3⟩
def BAL_HOCTL_OP : Fld := ⟨0x501C, 0, 2⟩
/-! BAL_EVT (R436) -/
def BAL_EVT_HO : Fld := ⟨0x5020, 12, 1⟩
def BAL_EVT_XEND : Fld := ⟨0x5020, 8, 4⟩
def BAL_EVT_END : Fld := ⟨0x5020, 4, 4⟩
def BAL_EVT_DONE : Fld := ⟨0x5020, 0, 4⟩
/-! BAL_SHCFG (R437) -/
def BAL_SHCFG_FIT (i : Nat) : Fld := ⟨0x5040 + i * 0x20, 31, 1⟩
def BAL_SHCFG_LM (i : Nat) : Fld := ⟨0x5040 + i * 0x20, 24, 7⟩
def BAL_SHCFG_NR (i : Nat) : Fld := ⟨0x5040 + i * 0x20, 8, 8⟩
def BAL_SHCFG_RS (i : Nat) : Fld := ⟨0x5040 + i * 0x20, 0, 8⟩
/-! BAL_SHLIM (R437) -/
def BAL_SHLIM_IDEF (i : Nat) : Fld := ⟨0x5044 + i * 0x20, 16, 12⟩
def BAL_SHLIM_SELHOLD (i : Nat) : Fld := ⟨0x5044 + i * 0x20, 12, 4⟩
def BAL_SHLIM_IMAX (i : Nat) : Fld := ⟨0x5044 + i * 0x20, 0, 12⟩
/-! BAL_SHSTAT (R437) -/
def BAL_SHSTAT_STATE (i : Nat) : Fld := ⟨0x5048 + i * 0x20, 29, 3⟩
def BAL_SHSTAT_XMODE (i : Nat) : Fld := ⟨0x5048 + i * 0x20, 28, 1⟩
def BAL_SHSTAT_DIR (i : Nat) : Fld := ⟨0x5048 + i * 0x20, 27, 1⟩
def BAL_SHSTAT_ILIM (i : Nat) : Fld := ⟨0x5048 + i * 0x20, 26, 1⟩
def BAL_SHSTAT_CELL (i : Nat) : Fld := ⟨0x5048 + i * 0x20, 21, 5⟩
def BAL_SHSTAT_END (i : Nat) : Fld := ⟨0x5048 + i * 0x20, 16, 4⟩
def BAL_SHSTAT_FKHZ (i : Nat) : Fld := ⟨0x5048 + i * 0x20, 0, 9⟩
/-! BAL_QDONE (R437) -/
def BAL_QDONE_QD (i : Nat) : Fld := ⟨0x504C + i * 0x20, 0, 32⟩
/-! BAL_IMEAS (R437) -/
def BAL_IMEAS_I (i : Nat) : Fld := ⟨0x5050 + i * 0x20, 0, 16⟩
/-! BAL_XCTL (R438) -/
def BAL_XCTL_PCB (i : Nat) : Fld := ⟨0x5054 + i * 0x20, 16, 16⟩
def BAL_XCTL_NPER (i : Nat) : Fld := ⟨0x5054 + i * 0x20, 4, 12⟩
def BAL_XCTL_START (i : Nat) : Fld := ⟨0x5054 + i * 0x20, 2, 2⟩
def BAL_XCTL_STOP (i : Nat) : Fld := ⟨0x5054 + i * 0x20, 1, 1⟩
def BAL_XCTL_GO (i : Nat) : Fld := ⟨0x5054 + i * 0x20, 0, 1⟩
/-! BAL_XFRQ (R438) -/
def BAL_XFRQ_XINC (i : Nat) : Fld := ⟨0x5058 + i * 0x20, 0, 32⟩
/-! BAL_XAMP (R438) -/
def BAL_XAMP_CELL (i : Nat) : Fld := ⟨0x505C + i * 0x20, 28, 3⟩
def BAL_XAMP_AMP (i : Nat) : Fld := ⟨0x505C + i * 0x20, 16, 12⟩
def BAL_XAMP_OFS (i : Nat) : Fld := ⟨0x505C + i * 0x20, 0, 13⟩
/-! BAL_QCELL (R439) -/
def BAL_QCELL_Q (i : Nat) : Fld := ⟨0x5100 + i * 0x4, 0, 32⟩
/-! BAL_TAPRES (R439) -/
def BAL_TAPRES_RT (i : Nat) : Fld := ⟨0x5180 + i * 0x4, 0, 16⟩
/-! GRD_OVEN (R493) -/
def GRD_OVEN_CELL : Fld := ⟨0x6000, 0, 32⟩
/-! GRD_UVEN (R493) -/
def GRD_UVEN_CELL : Fld := ⟨0x6004, 0, 32⟩
/-! GRD_CTH (R493) -/
def GRD_CTH_OV : Fld := ⟨0x6008, 8, 8⟩
def GRD_CTH_UV : Fld := ⟨0x6008, 0, 8⟩
/-! GRD_TCFG (R493) -/
def GRD_TCFG_COLDEN : Fld := ⟨0x600C, 4, 4⟩
def GRD_TCFG_HOTEN : Fld := ⟨0x600C, 0, 4⟩
/-! GRD_TTH (R493) -/
def GRD_TTH_HOT (i : Nat) : Fld := ⟨0x6010 + i * 0x4, 8, 8⟩
def GRD_TTH_COLD (i : Nat) : Fld := ⟨0x6010 + i * 0x4, 0, 8⟩
/-! GRD_STH (R493) -/
def GRD_STH_SUMOV : Fld := ⟨0x6020, 8, 8⟩
def GRD_STH_SUMUV : Fld := ⟨0x6020, 0, 8⟩
/-! GRD_GCFG (R493) -/
def GRD_GCFG_SPER : Fld := ⟨0x6024, 16, 7⟩
def GRD_GCFG_VTREN : Fld := ⟨0x6024, 10, 1⟩
def GRD_GCFG_SUMUVEN : Fld := ⟨0x6024, 9, 1⟩
def GRD_GCFG_SUMOVEN : Fld := ⟨0x6024, 8, 1⟩
def GRD_GCFG_NDG : Fld := ⟨0x6024, 0, 6⟩
/-! GRD_SAFECFG (R493) -/
def GRD_SAFECFG_EN : Fld := ⟨0x6028, 16, 2⟩
def GRD_SAFECFG_TI : Fld := ⟨0x6028, 8, 8⟩
def GRD_SAFECFG_PW : Fld := ⟨0x6028, 0, 5⟩
/-! GRD_CFGCRC (R493) -/
def GRD_CFGCRC_CRC : Fld := ⟨0x602C, 0, 32⟩
/-! GRD_PAIRSET (R494) -/
def GRD_PAIRSET_PAIRID : Fld := ⟨0x6030, 0, 16⟩
/-! GRD_CTL (R494) -/
def GRD_CTL_LOCK : Fld := ⟨0x6034, 0, 1⟩
/-! GRD_STAT (R494) -/
def GRD_STAT_LRES : Fld := ⟨0x6040, 8, 2⟩
def GRD_STAT_FLTPIN : Fld := ⟨0x6040, 5, 1⟩
def GRD_STAT_FGSYM : Fld := ⟨0x6040, 4, 1⟩
def GRD_STAT_SYM : Fld := ⟨0x6040, 3, 1⟩
def GRD_STAT_CRCOK : Fld := ⟨0x6040, 2, 1⟩
def GRD_STAT_LOCKED : Fld := ⟨0x6040, 1, 1⟩
def GRD_STAT_ARMED : Fld := ⟨0x6040, 0, 1⟩
/-! GRD_ACTCRC (R494) -/
def GRD_ACTCRC_CRC : Fld := ⟨0x6044, 0, 32⟩
/-! GRD_GLATCH (R494) -/
def GRD_GLATCH_GUARD : Fld := ⟨0x6048, 0, 10⟩
/-! GRD_GLIVE (R494) -/
def GRD_GLIVE_GUARD : Fld := ⟨0x604C, 0, 10⟩
/-! GRD_COVL (R494) -/
def GRD_COVL_CELL : Fld := ⟨0x6050, 0, 32⟩
/-! GRD_CUVL (R494) -/
def GRD_CUVL_CELL : Fld := ⟨0x6054, 0, 32⟩
/-! GRD_TLAT (R494) -/
def GRD_TLAT_COLD : Fld := ⟨0x6058, 4, 4⟩
def GRD_TLAT_HOT : Fld := ⟨0x6058, 0, 4⟩
/-! GRD_STEST (R494) -/
def GRD_STEST_ROT : Fld := ⟨0x605C, 16, 16⟩
def GRD_STEST_FAILS : Fld := ⟨0x605C, 8, 8⟩
def GRD_STEST_FIDX : Fld := ⟨0x605C, 0, 7⟩
/-! GRD_SAFECTL (R495) -/
def GRD_SAFECTL_DEM : Fld := ⟨0x6060, 16, 1⟩
def GRD_SAFECTL_ACK : Fld := ⟨0x6060, 8, 1⟩
def GRD_SAFECTL_ON : Fld := ⟨0x6060, 0, 2⟩
/-! GRD_SAFESTAT (R495) -/
def GRD_SAFESTAT_PULSE : Fld := ⟨0x6064, 24, 1⟩
def GRD_SAFESTAT_RBF : Fld := ⟨0x6064, 20, 2⟩
def GRD_SAFESTAT_ONREF : Fld := ⟨0x6064, 17, 1⟩
def GRD_SAFESTAT_SRC : Fld := ⟨0x6064, 8, 5⟩
def GRD_SAFESTAT_DEM : Fld := ⟨0x6064, 4, 1⟩
def GRD_SAFESTAT_RB : Fld := ⟨0x6064, 2, 2⟩
def GRD_SAFESTAT_OUT : Fld := ⟨0x6064, 0, 2⟩
/-! GRD_SAFECNT (R495) -/
def GRD_SAFECNT_FAIL : Fld := ⟨0x6068, 16, 16⟩
def GRD_SAFECNT_PULSES : Fld := ⟨0x6068, 0, 16⟩
/-! TIM_TBL (R230) -/
def TIM_TBL_TBL : Fld := ⟨0x7000, 0, 32⟩
/-! TIM_TBH (R230) -/
def TIM_TBH_TBH : Fld := ⟨0x7004, 0, 16⟩
/-! TIM_STAT (R230) -/
def TIM_STAT_TFLOST : Fld := ⟨0x7008, 4, 1⟩
def TIM_STAT_ALOST : Fld := ⟨0x7008, 3, 1⟩
def TIM_STAT_STEP : Fld := ⟨0x7008, 2, 1⟩
def TIM_STAT_TBWRAP : Fld := ⟨0x7008, 1, 1⟩
def TIM_STAT_ALIGNED : Fld := ⟨0x7008, 0, 1⟩
/-! TIM_ALIGN (R230) -/
def TIM_ALIGN_SLIP : Fld := ⟨0x700C, 24, 8⟩
def TIM_ALIGN_FRAC : Fld := ⟨0x700C, 16, 5⟩
def TIM_ALIGN_DELTA : Fld := ⟨0x700C, 0, 16⟩
/-! TIM_PDLY (R230) -/
def TIM_PDLY_VALID : Fld := ⟨0x7010, 31, 1⟩
def TIM_PDLY_DDR : Fld := ⟨0x7010, 0, 24⟩
/-! TIM_PDLYR (R230) -/
def TIM_PDLYR_VALID : Fld := ⟨0x7014, 31, 1⟩
def TIM_PDLYR_DDR : Fld := ⟨0x7014, 0, 24⟩
/-! TIM_PHASE (R231) -/
def TIM_PHASE_PCNT : Fld := ⟨0x7018, 16, 16⟩
def TIM_PHASE_ANGLE : Fld := ⟨0x7018, 0, 16⟩
/-! TIM_PHCFG (R231) -/
def TIM_PHCFG_OFS : Fld := ⟨0x701C, 16, 16⟩
def TIM_PHCFG_DIV : Fld := ⟨0x701C, 8, 4⟩
def TIM_PHCFG_SRC : Fld := ⟨0x701C, 0, 2⟩
/-! TIM_PHTX (R231) -/
def TIM_PHTX_LEAD : Fld := ⟨0x7020, 0, 16⟩
/-! TIM_PHSTAT (R231) -/
def TIM_PHSTAT_SEQ : Fld := ⟨0x7024, 24, 8⟩
def TIM_PHSTAT_MISS : Fld := ⟨0x7024, 16, 8⟩
def TIM_PHSTAT_PWRAP : Fld := ⟨0x7024, 6, 1⟩
def TIM_PHSTAT_MLATE : Fld := ⟨0x7024, 5, 1⟩
def TIM_PHSTAT_STEPM : Fld := ⟨0x7024, 4, 1⟩
def TIM_PHSTAT_HOLD : Fld := ⟨0x7024, 3, 1⟩
def TIM_PHSTAT_LOCKED : Fld := ⟨0x7024, 2, 1⟩
def TIM_PHSTAT_HASM : Fld := ⟨0x7024, 1, 1⟩
def TIM_PHSTAT_PLOCK : Fld := ⟨0x7024, 0, 1⟩
/-! TIM_PINC (R231) -/
def TIM_PINC_PINC : Fld := ⟨0x7028, 0, 32⟩
/-! TIM_PMBL (R231) -/
def TIM_PMBL_TBL : Fld := ⟨0x702C, 0, 32⟩
/-! TIM_PMBH (R231) -/
def TIM_PMBH_FINE : Fld := ⟨0x7030, 16, 5⟩
def TIM_PMBH_TBH : Fld := ⟨0x7030, 0, 16⟩
/-! TIM_PMPC (R231) -/
def TIM_PMPC_PC : Fld := ⟨0x7034, 0, 16⟩
/-! TIM_PSWINC (R231) -/
def TIM_PSWINC_PINC : Fld := ⟨0x7038, 0, 32⟩
/-! TIM_TCMPL (R232) -/
def TIM_TCMPL_CMPL (i : Nat) : Fld := ⟨0x7040 + i * 0x10, 0, 32⟩
/-! TIM_TCMPH (R232) -/
def TIM_TCMPH_CMPH (i : Nat) : Fld := ⟨0x7044 + i * 0x10, 0, 16⟩
/-! TIM_TCMPINC (R232) -/
def TIM_TCMPINC_INC (i : Nat) : Fld := ⟨0x7048 + i * 0x10, 0, 32⟩
/-! TIM_PCMP (R232) -/
def TIM_PCMP_CMP (i : Nat) : Fld := ⟨0x7080 + i * 0x8, 0, 32⟩
/-! TIM_PCMPINC (R232) -/
def TIM_PCMPINC_INC (i : Nat) : Fld := ⟨0x7084 + i * 0x8, 0, 32⟩
/-! TIM_CMPSTAT (R232) -/
def TIM_CMPSTAT_LATE : Fld := ⟨0x70A0, 24, 8⟩
def TIM_CMPSTAT_ARMED : Fld := ⟨0x70A0, 16, 8⟩
def TIM_CMPSTAT_FIRED : Fld := ⟨0x70A0, 0, 8⟩
/-! TIM_CMPIE (R232) -/
def TIM_CMPIE_IE : Fld := ⟨0x70A4, 0, 8⟩
/-! TIM_CMPCTL (R232) -/
def TIM_CMPCTL_DIS : Fld := ⟨0x70A8, 0, 8⟩
/-! TIM_CAPCFG (R232) -/
def TIM_CAPCFG_SRC (i : Nat) : Fld := ⟨0x70B0 + i * 0x10, 0, 3⟩
/-! TIM_CAPL (R232) -/
def TIM_CAPL_CAPL (i : Nat) : Fld := ⟨0x70B4 + i * 0x10, 0, 32⟩
/-! TIM_CAPH (R232) -/
def TIM_CAPH_FINE (i : Nat) : Fld := ⟨0x70B8 + i * 0x10, 16, 5⟩
def TIM_CAPH_CAPH (i : Nat) : Fld := ⟨0x70B8 + i * 0x10, 0, 16⟩
/-! TIM_CAPSTAT (R232) -/
def TIM_CAPSTAT_OVR : Fld := ⟨0x70F0, 4, 4⟩
def TIM_CAPSTAT_FULL : Fld := ⟨0x70F0, 0, 4⟩
/-! TIM_AUXCMP (R232) -/
def TIM_AUXCMP_EN : Fld := ⟨0x70F4, 16, 1⟩
def TIM_AUXCMP_STATE : Fld := ⟨0x70F4, 8, 1⟩
def TIM_AUXCMP_LVL : Fld := ⟨0x70F4, 0, 8⟩
/-! FLT_STAT (R521) -/
def FLT_STAT_LKO : Fld := ⟨0x8000, 15, 1⟩
def FLT_STAT_FRSYM : Fld := ⟨0x8000, 14, 1⟩
def FLT_STAT_HLV : Fld := ⟨0x8000, 12, 2⟩
def FLT_STAT_ACKREF : Fld := ⟨0x8000, 8, 1⟩
def FLT_STAT_UNACK : Fld := ⟨0x8000, 0, 4⟩
/-! FLT_ACK (R521) -/
def FLT_ACK_L : Fld := ⟨0x8004, 0, 3⟩
/-! FLT_CLSA (R521) -/
def FLT_CLSA_LV7 : Fld := ⟨0x8008, 29, 3⟩
def FLT_CLSA_LV6 : Fld := ⟨0x8008, 25, 3⟩
def FLT_CLSA_LV5 : Fld := ⟨0x8008, 21, 3⟩
def FLT_CLSA_LV4 : Fld := ⟨0x8008, 17, 3⟩
def FLT_CLSA_LV3 : Fld := ⟨0x8008, 13, 3⟩
def FLT_CLSA_LV2 : Fld := ⟨0x8008, 9, 3⟩
def FLT_CLSA_LV1 : Fld := ⟨0x8008, 5, 3⟩
def FLT_CLSA_LV0 : Fld := ⟨0x8008, 1, 3⟩
/-! FLT_CLSB (R521) -/
def FLT_CLSB_LV8 : Fld := ⟨0x800C, 1, 3⟩
/-! FLT_DISCGEN (R53) -/
def FLT_DISCGEN_SSEQ : Fld := ⟨0x8010, 20, 1⟩
def FLT_DISCGEN_SLOG : Fld := ⟨0x8010, 19, 1⟩
def FLT_DISCGEN_SBAL : Fld := ⟨0x8010, 18, 1⟩
def FLT_DISCGEN_SCHN : Fld := ⟨0x8010, 17, 1⟩
def FLT_DISCGEN_SCONV : Fld := ⟨0x8010, 16, 1⟩
def FLT_DISCGEN_CNT : Fld := ⟨0x8010, 8, 8⟩
def FLT_DISCGEN_GEN : Fld := ⟨0x8010, 0, 8⟩
/-! FLT_CNT (R521) -/
def FLT_CNT_L3 : Fld := ⟨0x8014, 24, 8⟩
def FLT_CNT_L2 : Fld := ⟨0x8014, 16, 8⟩
def FLT_CNT_L1 : Fld := ⟨0x8014, 8, 8⟩
def FLT_CNT_L0 : Fld := ⟨0x8014, 0, 8⟩
/-! FLT_LKREF (R521) -/
def FLT_LKREF_CNT : Fld := ⟨0x8018, 0, 16⟩
/-! FLT_UNLCH (R521) -/
def FLT_UNLCH_CH : Fld := ⟨0x801C, 0, 32⟩
/-! FLT_UNLOCK (R521) -/
def FLT_UNLOCK_MAC : Fld := ⟨0x8020, 0, 32⟩
/-! FLT_CFG (R521) -/
def FLT_CFG_SNAPL1 : Fld := ⟨0x8024, 8, 1⟩
def FLT_CFG_L0RATE : Fld := ⟨0x8024, 0, 8⟩
/-! FLT_FSRC (R521) -/
def FLT_FSRC_VALID (i : Nat) : Fld := ⟨0x8040 + i * 0x10, 31, 1⟩
def FLT_FSRC_OVF (i : Nat) : Fld := ⟨0x8040 + i * 0x10, 30, 1⟩
def FLT_FSRC_ESC (i : Nat) : Fld := ⟨0x8040 + i * 0x10, 29, 1⟩
def FLT_FSRC_SW (i : Nat) : Fld := ⟨0x8040 + i * 0x10, 28, 1⟩
def FLT_FSRC_NLV (i : Nat) : Fld := ⟨0x8040 + i * 0x10, 26, 2⟩
def FLT_FSRC_CLS (i : Nat) : Fld := ⟨0x8040 + i * 0x10, 8, 4⟩
def FLT_FSRC_CODE (i : Nat) : Fld := ⟨0x8040 + i * 0x10, 0, 8⟩
/-! FLT_FINFO (R521) -/
def FLT_FINFO_INFO (i : Nat) : Fld := ⟨0x8044 + i * 0x10, 0, 32⟩
/-! FLT_FSTL (R521) -/
def FLT_FSTL_STL (i : Nat) : Fld := ⟨0x8048 + i * 0x10, 0, 32⟩
/-! FLT_FSTH (R521) -/
def FLT_FSTH_STH (i : Nat) : Fld := ⟨0x804C + i * 0x10, 0, 16⟩
/-! SEC_STAT (R632) -/
def SEC_STAT_KID : Fld := ⟨0x9000, 16, 16⟩
def SEC_STAT_TREF : Fld := ⟨0x9000, 7, 1⟩
def SEC_STAT_TEST : Fld := ⟨0x9000, 6, 1⟩
def SEC_STAT_LOCKED : Fld := ⟨0x9000, 5, 1⟩
def SEC_STAT_ASTOP : Fld := ⟨0x9000, 4, 1⟩
def SEC_STAT_OTPOK : Fld := ⟨0x9000, 3, 1⟩
def SEC_STAT_RELEASED : Fld := ⟨0x9000, 2, 1⟩
def SEC_STAT_KSV : Fld := ⟨0x9000, 1, 1⟩
def SEC_STAT_KPV : Fld := ⟨0x9000, 0, 1⟩
/-! SEC_CTL (R632) -/
def SEC_CTL_LOCK : Fld := ⟨0x9004, 0, 1⟩
/-! SEC_POLICY (R632) -/
def SEC_POLICY_LOCKW : Fld := ⟨0x9008, 6, 2⟩
def SEC_POLICY_TOKEN : Fld := ⟨0x9008, 4, 2⟩
def SEC_POLICY_CMAC : Fld := ⟨0x9008, 2, 2⟩
def SEC_POLICY_GLITCH : Fld := ⟨0x9008, 0, 2⟩
/-! SEC_ALM (R632) -/
def SEC_ALM_CNT : Fld := ⟨0x900C, 24, 8⟩
def SEC_ALM_STEP : Fld := ⟨0x900C, 8, 2⟩
def SEC_ALM_SRC : Fld := ⟨0x900C, 0, 4⟩
/-! SEC_AFAIL (R632) -/
def SEC_AFAIL_TOTAL : Fld := ⟨0x9010, 16, 16⟩
def SEC_AFAIL_CONSEC : Fld := ⟨0x9010, 0, 5⟩
/-! SEC_KVER (R632) -/
def SEC_KVER_KVER : Fld := ⟨0x9014, 0, 32⟩
/-! SEC_DNONCE (R632) -/
def SEC_DNONCE_DN : Fld := ⟨0x9018, 0, 32⟩
/-! SEC_PROVRES (R632) -/
def SEC_PROVRES_RES : Fld := ⟨0x901C, 0, 2⟩
/-! SEC_PROVBUF (R632) -/
def SEC_PROVBUF_BUF (i : Nat) : Fld := ⟨0x9020 + i * 0x4, 0, 32⟩
/-! SEC_TCH (R632) -/
def SEC_TCH_CH : Fld := ⟨0x9040, 0, 32⟩
/-! SEC_TTOKL (R632) -/
def SEC_TTOKL_TOKL : Fld := ⟨0x9044, 0, 32⟩
/-! SEC_TTOKH (R632) -/
def SEC_TTOKH_TOKH : Fld := ⟨0x9048, 0, 32⟩
/-! SEC_NONCE (R632) -/
def SEC_NONCE_NONCE (i : Nat) : Fld := ⟨0x9050 + i * 0x4, 0, 32⟩
/-! CHK_CFG (R562) -/
def CHK_CFG_FEN : Fld := ⟨0xA000, 12, 1⟩
def CHK_CFG_CMP : Fld := ⟨0xA000, 11, 1⟩
def CHK_CFG_WLE : Fld := ⟨0xA000, 10, 1⟩
def CHK_CFG_XOROUT : Fld := ⟨0xA000, 9, 1⟩
def CHK_CFG_REFOUT : Fld := ⟨0xA000, 8, 1⟩
def CHK_CFG_REFIN : Fld := ⟨0xA000, 7, 1⟩
def CHK_CFG_W : Fld := ⟨0xA000, 0, 5⟩
/-! CHK_POLY (R562) -/
def CHK_POLY_POLY : Fld := ⟨0xA004, 0, 32⟩
/-! CHK_INIT (R562) -/
def CHK_INIT_INIT : Fld := ⟨0xA008, 0, 32⟩
/-! CHK_EXP (R562) -/
def CHK_EXP_EXP : Fld := ⟨0xA00C, 0, 32⟩
/-! CHK_START (R562) -/
def CHK_START_START : Fld := ⟨0xA010, 0, 32⟩
/-! CHK_LEN (R562) -/
def CHK_LEN_LEN : Fld := ⟨0xA014, 0, 32⟩
/-! CHK_CMD (R562) -/
def CHK_CMD_SPACE : Fld := ⟨0xA018, 3, 2⟩
def CHK_CMD_RES : Fld := ⟨0xA018, 2, 1⟩
def CHK_CMD_STOP : Fld := ⟨0xA018, 1, 1⟩
def CHK_CMD_GO : Fld := ⟨0xA018, 0, 1⟩
/-! CHK_STAT (R562) -/
def CHK_STAT_END : Fld := ⟨0xA01C, 8, 4⟩
def CHK_STAT_SPC : Fld := ⟨0xA01C, 6, 2⟩
def CHK_STAT_RCAUSE : Fld := ⟨0xA01C, 4, 2⟩
def CHK_STAT_MISM : Fld := ⟨0xA01C, 2, 1⟩
def CHK_STAT_MATCH : Fld := ⟨0xA01C, 1, 1⟩
def CHK_STAT_BUSY : Fld := ⟨0xA01C, 0, 1⟩
/-! CHK_RUN (R562) -/
def CHK_RUN_RUN : Fld := ⟨0xA020, 0, 32⟩
/-! CHK_RES (R562) -/
def CHK_RES_RES : Fld := ⟨0xA024, 0, 32⟩
/-! CHK_POS (R562) -/
def CHK_POS_POS : Fld := ⟨0xA028, 0, 32⟩
/-! CHK_REM (R562) -/
def CHK_REM_REM : Fld := ⟨0xA02C, 0, 32⟩
/-! CHK_FLT (R562) -/
def CHK_FLT_CLS : Fld := ⟨0xA030, 16, 4⟩
def CHK_FLT_LVL : Fld := ⟨0xA030, 8, 2⟩
def CHK_FLT_CODE : Fld := ⟨0xA030, 0, 8⟩
/-! BST_CTL (R559) -/
def BST_CTL_LBH : Fld := ⟨0xB000, 8, 1⟩
def BST_CTL_DSTOP : Fld := ⟨0xB000, 5, 1⟩
def BST_CTL_DGO : Fld := ⟨0xB000, 4, 1⟩
def BST_CTL_MSTOP : Fld := ⟨0xB000, 1, 1⟩
def BST_CTL_MGO : Fld := ⟨0xB000, 0, 1⟩
/-! BST_STAT (R559) -/
def BST_STAT_CCH : Fld := ⟨0xB004, 26, 6⟩
def BST_STAT_CBUSY : Fld := ⟨0xB004, 25, 1⟩
def BST_STAT_CWAIT : Fld := ⟨0xB004, 24, 1⟩
def BST_STAT_LBUSY : Fld := ⟨0xB004, 16, 1⟩
def BST_STAT_MBLK : Fld := ⟨0xB004, 8, 6⟩
def BST_STAT_MPAUSE : Fld := ⟨0xB004, 3, 1⟩
def BST_STAT_MPHASE : Fld := ⟨0xB004, 1, 2⟩
def BST_STAT_MBUSY : Fld := ⟨0xB004, 0, 1⟩
/-! BST_MCFG (R559) -/
def BST_MCFG_AUTO : Fld := ⟨0xB008, 31, 1⟩
def BST_MCFG_REMAP : Fld := ⟨0xB008, 30, 1⟩
def BST_MCFG_BKG : Fld := ⟨0xB008, 24, 4⟩
def BST_MCFG_INTV : Fld := ⟨0xB008, 16, 8⟩
def BST_MCFG_LAST : Fld := ⟨0xB008, 8, 6⟩
def BST_MCFG_FIRST : Fld := ⟨0xB008, 0, 6⟩
/-! BST_MSTAT (R559) -/
def BST_MSTAT_ROT : Fld := ⟨0xB00C, 16, 16⟩
def BST_MSTAT_RMV : Fld := ⟨0xB00C, 15, 1⟩
def BST_MSTAT_RMBLK : Fld := ⟨0xB00C, 8, 6⟩
def BST_MSTAT_LBLK : Fld := ⟨0xB00C, 0, 6⟩
/-! BST_MFAIL (R559) -/
def BST_MFAIL_VALID : Fld := ⟨0xB010, 31, 1⟩
def BST_MFAIL_BIT : Fld := ⟨0xB010, 24, 7⟩
def BST_MFAIL_WORD : Fld := ⟨0xB010, 15, 9⟩
def BST_MFAIL_BLK : Fld := ⟨0xB010, 0, 6⟩
/-! BST_MFCNT (R559) -/
def BST_MFCNT_BLKS : Fld := ⟨0xB014, 16, 16⟩
def BST_MFCNT_CNT : Fld := ⟨0xB014, 0, 16⟩
/-! BST_LSTAT (R559) -/
def BST_LSTAT_HCAUSE : Fld := ⟨0xB018, 6, 2⟩
def BST_LSTAT_HRUN : Fld := ⟨0xB018, 5, 1⟩
def BST_LSTAT_HFAIL : Fld := ⟨0xB018, 4, 1⟩
def BST_LSTAT_HREF : Fld := ⟨0xB018, 3, 1⟩
def BST_LSTAT_GRUN : Fld := ⟨0xB018, 1, 1⟩
def BST_LSTAT_GFAIL : Fld := ⟨0xB018, 0, 1⟩
/-! BST_CCFG (R559) -/
def BST_CCFG_AUTO : Fld := ⟨0xB01C, 31, 1⟩
def BST_CCFG_INTV : Fld := ⟨0xB01C, 16, 8⟩
/-! BST_CSTAT (R559) -/
def BST_CSTAT_ROT : Fld := ⟨0xB020, 16, 16⟩
def BST_CSTAT_LCH : Fld := ⟨0xB020, 0, 6⟩
/-! BST_CFAIL (R559) -/
def BST_CFAIL_CELL : Fld := ⟨0xB024, 0, 32⟩
/-! BST_CFAILX (R559) -/
def BST_CFAILX_AUX : Fld := ⟨0xB028, 1, 1⟩
def BST_CFAILX_CUR : Fld := ⟨0xB028, 0, 1⟩
/-! BST_DCFG (R560) -/
def BST_DCFG_DRW : Fld := ⟨0xB030, 24, 2⟩
def BST_DCFG_KIND : Fld := ⟨0xB030, 16, 2⟩
/-! BST_DCELL (R560) -/
def BST_DCELL_CELL : Fld := ⟨0xB034, 0, 32⟩
/-! BST_DTOL (R560) -/
def BST_DTOL_TZ : Fld := ⟨0xB038, 24, 8⟩
def BST_DTOL_TREF : Fld := ⟨0xB038, 16, 8⟩
def BST_DTOL_TAUX : Fld := ⟨0xB038, 8, 8⟩
def BST_DTOL_TDAC : Fld := ⟨0xB038, 0, 8⟩
/-! BST_DDAC (R560) -/
def BST_DDAC_DACB : Fld := ⟨0xB03C, 16, 10⟩
def BST_DDAC_DACA : Fld := ⟨0xB03C, 0, 10⟩
/-! BST_OWCFG (R560) -/
def BST_OWCFG_OPEN : Fld := ⟨0xB040, 16, 16⟩
def BST_OWCFG_TOL : Fld := ⟨0xB040, 8, 8⟩
/-! BST_BTCFG (R560) -/
def BST_BTCFG_SH : Fld := ⟨0xB044, 30, 2⟩
def BST_BTCFG_CELL : Fld := ⟨0xB044, 27, 3⟩
def BST_BTCFG_TOL : Fld := ⟨0xB044, 16, 8⟩
def BST_BTCFG_Q : Fld := ⟨0xB044, 0, 16⟩
/-! BST_BTI (R560) -/
def BST_BTI_I : Fld := ⟨0xB048, 0, 12⟩
/-! BST_DSTAT (R560) -/
def BST_DSTAT_STATE : Fld := ⟨0xB04C, 29, 3⟩
def BST_DSTAT_KIND : Fld := ⟨0xB04C, 26, 2⟩
def BST_DSTAT_CAUSE : Fld := ⟨0xB04C, 16, 4⟩
/-! BST_DFAIL (R560) -/
def BST_DFAIL_CELL : Fld := ⟨0xB050, 0, 32⟩
/-! BST_DFAILX (R560) -/
def BST_DFAILX_AUX : Fld := ⟨0xB054, 1, 1⟩
def BST_DFAILX_CUR : Fld := ⟨0xB054, 0, 1⟩
/-! BST_DLAST (R560) -/
def BST_DLAST_DEV : Fld := ⟨0xB058, 16, 16⟩
def BST_DLAST_CH : Fld := ⟨0xB058, 0, 6⟩
/-! BST_OWOPEN (R560) -/
def BST_OWOPEN_PIN : Fld := ⟨0xB05C, 0, 32⟩
/-! BST_OWRES (R560) -/
def BST_OWRES_PIN : Fld := ⟨0xB060, 0, 32⟩
/-! BST_OWX (R560) -/
def BST_OWX_RES32 : Fld := ⟨0xB064, 1, 1⟩
def BST_OWX_OPEN32 : Fld := ⟨0xB064, 0, 1⟩
/-! BST_BTSTAT (R560) -/
def BST_BTSTAT_BALC : Fld := ⟨0xB068, 24, 8⟩
def BST_BTSTAT_DEVP : Fld := ⟨0xB068, 16, 8⟩
def BST_BTSTAT_END : Fld := ⟨0xB068, 4, 4⟩
def BST_BTSTAT_HALF : Fld := ⟨0xB068, 0, 2⟩
/-! BST_EVT (R559) -/
def BST_EVT_LFAIL : Fld := ⟨0xB06C, 6, 1⟩
def BST_EVT_LDONE : Fld := ⟨0xB06C, 5, 1⟩
def BST_EVT_DFAIL : Fld := ⟨0xB06C, 4, 1⟩
def BST_EVT_DDONE : Fld := ⟨0xB06C, 3, 1⟩
def BST_EVT_CFAIL : Fld := ⟨0xB06C, 2, 1⟩
def BST_EVT_MFAIL : Fld := ⟨0xB06C, 1, 1⟩
def BST_EVT_MDONE : Fld := ⟨0xB06C, 0, 1⟩
/-! PRF_CTL (R675) -/
def PRF_CTL_CLR : Fld := ⟨0xC000, 31, 1⟩
def PRF_CTL_FRZOVF : Fld := ⟨0xC000, 9, 1⟩
def PRF_CTL_FRZ : Fld := ⟨0xC000, 8, 1⟩
def PRF_CTL_EN : Fld := ⟨0xC000, 0, 6⟩
/-! PRF_STAT (R675) -/
def PRF_STAT_OVF : Fld := ⟨0xC004, 0, 6⟩
/-! PRF_UEN (R675) -/
def PRF_UEN_TAG : Fld := ⟨0xC008, 9, 1⟩
def PRF_UEN_CYC : Fld := ⟨0xC008, 8, 1⟩
def PRF_UEN_RD : Fld := ⟨0xC008, 0, 6⟩
/-! PRF_CYCL (R675) -/
def PRF_CYCL_CYCL : Fld := ⟨0xC010, 0, 32⟩
/-! PRF_CYCH (R675) -/
def PRF_CYCH_CYCH : Fld := ⟨0xC014, 0, 32⟩
/-! PRF_PMC (R675) -/
def PRF_PMC_CNT (i : Nat) : Fld := ⟨0xC020 + i * 0x8, 0, 32⟩
/-! PRF_PMCFG (R675) -/
def PRF_PMCFG_THR (i : Nat) : Fld := ⟨0xC024 + i * 0x8, 16, 9⟩
def PRF_PMCFG_SEN (i : Nat) : Fld := ⟨0xC024 + i * 0x8, 9, 1⟩
def PRF_PMCFG_CHAIN (i : Nat) : Fld := ⟨0xC024 + i * 0x8, 8, 1⟩
def PRF_PMCFG_MODE (i : Nat) : Fld := ⟨0xC024 + i * 0x8, 6, 2⟩
def PRF_PMCFG_EVT (i : Nat) : Fld := ⟨0xC024 + i * 0x8, 0, 6⟩
/-! PRF_SAMP (R675) -/
def PRF_SAMP_VALID : Fld := ⟨0xC050, 31, 1⟩
def PRF_SAMP_OVR : Fld := ⟨0xC050, 30, 1⟩
def PRF_SAMP_CNT : Fld := ⟨0xC050, 16, 3⟩
def PRF_SAMP_UMODE : Fld := ⟨0xC050, 13, 1⟩
def PRF_SAMP_PC : Fld := ⟨0xC050, 0, 13⟩
/-! PRF_TAGCFG (R675) -/
def PRF_TAGCFG_SRC : Fld := ⟨0xC060, 8, 2⟩
def PRF_TAGCFG_K : Fld := ⟨0xC060, 4, 4⟩
def PRF_TAGCFG_EN : Fld := ⟨0xC060, 0, 1⟩
/-! PRF_TAGSTAT (R675) -/
def PRF_TAGSTAT_TAGGED : Fld := ⟨0xC064, 16, 16⟩
def PRF_TAGSTAT_BUSY : Fld := ⟨0xC064, 12, 4⟩
def PRF_TAGSTAT_LOST : Fld := ⟨0xC064, 8, 4⟩
def PRF_TAGSTAT_OPEN : Fld := ⟨0xC064, 7, 1⟩
def PRF_TAGSTAT_NEXT : Fld := ⟨0xC064, 4, 3⟩
def PRF_TAGSTAT_NVAL : Fld := ⟨0xC064, 0, 4⟩
/-! PRF_TAG0 (R676) -/
def PRF_TAG0_HDR (i : Nat) : Fld := ⟨0xC080 + i * 0x18, 0, 32⟩
/-! PRF_TAG1 (R676) -/
def PRF_TAG1_VALID (i : Nat) : Fld := ⟨0xC084 + i * 0x18, 31, 1⟩
def PRF_TAG1_OUT (i : Nat) : Fld := ⟨0xC084 + i * 0x18, 28, 3⟩
def PRF_TAG1_IN (i : Nat) : Fld := ⟨0xC084 + i * 0x18, 26, 2⟩
def PRF_TAG1_LEN (i : Nat) : Fld := ⟨0xC084 + i * 0x18, 0, 9⟩
/-! PRF_TAG2 (R676) -/
def PRF_TAG2_TARR (i : Nat) : Fld := ⟨0xC088 + i * 0x18, 0, 32⟩
/-! PRF_TAG3 (R676) -/
def PRF_TAG3_TQ (i : Nat) : Fld := ⟨0xC08C + i * 0x18, 0, 32⟩
/-! PRF_TAG4 (R676) -/
def PRF_TAG4_TFWD (i : Nat) : Fld := ⟨0xC090 + i * 0x18, 0, 32⟩
/-! PRF_TAG5 (R676) -/
def PRF_TAG5_TDONE (i : Nat) : Fld := ⟨0xC094 + i * 0x18, 0, 32⟩
/-! CAL_OFS (R585) -/
def CAL_OFS_OFS (i : Nat) : Fld := ⟨0xD000 + i * 0x18, 0, 16⟩
/-! CAL_GAIN (R585) -/
def CAL_GAIN_GAIN (i : Nat) : Fld := ⟨0xD004 + i * 0x18, 0, 18⟩
/-! CAL_TRIM0 (R585) -/
def CAL_TRIM0_TRIM3 (i : Nat) : Fld := ⟨0xD008 + i * 0x18, 24, 8⟩
def CAL_TRIM0_TRIM2 (i : Nat) : Fld := ⟨0xD008 + i * 0x18, 16, 8⟩
def CAL_TRIM0_TRIM1 (i : Nat) : Fld := ⟨0xD008 + i * 0x18, 8, 8⟩
def CAL_TRIM0_TRIM0 (i : Nat) : Fld := ⟨0xD008 + i * 0x18, 0, 8⟩
/-! CAL_TRIM1 (R585) -/
def CAL_TRIM1_TRIM7 (i : Nat) : Fld := ⟨0xD00C + i * 0x18, 24, 8⟩
def CAL_TRIM1_TRIM6 (i : Nat) : Fld := ⟨0xD00C + i * 0x18, 16, 8⟩
def CAL_TRIM1_TRIM5 (i : Nat) : Fld := ⟨0xD00C + i * 0x18, 8, 8⟩
def CAL_TRIM1_TRIM4 (i : Nat) : Fld := ⟨0xD00C + i * 0x18, 0, 8⟩
/-! CAL_TRIM2 (R585) -/
def CAL_TRIM2_TRIM11 (i : Nat) : Fld := ⟨0xD010 + i * 0x18, 24, 8⟩
def CAL_TRIM2_TRIM10 (i : Nat) : Fld := ⟨0xD010 + i * 0x18, 16, 8⟩
def CAL_TRIM2_TRIM9 (i : Nat) : Fld := ⟨0xD010 + i * 0x18, 8, 8⟩
def CAL_TRIM2_TRIM8 (i : Nat) : Fld := ⟨0xD010 + i * 0x18, 0, 8⟩
/-! CAL_TRIM3 (R585) -/
def CAL_TRIM3_TRIM13 (i : Nat) : Fld := ⟨0xD014 + i * 0x18, 8, 8⟩
def CAL_TRIM3_TRIM12 (i : Nat) : Fld := ⟨0xD014 + i * 0x18, 0, 8⟩
/-! CAL_EQ0 (R585) -/
def CAL_EQ0_PHASE (i : Nat) : Fld := ⟨0xD340 + i * 0x8, 16, 5⟩
def CAL_EQ0_SLOFS (i : Nat) : Fld := ⟨0xD340 + i * 0x8, 8, 6⟩
def CAL_EQ0_BOOST (i : Nat) : Fld := ⟨0xD340 + i * 0x8, 0, 6⟩
/-! CAL_EQ1 (R585) -/
def CAL_EQ1_ECH3 (i : Nat) : Fld := ⟨0xD344 + i * 0x8, 24, 8⟩
def CAL_EQ1_ECH2 (i : Nat) : Fld := ⟨0xD344 + i * 0x8, 16, 8⟩
def CAL_EQ1_ECH1 (i : Nat) : Fld := ⟨0xD344 + i * 0x8, 8, 8⟩
def CAL_EQ1_ECH0 (i : Nat) : Fld := ⟨0xD344 + i * 0x8, 0, 8⟩
/-! CAL_META (R585) -/
def CAL_META_TEMP : Fld := ⟨0xD350, 16, 16⟩
def CAL_META_SRC : Fld := ⟨0xD350, 8, 8⟩
/-! CAL_CTL (R586) -/
def CAL_CTL_QFEN : Fld := ⟨0xD380, 2, 1⟩
def CAL_CTL_LOGW : Fld := ⟨0xD380, 1, 1⟩
def CAL_CTL_TRKEN : Fld := ⟨0xD380, 0, 1⟩
/-! CAL_CMD (R586) -/
def CAL_CMD_CMASK : Fld := ⟨0xD384, 4, 2⟩
def CAL_CMD_LOAD : Fld := ⟨0xD384, 3, 1⟩
def CAL_CMD_LOCK : Fld := ⟨0xD384, 2, 1⟩
def CAL_CMD_COMMIT : Fld := ⟨0xD384, 1, 1⟩
def CAL_CMD_RUN : Fld := ⟨0xD384, 0, 1⟩
/-! CAL_UNLOCK (R586) -/
def CAL_UNLOCK_KEY : Fld := ⟨0xD388, 0, 32⟩
/-! CAL_CHECK (R586) -/
def CAL_CHECK_CRC : Fld := ⟨0xD38C, 0, 32⟩
/-! CAL_SCRC (R586) -/
def CAL_SCRC_CRC : Fld := ⟨0xD390, 0, 32⟩
/-! CAL_HCRC (R586) -/
def CAL_HCRC_CRC : Fld := ⟨0xD394, 0, 32⟩
/-! CAL_STAT (R586) -/
def CAL_STAT_LRES : Fld := ⟨0xD398, 27, 3⟩
def CAL_STAT_RRES : Fld := ⟨0xD398, 24, 3⟩
def CAL_STAT_CRES : Fld := ⟨0xD398, 20, 4⟩
def CAL_STAT_QFAIL : Fld := ⟨0xD398, 3, 1⟩
def CAL_STAT_TRKPAUSE : Fld := ⟨0xD398, 2, 1⟩
def CAL_STAT_LOCKED : Fld := ⟨0xD398, 1, 1⟩
def CAL_STAT_RUN : Fld := ⟨0xD398, 0, 1⟩
/-! CAL_STALE (R586) -/
def CAL_STALE_TRKLIM : Fld := ⟨0xD39C, 12, 1⟩
def CAL_STALE_SLEEP : Fld := ⟨0xD39C, 11, 1⟩
def CAL_STALE_TEMP : Fld := ⟨0xD39C, 10, 1⟩
def CAL_STALE_PAUSE : Fld := ⟨0xD39C, 9, 1⟩
def CAL_STALE_NOCAL : Fld := ⟨0xD39C, 8, 1⟩
def CAL_STALE_ROSE : Fld := ⟨0xD39C, 1, 1⟩
def CAL_STALE_STALE : Fld := ⟨0xD39C, 0, 1⟩
/-! CAL_GEN (R586) -/
def CAL_GEN_GEN : Fld := ⟨0xD3A0, 0, 16⟩
/-! CAL_TREF (R586) -/
def CAL_TREF_TNOW : Fld := ⟨0xD3A4, 16, 16⟩
def CAL_TREF_TREF : Fld := ⟨0xD3A4, 0, 16⟩
/-! CAL_MAXAGE (R586) -/
def CAL_MAXAGE_AGE : Fld := ⟨0xD3A8, 0, 16⟩
/-! CAL_TRKLIM (R586) -/
def CAL_TRKLIM_GLIM : Fld := ⟨0xD3AC, 16, 16⟩
def CAL_TRKLIM_OLIM : Fld := ⟨0xD3AC, 0, 16⟩
/-! CAL_QLIM (R586) -/
def CAL_QLIM_LIM : Fld := ⟨0xD3B0, 0, 8⟩
/-! CAL_SNAP (R586) -/
def CAL_SNAP_SNAP : Fld := ⟨0xD3B4, 0, 1⟩
/-! CAL_TRKCNT (R586) -/
def CAL_TRKCNT_ROUNDS : Fld := ⟨0xD3B8, 16, 16⟩
def CAL_TRKCNT_UPD : Fld := ⟨0xD3B8, 0, 16⟩
/-! CAL_QRES (R587) -/
def CAL_QRES_RES (i : Nat) : Fld := ⟨0xD3C0 + i * 0x4, 0, 32⟩
/-! CAL_QEYE (R587) -/
def CAL_QEYE_UPMIN : Fld := ⟨0xD3E4, 24, 8⟩
def CAL_QEYE_DNMIN : Fld := ⟨0xD3E4, 16, 8⟩
def CAL_QEYE_UP : Fld := ⟨0xD3E4, 8, 8⟩
def CAL_QEYE_DN : Fld := ⟨0xD3E4, 0, 8⟩
/-! CAL_QLOOP (R587) -/
def CAL_QLOOP_MAX (i : Nat) : Fld := ⟨0xD3F0 + i * 0x4, 24, 8⟩
def CAL_QLOOP_MEAN (i : Nat) : Fld := ⟨0xD3F0 + i * 0x4, 0, 16⟩
/-! CAL_EQLIVE0 (R587) -/
def CAL_EQLIVE0_PHASE (i : Nat) : Fld := ⟨0xD400 + i * 0x8, 16, 5⟩
def CAL_EQLIVE0_SLOFS (i : Nat) : Fld := ⟨0xD400 + i * 0x8, 8, 6⟩
def CAL_EQLIVE0_BOOST (i : Nat) : Fld := ⟨0xD400 + i * 0x8, 0, 6⟩
/-! CAL_EQLIVE1 (R587) -/
def CAL_EQLIVE1_ECH3 (i : Nat) : Fld := ⟨0xD404 + i * 0x8, 24, 8⟩
def CAL_EQLIVE1_ECH2 (i : Nat) : Fld := ⟨0xD404 + i * 0x8, 16, 8⟩
def CAL_EQLIVE1_ECH1 (i : Nat) : Fld := ⟨0xD404 + i * 0x8, 8, 8⟩
def CAL_EQLIVE1_ECH0 (i : Nat) : Fld := ⟨0xD404 + i * 0x8, 0, 8⟩
/-! LOG_STAT (R657) -/
def LOG_STAT_MOUNT : Fld := ⟨0xE000, 30, 2⟩
def LOG_STAT_RDONLY : Fld := ⟨0xE000, 29, 1⟩
def LOG_STAT_EBUSY : Fld := ⟨0xE000, 28, 1⟩
def LOG_STAT_ERES : Fld := ⟨0xE000, 26, 2⟩
def LOG_STAT_PFW : Fld := ⟨0xE000, 25, 1⟩
def LOG_STAT_RFR : Fld := ⟨0xE000, 24, 1⟩
def LOG_STAT_SPARE : Fld := ⟨0xE000, 8, 6⟩
def LOG_STAT_PQ : Fld := ⟨0xE000, 0, 3⟩
/-! LOG_CFG (R657) -/
def LOG_CFG_FLUSH : Fld := ⟨0xE004, 16, 16⟩
def LOG_CFG_RTHR : Fld := ⟨0xE004, 8, 8⟩
def LOG_CFG_SCRUB : Fld := ⟨0xE004, 4, 4⟩
/-! LOG_CTL (R657) -/
def LOG_CTL_FLUSH : Fld := ⟨0xE008, 0, 1⟩
/-! LOG_ERASE (R657) -/
def LOG_ERASE_KEY : Fld := ⟨0xE00C, 0, 32⟩
/-! LOG_HEADOFS (R657) -/
def LOG_HEADOFS_OFS : Fld := ⟨0xE010, 0, 32⟩
/-! LOG_HEADSEQL (R657) -/
def LOG_HEADSEQL_SEQL : Fld := ⟨0xE014, 0, 32⟩
/-! LOG_HEADSEQH (R657) -/
def LOG_HEADSEQH_SEQH : Fld := ⟨0xE018, 0, 16⟩
/-! LOG_HEADTAG (R657) -/
def LOG_HEADTAG_CT (i : Nat) : Fld := ⟨0xE01C + i * 0x4, 0, 32⟩
/-! LOG_TAILOFS (R657) -/
def LOG_TAILOFS_OFS : Fld := ⟨0xE030, 0, 32⟩
/-! LOG_TAILSEQL (R657) -/
def LOG_TAILSEQL_SEQL : Fld := ⟨0xE034, 0, 32⟩
/-! LOG_TAILSEQH (R657) -/
def LOG_TAILSEQH_SEQH : Fld := ⟨0xE038, 0, 16⟩
/-! LOG_TAILTAG (R657) -/
def LOG_TAILTAG_CT (i : Nat) : Fld := ⟨0xE03C + i * 0x4, 0, 32⟩
/-! LOG_WEAR (R657) -/
def LOG_WEAR_MAX : Fld := ⟨0xE050, 16, 16⟩
def LOG_WEAR_MIN : Fld := ⟨0xE050, 0, 16⟩
/-! LOG_ECC (R657) -/
def LOG_ECC_CORR : Fld := ⟨0xE054, 16, 16⟩
def LOG_ECC_MAXB : Fld := ⟨0xE054, 8, 8⟩
def LOG_ECC_UNC : Fld := ⟨0xE054, 0, 8⟩
/-! LOG_DROP (R657) -/
def LOG_DROP_HW : Fld := ⟨0xE058, 16, 16⟩
def LOG_DROP_TORN : Fld := ⟨0xE058, 0, 16⟩
/-! LOG_BOOT (R657) -/
def LOG_BOOT_CNT : Fld := ⟨0xE05C, 0, 32⟩
/-! LOG_UTC (R657) -/
def LOG_UTC_UTC : Fld := ⟨0xE060, 0, 32⟩
/-! LOG_RDSTART (R657) -/
def LOG_RDSTART_OFS : Fld := ⟨0xE070, 0, 32⟩
/-! LOG_RDLEN (R657) -/
def LOG_RDLEN_LEN : Fld := ⟨0xE074, 0, 32⟩
/-! LOG_RDCTL (R657) -/
def LOG_RDCTL_SPACE : Fld := ⟨0xE078, 16, 9⟩
def LOG_RDCTL_STOP : Fld := ⟨0xE078, 1, 1⟩
def LOG_RDCTL_GO : Fld := ⟨0xE078, 0, 1⟩
/-! LOG_RDSTAT (R657) -/
def LOG_RDSTAT_XSEQ : Fld := ⟨0xE07C, 16, 16⟩
def LOG_RDSTAT_STATE : Fld := ⟨0xE07C, 0, 3⟩
/-! LOG_SNAP (R657) -/
def LOG_SNAP_SKIP : Fld := ⟨0xE080, 24, 8⟩
def LOG_SNAP_ACT : Fld := ⟨0xE080, 23, 1⟩
def LOG_SNAP_POST : Fld := ⟨0xE080, 8, 7⟩
def LOG_SNAP_PRE : Fld := ⟨0xE080, 0, 7⟩
/-! TWN_STAT (R497) -/
def TWN_STAT_PADDR : Fld := ⟨0xF000, 16, 7⟩
def TWN_STAT_CMPACT : Fld := ⟨0xF000, 8, 1⟩
def TWN_STAT_DEGR : Fld := ⟨0xF000, 7, 1⟩
def TWN_STAT_PRES : Fld := ⟨0xF000, 4, 3⟩
def TWN_STAT_HEAD : Fld := ⟨0xF000, 3, 1⟩
def TWN_STAT_ROLE : Fld := ⟨0xF000, 2, 1⟩
def TWN_STAT_LINK : Fld := ⟨0xF000, 0, 2⟩
/-! TWN_PAIRID (R497) -/
def TWN_PAIRID_PARTNER : Fld := ⟨0xF004, 16, 16⟩
def TWN_PAIRID_OWN : Fld := ⟨0xF004, 0, 16⟩
/-! TWN_DLY (R497) -/
def TWN_DLY_VALID : Fld := ⟨0xF008, 31, 1⟩
def TWN_DLY_D : Fld := ⟨0xF008, 0, 16⟩
/-! TWN_CFG (R497) -/
def TWN_CFG_DL : Fld := ⟨0xF00C, 16, 4⟩
def TWN_CFG_MISSMAX : Fld := ⟨0xF00C, 8, 4⟩
def TWN_CFG_NDIFF : Fld := ⟨0xF00C, 4, 4⟩
def TWN_CFG_CMPEN : Fld := ⟨0xF00C, 0, 1⟩
/-! TWN_TOL (R497) -/
def TWN_TOL_BALX : Fld := ⟨0xF010, 16, 16⟩
def TWN_TOL_TOL : Fld := ⟨0xF010, 0, 16⟩
/-! TWN_DIFF (R497) -/
def TWN_DIFF_CELL : Fld := ⟨0xF014, 0, 32⟩
/-! TWN_CMPCNT (R497) -/
def TWN_CMPCNT_CMP : Fld := ⟨0xF018, 16, 16⟩
def TWN_CMPCNT_SKIP : Fld := ⟨0xF018, 8, 8⟩
def TWN_CMPCNT_MISS : Fld := ⟨0xF018, 0, 8⟩
/-! TWN_EVT (R497) -/
def TWN_EVT_SKIP : Fld := ⟨0xF01C, 5, 1⟩
def TWN_EVT_PAIR : Fld := ⟨0xF01C, 4, 1⟩
def TWN_EVT_MISS : Fld := ⟨0xF01C, 3, 1⟩
def TWN_EVT_DIFF : Fld := ⟨0xF01C, 2, 1⟩
def TWN_EVT_DOWN : Fld := ⟨0xF01C, 1, 1⟩
def TWN_EVT_UP : Fld := ⟨0xF01C, 0, 1⟩
/-! TWN_LASTD (R497) -/
def TWN_LASTD_CELL : Fld := ⟨0xF020, 24, 5⟩
def TWN_LASTD_DIFF : Fld := ⟨0xF020, 0, 24⟩
/-! TWN_CCCFG (R498) -/
def TWN_CCCFG_FMASK : Fld := ⟨0xF040, 8, 8⟩
def TWN_CCCFG_EVERY : Fld := ⟨0xF040, 1, 1⟩
def TWN_CCCFG_EN : Fld := ⟨0xF040, 0, 1⟩
/-! TWN_CCSTAT (R498) -/
def TWN_CCSTAT_SSEQ : Fld := ⟨0xF044, 16, 16⟩
def TWN_CCSTAT_OVLD : Fld := ⟨0xF044, 1, 1⟩
def TWN_CCSTAT_SUSP : Fld := ⟨0xF044, 0, 1⟩
/-! TWN_CCCNT (R498) -/
def TWN_CCCNT_MM : Fld := ⟨0xF048, 24, 8⟩
def TWN_CCCNT_SGL : Fld := ⟨0xF048, 16, 8⟩
def TWN_CCCNT_LOST : Fld := ⟨0xF048, 8, 8⟩
/-! TWN_CCFIRST (R498) -/
def TWN_CCFIRST_SSEQ : Fld := ⟨0xF04C, 16, 16⟩
def TWN_CCFIRST_PAIR : Fld := ⟨0xF04C, 8, 7⟩
def TWN_CCFIRST_KIND : Fld := ⟨0xF04C, 0, 3⟩
/-! TWN_CCMM (R498) -/
def TWN_CCMM_PAIR (i : Nat) : Fld := ⟨0xF050 + i * 0x4, 0, 32⟩
/-! TWN_CCSGL (R498) -/
def TWN_CCSGL_PAIR (i : Nat) : Fld := ⟨0xF060 + i * 0x4, 0, 32⟩
/-! TWN_CCLOST (R498) -/
def TWN_CCLOST_PAIR (i : Nat) : Fld := ⟨0xF070 + i * 0x4, 0, 32⟩
/-! TWN_CCSEL (R498) -/
def TWN_CCSEL_PAIR : Fld := ⟨0xF080, 0, 7⟩
/-! TWN_CCRAW (R498) -/
def TWN_CCRAW_RAW (i : Nat) : Fld := ⟨0xF084 + i * 0x4, 0, 32⟩

end F

end Sys2Proof.Machine
end

