-- ==== Sys2Proof/Machine/RegTable.lean ====
section
/-!
DEFINITION. The register table: for every register of R679 its address, its strides, and the access type and reset value of
each of its fields, transcribed from the register tables of the chapters of spec/ (R12, R16, R677 to R679).
-/

namespace Sys2Proof.Machine

/-- The access types of R12. -/
inductive Access where
  | rw | ro | w1c | wo | rc | wl
  deriving DecidableEq, Repr

/-- One field of a register: lowest bit, width, access type and reset value. -/
structure FieldDesc where
  lo : Nat
  width : Nat
  acc : Access
  reset : Nat
  deriving DecidableEq, Repr

/-- One register, or one series of registers: base address, (count, stride) of each index, and its fields. -/
structure RegDesc where
  base : Nat
  dims : List (Nat × Nat)
  fields : List FieldDesc
  deriving DecidableEq, Repr

/-- Block SYS, part 1. -/
def regsSys0 : List RegDesc := [
  /- SYS_ID -/ ⟨0x0000, [], [⟨16, 16, .ro, 0x3248⟩, ⟨12, 4, .ro, 0x1⟩, ⟨8, 4, .ro, 0x0⟩, ⟨4, 4, .ro, 0x1⟩]⟩,
  /- SYS_STRAP -/ ⟨0x0004, [], [⟨2, 1, .ro, 0x0⟩, ⟨1, 1, .ro, 0x0⟩, ⟨0, 1, .ro, 0x0⟩]⟩,
  /- SYS_CLKSTAT -/ ⟨0x0008, [], [⟨7, 1, .ro, 0x0⟩, ⟨6, 1, .ro, 0x0⟩, ⟨5, 1, .ro, 0x0⟩, ⟨4, 1, .ro, 0x0⟩, ⟨3, 1, .ro, 0x0⟩, ⟨2, 1, .ro, 0x0⟩, ⟨1, 1, .w1c, 0x0⟩, ⟨0, 1, .w1c, 0x0⟩]⟩,
  /- SYS_PWRSTAT -/ ⟨0x0010, [], [⟨24, 4, .ro, 0x0⟩, ⟨16, 8, .ro, 0x0⟩, ⟨11, 1, .ro, 0x0⟩, ⟨10, 1, .ro, 0x0⟩, ⟨9, 1, .ro, 0x0⟩, ⟨0, 3, .ro, 0x1⟩]⟩,
  /- SYS_PWRCTL -/ ⟨0x0014, [], [⟨2, 1, .wo, 0x0⟩, ⟨1, 1, .wo, 0x0⟩, ⟨0, 1, .wo, 0x0⟩]⟩,
  /- SYS_COMMTMO -/ ⟨0x0018, [], [⟨0, 16, .rw, 0x7D0⟩]⟩,
  /- SYS_RSTCAUSE -/ ⟨0x001C, [], [⟨2, 1, .w1c, 0x0⟩, ⟨1, 1, .w1c, 0x0⟩, ⟨0, 1, .w1c, 0x1⟩]⟩,
  /- SYS_RSTCMD -/ ⟨0x0020, [], [⟨0, 32, .wo, 0x0⟩]⟩,
  /- SYS_WAKE -/ ⟨0x0024, [], [⟨8, 1, .rw, 0x1⟩, ⟨1, 1, .ro, 0x0⟩, ⟨0, 1, .w1c, 0x0⟩]⟩,
  /- SYS_SLPT -/ ⟨0x0028, [], [⟨0, 32, .ro, 0x0⟩]⟩,
  /- SYS_EMBCFG -/ ⟨0x0030, [], [⟨31, 1, .rw, 0x1⟩, ⟨18, 4, .rw, 0xF⟩, ⟨16, 1, .rw, 0x1⟩, ⟨0, 12, .rw, 0x3C⟩]⟩,
  /- SYS_EMBTHV -/ ⟨0x0034, [], [⟨16, 16, .rw, 0x3700⟩, ⟨0, 16, .rw, 0x1F40⟩]⟩,
  /- SYS_EMBTHX -/ ⟨0x0038, [], [⟨16, 16, .rw, 0x140⟩, ⟨8, 8, .rw, 0x27⟩, ⟨0, 8, .rw, 0xE9⟩]⟩,
  /- SYS_EMBSTAT -/ ⟨0x003C, [], [⟨16, 16, .rc, 0x0⟩, ⟨8, 8, .rc, 0x0⟩, ⟨0, 5, .w1c, 0x0⟩]⟩,
  /- SYS_EMBRES -/ ⟨0x0040, [], [⟨16, 16, .ro, 0x0⟩, ⟨0, 16, .ro, 0x0⟩]⟩]

/-- The registers of block SYS. -/
def regsSys : List RegDesc := regsSys0

/-- Block CHN, part 1. -/
def regsChn0 : List RegDesc := [
  /- CHN_ADDR -/ ⟨0x1000, [], [⟨16, 16, .ro, 0x0⟩, ⟨9, 1, .ro, 0x0⟩, ⟨8, 1, .ro, 0x0⟩, ⟨0, 7, .ro, 0x0⟩]⟩,
  /- CHN_TOKL -/ ⟨0x1004, [], [⟨0, 32, .ro, 0x0⟩]⟩,
  /- CHN_TOKH -/ ⟨0x1008, [], [⟨0, 16, .ro, 0x0⟩]⟩,
  /- CHN_PSTAT -/ ⟨0x100C, [], [⟨16, 4, .ro, 0x1⟩, ⟨8, 4, .ro, 0x1⟩, ⟨4, 2, .ro, 0x0⟩, ⟨0, 2, .ro, 0x0⟩]⟩,
  /- CHN_LERR -/ ⟨0x1010, [], [⟨16, 16, .rc, 0x0⟩, ⟨0, 16, .rc, 0x0⟩]⟩,
  /- CHN_UERR -/ ⟨0x1014, [], [⟨16, 16, .rc, 0x0⟩, ⟨0, 16, .rc, 0x0⟩]⟩,
  /- CHN_FREV -/ ⟨0x1018, [], [⟨16, 16, .rc, 0x0⟩, ⟨0, 16, .rc, 0x0⟩]⟩,
  /- CHN_EFLAG -/ ⟨0x101C, [], [⟨7, 1, .w1c, 0x0⟩, ⟨6, 1, .w1c, 0x0⟩, ⟨5, 1, .w1c, 0x0⟩, ⟨4, 1, .w1c, 0x0⟩, ⟨3, 1, .w1c, 0x0⟩, ⟨2, 1, .w1c, 0x0⟩, ⟨1, 1, .w1c, 0x0⟩, ⟨0, 1, .w1c, 0x0⟩]⟩,
  /- CHN_HEAL -/ ⟨0x1020, [], [⟨16, 7, .rw, 0x0⟩, ⟨8, 7, .rw, 0x0⟩, ⟨0, 2, .ro, 0x0⟩]⟩,
  /- CHN_TMO -/ ⟨0x1024, [], [⟨16, 4, .rw, 0x2⟩, ⟨0, 16, .rw, 0x1F4⟩]⟩,
  /- CHN_TRIGCFG -/ ⟨0x1028, [], [⟨24, 7, .rw, 0x7F⟩, ⟨16, 2, .rw, 0x0⟩, ⟨0, 16, .rw, 0x1B58⟩]⟩,
  /- CHN_TRIGL -/ ⟨0x102C, [], [⟨0, 32, .rw, 0x0⟩]⟩,
  /- CHN_TRIGH -/ ⟨0x1030, [], [⟨24, 8, .rw, 0x0⟩, ⟨16, 5, .rw, 0x0⟩, ⟨0, 16, .rw, 0x0⟩]⟩,
  /- CHN_TRIGSTAT -/ ⟨0x1034, [], [⟨24, 8, .ro, 0x0⟩, ⟨0, 16, .rc, 0x0⟩]⟩,
  /- CHN_KCTL -/ ⟨0x1038, [], [⟨24, 8, .ro, 0x0⟩, ⟨8, 7, .rw, 0x1⟩, ⟨4, 1, .rw, 0x0⟩, ⟨2, 2, .ro, 0x0⟩, ⟨0, 1, .wo, 0x0⟩]⟩,
  /- CHN_KSTAT -/ ⟨0x103C, [], [⟨16, 16, .ro, 0x0⟩, ⟨8, 8, .ro, 0x0⟩, ⟨7, 1, .ro, 0x0⟩, ⟨0, 7, .ro, 0x0⟩]⟩,
  /- CHN_BRK -/ ⟨0x1040, [], [⟨30, 2, .ro, 0x0⟩, ⟨16, 7, .ro, 0x0⟩, ⟨8, 7, .ro, 0x0⟩, ⟨0, 4, .ro, 0x0⟩]⟩,
  /- CHN_RFWD -/ ⟨0x1044, [], [⟨0, 32, .ro, 0x0⟩]⟩,
  /- CHN_RTOT -/ ⟨0x1048, [], [⟨0, 32, .ro, 0x0⟩]⟩,
  /- CHN_IRQST -/ ⟨0x104C, [], [⟨9, 1, .w1c, 0x0⟩, ⟨8, 1, .w1c, 0x0⟩, ⟨7, 1, .w1c, 0x0⟩, ⟨6, 1, .w1c, 0x0⟩, ⟨5, 1, .w1c, 0x0⟩, ⟨4, 1, .w1c, 0x0⟩, ⟨3, 1, .w1c, 0x0⟩, ⟨2, 1, .w1c, 0x0⟩, ⟨1, 1, .w1c, 0x0⟩, ⟨0, 1, .ro, 0x0⟩]⟩]

/-- Block CHN, part 2. -/
def regsChn1 : List RegDesc := [
  /- CHN_IRQEN -/ ⟨0x1050, [], [⟨0, 10, .rw, 0x0⟩]⟩,
  /- CHN_HQCTL -/ ⟨0x1054, [], [⟨16, 1, .rw, 0x0⟩, ⟨0, 10, .rw, 0x1⟩]⟩,
  /- CHN_HQSTAT -/ ⟨0x1058, [], [⟨22, 10, .ro, 0x0⟩, ⟨16, 5, .ro, 0x10⟩, ⟨0, 16, .rc, 0x0⟩]⟩,
  /- CHN_SPIERR -/ ⟨0x105C, [], [⟨16, 16, .rc, 0x0⟩, ⟨0, 16, .rc, 0x0⟩]⟩,
  /- CHN_SQSTAT -/ ⟨0x1060, [], [⟨16, 8, .rc, 0x0⟩, ⟨8, 4, .ro, 0x0⟩, ⟨0, 3, .ro, 0x0⟩]⟩]

/-- The registers of block CHN. -/
def regsChn : List RegDesc := regsChn0 ++ regsChn1

/-- Block SEQ, part 1. -/
def regsSeq0 : List RegDesc := [
  /- SEQ_CTL -/ ⟨0x2000, [], [⟨0, 1, .rw, 0x0⟩]⟩,
  /- SEQ_STAT -/ ⟨0x2004, [], [⟨16, 14, .ro, 0x0⟩, ⟨8, 1, .ro, 0x0⟩, ⟨5, 3, .ro, 0x0⟩, ⟨4, 1, .ro, 0x0⟩, ⟨3, 1, .ro, 0x0⟩, ⟨2, 1, .ro, 0x0⟩, ⟨1, 1, .ro, 0x1⟩, ⟨0, 1, .ro, 0x0⟩]⟩,
  /- SEQ_IP -/ ⟨0x2008, [], [⟨0, 16, .w1c, 0x0⟩]⟩,
  /- SEQ_IE -/ ⟨0x200C, [], [⟨0, 16, .rw, 0x0⟩]⟩,
  /- SEQ_EPC -/ ⟨0x2010, [], [⟨0, 13, .rw, 0x0⟩]⟩,
  /- SEQ_ESR -/ ⟨0x2014, [], [⟨5, 1, .rw, 0x0⟩, ⟨4, 1, .rw, 0x0⟩, ⟨3, 1, .rw, 0x0⟩, ⟨2, 1, .rw, 0x0⟩, ⟨1, 1, .rw, 0x0⟩, ⟨0, 1, .rw, 0x0⟩]⟩,
  /- SEQ_EXC -/ ⟨0x2018, [], [⟨0, 4, .ro, 0x0⟩]⟩,
  /- SEQ_EXCI -/ ⟨0x201C, [], [⟨0, 32, .ro, 0x0⟩]⟩,
  /- SEQ_GRANT -/ ⟨0x2020, [], [⟨20, 1, .rw, 0x0⟩, ⟨19, 1, .rw, 0x0⟩, ⟨18, 1, .rw, 0x0⟩, ⟨17, 1, .rw, 0x0⟩, ⟨16, 1, .rw, 0x0⟩, ⟨0, 16, .rw, 0x0⟩]⟩,
  /- SEQ_UWIN -/ ⟨0x2024, [], [⟨16, 9, .rw, 0x0⟩, ⟨0, 9, .rw, 0x0⟩]⟩,
  /- SEQ_UREG -/ ⟨0x2028, [], [⟨16, 14, .ro, 0x0⟩, ⟨0, 13, .ro, 0x0⟩]⟩,
  /- SEQ_DOOR -/ ⟨0x202C, [], [⟨0, 32, .rw, 0x0⟩]⟩,
  /- SEQ_BANK -/ ⟨0x2030, [], [⟨8, 2, .ro, 0x0⟩, ⟨4, 2, .ro, 0x0⟩, ⟨0, 1, .ro, 0x0⟩]⟩,
  /- SEQ_BVER -/ ⟨0x2040, [(2, 0x10)], [⟨0, 32, .ro, 0x0⟩]⟩,
  /- SEQ_BGEN -/ ⟨0x2044, [(2, 0x10)], [⟨16, 4, .ro, 0x0⟩, ⟨0, 16, .ro, 0x0⟩]⟩,
  /- SEQ_BLEN -/ ⟨0x2048, [(2, 0x10)], [⟨0, 14, .ro, 0x0⟩]⟩,
  /- SEQ_BCRC -/ ⟨0x204C, [(2, 0x10)], [⟨0, 32, .ro, 0x0⟩]⟩,
  /- SEQ_LDCTL -/ ⟨0x2060, [], [⟨0, 1, .wo, 0x0⟩]⟩,
  /- SEQ_LDSTAT -/ ⟨0x2064, [], [⟨16, 16, .ro, 0x0⟩, ⟨8, 4, .ro, 0x0⟩, ⟨4, 1, .w1c, 0x0⟩, ⟨3, 1, .ro, 0x0⟩, ⟨0, 3, .ro, 0x0⟩]⟩,
  /- SEQ_RUNVER -/ ⟨0x2068, [], [⟨0, 32, .wo, 0x0⟩]⟩]

/-- Block SEQ, part 2. -/
def regsSeq1 : List RegDesc := [
  /- SEQ_RUN -/ ⟨0x206C, [], [⟨16, 16, .wo, 0x0⟩, ⟨0, 2, .wo, 0x0⟩]⟩,
  /- SEQ_RUNSTAT -/ ⟨0x2070, [], [⟨16, 16, .ro, 0x0⟩, ⟨8, 1, .ro, 0x0⟩, ⟨4, 4, .ro, 0x0⟩, ⟨0, 2, .ro, 0x0⟩]⟩,
  /- SEQ_LDMAP -/ ⟨0x2080, [(8, 0x4)], [⟨0, 32, .ro, 0x0⟩]⟩,
  /- SEQ_MBOX -/ ⟨0x2400, [(740, 0x4)], [⟨0, 32, .rw, 0x0⟩]⟩]

/-- The registers of block SEQ. -/
def regsSeq : List RegDesc := regsSeq0 ++ regsSeq1

/-- Block CONV, part 1. -/
def regsConv0 : List RegDesc := [
  /- CONV_CHEN -/ ⟨0x3000, [], [⟨0, 32, .rw, 0xFFFFFFFF⟩]⟩,
  /- CONV_DEVEN -/ ⟨0x3004, [], [⟨1, 1, .rw, 0x1⟩, ⟨0, 1, .rw, 0x0⟩]⟩,
  /- CONV_TRIG -/ ⟨0x3008, [], [⟨8, 1, .rw, 0x0⟩, ⟨4, 2, .rw, 0x0⟩, ⟨0, 3, .rw, 0x0⟩]⟩,
  /- CONV_DLY -/ ⟨0x300C, [], [⟨16, 5, .rw, 0x0⟩, ⟨0, 16, .rw, 0x0⟩]⟩,
  /- CONV_SWEEP -/ ⟨0x3010, [], [⟨0, 16, .rw, 0x1⟩]⟩,
  /- CONV_INTV -/ ⟨0x3014, [], [⟨16, 1, .rw, 0x0⟩, ⟨0, 16, .rw, 0x64⟩]⟩,
  /- CONV_AUXCTL -/ ⟨0x3018, [], [⟨8, 4, .ro, 0x0⟩, ⟨4, 1, .rw, 0x1⟩, ⟨0, 4, .rw, 0xB⟩]⟩,
  /- CONV_AUXSEQ0 -/ ⟨0x301C, [], [⟨0, 32, .rw, 0x76543210⟩]⟩,
  /- CONV_AUXSEQ1 -/ ⟨0x3020, [], [⟨0, 32, .rw, 0xDDDDBA98⟩]⟩,
  /- CONV_CMD -/ ⟨0x3024, [], [⟨3, 1, .wo, 0x0⟩, ⟨2, 1, .wo, 0x0⟩, ⟨1, 1, .wo, 0x0⟩, ⟨0, 1, .wo, 0x0⟩]⟩,
  /- CONV_STAT -/ ⟨0x3028, [], [⟨16, 16, .ro, 0x0⟩, ⟨4, 1, .ro, 0x0⟩, ⟨3, 1, .ro, 0x0⟩, ⟨2, 1, .ro, 0x0⟩, ⟨1, 1, .ro, 0x0⟩, ⟨0, 1, .ro, 0x0⟩]⟩,
  /- CONV_MISS -/ ⟨0x302C, [], [⟨0, 16, .rc, 0x0⟩]⟩,
  /- CONV_MISSC -/ ⟨0x3030, [], [⟨6, 1, .w1c, 0x0⟩, ⟨5, 1, .w1c, 0x0⟩, ⟨4, 1, .w1c, 0x0⟩, ⟨3, 1, .w1c, 0x0⟩, ⟨2, 1, .w1c, 0x0⟩, ⟨1, 1, .w1c, 0x0⟩, ⟨0, 1, .w1c, 0x0⟩]⟩,
  /- CONV_DROP -/ ⟨0x3034, [], [⟨16, 16, .rc, 0x0⟩, ⟨0, 16, .rc, 0x0⟩]⟩,
  /- CONV_INJ -/ ⟨0x3038, [], [⟨8, 2, .rw, 0x3⟩, ⟨4, 4, .rw, 0x0⟩, ⟨2, 1, .rw, 0x0⟩, ⟨1, 1, .rw, 0x0⟩, ⟨0, 1, .wo, 0x0⟩]⟩,
  /- CONV_INJCH -/ ⟨0x303C, [], [⟨0, 32, .rw, 0x0⟩]⟩,
  /- CONV_FADJ -/ ⟨0x3040, [], [⟨8, 1, .ro, 0x0⟩, ⟨0, 5, .ro, 0x0⟩]⟩,
  /- CONV_TSL -/ ⟨0x3044, [], [⟨0, 32, .ro, 0x0⟩]⟩,
  /- CONV_TSH -/ ⟨0x3048, [], [⟨16, 5, .ro, 0x0⟩, ⟨0, 16, .ro, 0x0⟩]⟩,
  /- CONV_ORF -/ ⟨0x304C, [], [⟨0, 32, .w1c, 0x0⟩]⟩]

/-- Block CONV, part 2. -/
def regsConv1 : List RegDesc := [
  /- CONV_URF -/ ⟨0x3050, [], [⟨0, 32, .w1c, 0x0⟩]⟩,
  /- CONV_RNGX -/ ⟨0x3054, [], [⟨1, 1, .w1c, 0x0⟩, ⟨0, 1, .w1c, 0x0⟩]⟩,
  /- CONV_DIAG -/ ⟨0x3058, [], [⟨4, 2, .rw, 0x0⟩, ⟨0, 2, .rw, 0x0⟩]⟩,
  /- CONV_DIAGCH -/ ⟨0x305C, [], [⟨0, 32, .rw, 0x0⟩]⟩,
  /- CONV_TDAC -/ ⟨0x3060, [], [⟨16, 1, .rw, 0x0⟩, ⟨0, 10, .rw, 0x0⟩]⟩]

/-- The registers of block CONV. -/
def regsConv : List RegDesc := regsConv0 ++ regsConv1

/-- Block ACC, part 1. -/
def regsAcc0 : List RegDesc := [
  /- ACC_RSTAT -/ ⟨0x4000, [(34, 0x60), (4, 0x18)], [⟨24, 8, .ro, 0x0⟩, ⟨16, 8, .ro, 0x0⟩, ⟨12, 4, .ro, 0x0⟩, ⟨11, 1, .ro, 0x0⟩, ⟨10, 1, .ro, 0x0⟩, ⟨9, 1, .ro, 0x0⟩, ⟨8, 1, .ro, 0x0⟩, ⟨7, 1, .ro, 0x0⟩, ⟨6, 1, .ro, 0x0⟩, ⟨5, 1, .ro, 0x0⟩, ⟨4, 1, .ro, 0x0⟩, ⟨3, 1, .ro, 0x0⟩, ⟨2, 1, .ro, 0x0⟩, ⟨1, 1, .rc, 0x0⟩, ⟨0, 1, .rc, 0x0⟩]⟩,
  /- ACC_RESA -/ ⟨0x4004, [(34, 0x60), (4, 0x18)], [⟨0, 32, .ro, 0x0⟩]⟩,
  /- ACC_RESB -/ ⟨0x4008, [(34, 0x60), (4, 0x18)], [⟨0, 32, .ro, 0x0⟩]⟩,
  /- ACC_RESC -/ ⟨0x400C, [(34, 0x60), (4, 0x18)], [⟨24, 8, .ro, 0x0⟩, ⟨16, 8, .ro, 0x0⟩, ⟨8, 8, .ro, 0x0⟩]⟩,
  /- ACC_RCNT -/ ⟨0x4010, [(34, 0x60), (4, 0x18)], [⟨0, 24, .ro, 0x0⟩]⟩,
  /- ACC_RPH -/ ⟨0x4014, [(34, 0x60), (4, 0x18)], [⟨0, 32, .ro, 0x0⟩]⟩,
  /- ACC_TRKA -/ ⟨0x4CC0, [(34, 0x10)], [⟨16, 16, .rc, 0x0⟩, ⟨0, 16, .rc, 0x0⟩]⟩,
  /- ACC_TRKBL -/ ⟨0x4CC4, [(34, 0x10)], [⟨0, 32, .rc, 0x0⟩]⟩,
  /- ACC_TRKBH -/ ⟨0x4CC8, [(34, 0x10)], [⟨0, 32, .ro, 0x0⟩]⟩,
  /- ACC_TRKN -/ ⟨0x4CCC, [(34, 0x10)], [⟨16, 16, .ro, 0x0⟩, ⟨0, 16, .ro, 0x0⟩]⟩,
  /- ACC_DCFG, drawer 0 -/ ⟨0x4EE0, [(3, 0x10)], [⟨24, 4, .rw, 0x0⟩, ⟨18, 3, .rw, 0x0⟩, ⟨12, 6, .rw, 0x1⟩, ⟨8, 4, .rw, 0x4⟩, ⟨4, 4, .rw, 0x4⟩, ⟨2, 1, .rw, 0x1⟩, ⟨0, 2, .rw, 0x1⟩]⟩,
  /- ACC_DCFG, drawer 1 -/ ⟨0x4EE4, [(3, 0x10)], [⟨24, 4, .rw, 0x0⟩, ⟨18, 3, .rw, 0x0⟩, ⟨12, 6, .rw, 0x1⟩, ⟨8, 4, .rw, 0x0⟩, ⟨4, 4, .rw, 0x1⟩, ⟨2, 1, .rw, 0x1⟩, ⟨0, 2, .rw, 0x0⟩]⟩,
  /- ACC_DCFG, drawer 2 -/ ⟨0x4EE8, [(3, 0x10)], [⟨24, 4, .rw, 0x0⟩, ⟨18, 3, .rw, 0x0⟩, ⟨12, 6, .rw, 0x1⟩, ⟨8, 4, .rw, 0x0⟩, ⟨4, 4, .rw, 0x1⟩, ⟨2, 1, .rw, 0x1⟩, ⟨0, 2, .rw, 0x0⟩]⟩,
  /- ACC_DCFG, drawer 3 -/ ⟨0x4EEC, [(3, 0x10)], [⟨24, 4, .rw, 0x0⟩, ⟨18, 3, .rw, 0x0⟩, ⟨12, 6, .rw, 0x1⟩, ⟨8, 4, .rw, 0x1⟩, ⟨4, 4, .rw, 0x1⟩, ⟨2, 1, .rw, 0x0⟩, ⟨0, 2, .rw, 0x1⟩]⟩,
  /- ACC_DPAR -/ ⟨0x4F10, [(3, 0x10), (4, 0x4)], [⟨0, 16, .rw, 0x1⟩]⟩,
  /- ACC_DCHEN -/ ⟨0x4F40, [(4, 0x4)], [⟨0, 32, .rw, 0xFFFFFFFF⟩]⟩,
  /- ACC_XSTAT -/ ⟨0x4F50, [(4, 0x18)], [⟨24, 8, .ro, 0x0⟩, ⟨16, 8, .ro, 0x0⟩, ⟨12, 4, .ro, 0x0⟩, ⟨11, 1, .ro, 0x0⟩, ⟨10, 1, .ro, 0x0⟩, ⟨9, 1, .ro, 0x0⟩, ⟨8, 1, .ro, 0x0⟩, ⟨7, 1, .ro, 0x0⟩, ⟨6, 1, .ro, 0x0⟩, ⟨5, 1, .ro, 0x0⟩, ⟨4, 1, .ro, 0x0⟩, ⟨3, 1, .ro, 0x0⟩, ⟨2, 1, .ro, 0x0⟩, ⟨1, 1, .rc, 0x0⟩, ⟨0, 1, .rc, 0x0⟩]⟩,
  /- ACC_XA -/ ⟨0x4F54, [(4, 0x18)], [⟨0, 32, .ro, 0x0⟩]⟩,
  /- ACC_XB -/ ⟨0x4F58, [(4, 0x18)], [⟨0, 32, .ro, 0x0⟩]⟩,
  /- ACC_XC -/ ⟨0x4F5C, [(4, 0x18)], [⟨24, 8, .ro, 0x0⟩, ⟨16, 8, .ro, 0x0⟩, ⟨0, 16, .ro, 0x0⟩]⟩]

/-- Block ACC, part 2. -/
def regsAcc1 : List RegDesc := [
  /- ACC_XCNT -/ ⟨0x4F60, [(4, 0x18)], [⟨0, 24, .ro, 0x0⟩]⟩,
  /- ACC_XPH -/ ⟨0x4F64, [(4, 0x18)], [⟨0, 32, .ro, 0x0⟩]⟩,
  /- ACC_XCFG -/ ⟨0x4FB0, [], [⟨26, 1, .rw, 0x0⟩, ⟨24, 2, .rw, 0x0⟩, ⟨18, 1, .rw, 0x0⟩, ⟨16, 2, .rw, 0x0⟩, ⟨10, 1, .rw, 0x0⟩, ⟨8, 2, .rw, 0x0⟩, ⟨2, 1, .rw, 0x0⟩, ⟨0, 2, .rw, 0x0⟩]⟩,
  /- ACC_CTL -/ ⟨0x4FB4, [], [⟨8, 1, .rw, 0x0⟩, ⟨0, 4, .rw, 0x8⟩]⟩,
  /- ACC_CMD -/ ⟨0x4FB8, [], [⟨5, 1, .wo, 0x0⟩, ⟨4, 1, .wo, 0x0⟩, ⟨0, 4, .wo, 0x0⟩]⟩,
  /- ACC_STAT -/ ⟨0x4FBC, [], [⟨8, 4, .w1c, 0x0⟩, ⟨7, 1, .w1c, 0x0⟩, ⟨0, 4, .ro, 0x0⟩]⟩,
  /- ACC_SATF -/ ⟨0x4FC0, [], [⟨0, 32, .w1c, 0x0⟩]⟩,
  /- ACC_SATX -/ ⟨0x4FC4, [], [⟨1, 1, .w1c, 0x0⟩, ⟨0, 1, .w1c, 0x0⟩]⟩,
  /- ACC_NEW -/ ⟨0x4FC8, [(4, 0x4)], [⟨0, 32, .ro, 0x0⟩]⟩,
  /- ACC_NEWX -/ ⟨0x4FD8, [], [⟨4, 4, .ro, 0x0⟩, ⟨0, 4, .ro, 0x0⟩]⟩,
  /- ACC_WHELD -/ ⟨0x4FDC, [], [⟨0, 16, .rc, 0x0⟩]⟩]

/-- The registers of block ACC. -/
def regsAcc : List RegDesc := regsAcc0 ++ regsAcc1

/-- Block BAL, part 1. -/
def regsBal0 : List RegDesc := [
  /- BAL_CTL -/ ⟨0x5000, [], [⟨31, 1, .wo, 0x0⟩, ⟨16, 9, .rw, 0xC8⟩, ⟨8, 8, .rw, 0x64⟩, ⟨4, 1, .rw, 0x1⟩, ⟨0, 4, .rw, 0xF⟩]⟩,
  /- BAL_STAT -/ ⟨0x5004, [], [⟨28, 4, .ro, 0x0⟩, ⟨24, 4, .ro, 0x0⟩, ⟨20, 4, .ro, 0x0⟩, ⟨16, 4, .ro, 0x0⟩, ⟨8, 1, .ro, 0x0⟩, ⟨4, 1, .ro, 0x0⟩, ⟨0, 2, .ro, 0x0⟩]⟩,
  /- BAL_CMDQ -/ ⟨0x5008, [], [⟨16, 16, .rw, 0x0⟩, ⟨0, 16, .rw, 0x0⟩]⟩,
  /- BAL_CMD -/ ⟨0x500C, [], [⟨16, 2, .wo, 0x0⟩, ⟨13, 3, .wo, 0x0⟩, ⟨12, 1, .wo, 0x0⟩, ⟨10, 2, .wo, 0x0⟩]⟩,
  /- BAL_CMDRES -/ ⟨0x5010, [], [⟨8, 8, .ro, 0x0⟩, ⟨0, 8, .ro, 0x0⟩]⟩,
  /- BAL_BUSCTL -/ ⟨0x5014, [], [⟨16, 8, .rw, 0x6E⟩, ⟨8, 8, .rw, 0x8⟩]⟩,
  /- BAL_BUSSTAT -/ ⟨0x5018, [], [⟨16, 16, .rc, 0x0⟩, ⟨0, 16, .rc, 0x0⟩]⟩,
  /- BAL_HOCTL -/ ⟨0x501C, [], [⟨8, 3, .ro, 0x0⟩, ⟨0, 2, .wo, 0x0⟩]⟩,
  /- BAL_EVT -/ ⟨0x5020, [], [⟨12, 1, .w1c, 0x0⟩, ⟨8, 4, .w1c, 0x0⟩, ⟨4, 4, .w1c, 0x0⟩, ⟨0, 4, .w1c, 0x0⟩]⟩,
  /- BAL_SHCFG -/ ⟨0x5040, [(4, 0x20)], [⟨31, 1, .rw, 0x1⟩, ⟨24, 7, .rw, 0x14⟩, ⟨8, 8, .rw, 0x40⟩, ⟨0, 8, .rw, 0x78⟩]⟩,
  /- BAL_SHLIM -/ ⟨0x5044, [(4, 0x20)], [⟨16, 12, .rw, 0x3E8⟩, ⟨12, 4, .rw, 0x5⟩, ⟨0, 12, .rw, 0xBB8⟩]⟩,
  /- BAL_SHSTAT -/ ⟨0x5048, [(4, 0x20)], [⟨29, 3, .ro, 0x0⟩, ⟨28, 1, .ro, 0x0⟩, ⟨27, 1, .ro, 0x0⟩, ⟨26, 1, .ro, 0x0⟩, ⟨21, 5, .ro, 0x0⟩, ⟨16, 4, .ro, 0x0⟩, ⟨0, 9, .ro, 0x0⟩]⟩,
  /- BAL_QDONE -/ ⟨0x504C, [(4, 0x20)], [⟨0, 32, .ro, 0x0⟩]⟩,
  /- BAL_IMEAS -/ ⟨0x5050, [(4, 0x20)], [⟨0, 16, .ro, 0x0⟩]⟩,
  /- BAL_XCTL -/ ⟨0x5054, [(4, 0x20)], [⟨16, 16, .rw, 0x0⟩, ⟨4, 12, .rw, 0x0⟩, ⟨2, 2, .rw, 0x0⟩, ⟨1, 1, .wo, 0x0⟩, ⟨0, 1, .wo, 0x0⟩]⟩,
  /- BAL_XFRQ -/ ⟨0x5058, [(4, 0x20)], [⟨0, 32, .rw, 0x10C6F8⟩]⟩,
  /- BAL_XAMP -/ ⟨0x505C, [(4, 0x20)], [⟨28, 3, .rw, 0x0⟩, ⟨16, 12, .rw, 0x0⟩, ⟨0, 13, .rw, 0x0⟩]⟩,
  /- BAL_QCELL -/ ⟨0x5100, [(32, 0x4)], [⟨0, 32, .ro, 0x0⟩]⟩,
  /- BAL_TAPRES -/ ⟨0x5180, [(33, 0x4)], [⟨0, 16, .rw, 0x0⟩]⟩]

/-- The registers of block BAL. -/
def regsBal : List RegDesc := regsBal0

/-- Block GRD, part 1. -/
def regsGrd0 : List RegDesc := [
  /- GRD_OVEN -/ ⟨0x6000, [], [⟨0, 32, .wl, 0xFFFFFFFF⟩]⟩,
  /- GRD_UVEN -/ ⟨0x6004, [], [⟨0, 32, .wl, 0x0⟩]⟩,
  /- GRD_CTH -/ ⟨0x6008, [], [⟨8, 8, .wl, 0xE1⟩, ⟨0, 8, .wl, 0x32⟩]⟩,
  /- GRD_TCFG -/ ⟨0x600C, [], [⟨4, 4, .wl, 0x0⟩, ⟨0, 4, .wl, 0x0⟩]⟩,
  /- GRD_TTH -/ ⟨0x6010, [(4, 0x4)], [⟨8, 8, .wl, 0x28⟩, ⟨0, 8, .wl, 0xF0⟩]⟩,
  /- GRD_STH -/ ⟨0x6020, [], [⟨8, 8, .wl, 0xE6⟩, ⟨0, 8, .wl, 0x0⟩]⟩,
  /- GRD_GCFG -/ ⟨0x6024, [], [⟨16, 7, .wl, 0xA⟩, ⟨10, 1, .wl, 0x0⟩, ⟨9, 1, .wl, 0x0⟩, ⟨8, 1, .wl, 0x1⟩, ⟨0, 6, .wl, 0x3⟩]⟩,
  /- GRD_SAFECFG -/ ⟨0x6028, [], [⟨16, 2, .wl, 0x3⟩, ⟨8, 8, .wl, 0xA⟩, ⟨0, 5, .wl, 0xF⟩]⟩,
  /- GRD_CFGCRC -/ ⟨0x602C, [], [⟨0, 32, .wl, 0x0⟩]⟩,
  /- GRD_PAIRSET -/ ⟨0x6030, [], [⟨0, 16, .wo, 0x0⟩]⟩,
  /- GRD_CTL -/ ⟨0x6034, [], [⟨0, 1, .wo, 0x0⟩]⟩,
  /- GRD_STAT -/ ⟨0x6040, [], [⟨8, 2, .ro, 0x0⟩, ⟨5, 1, .ro, 0x0⟩, ⟨4, 1, .ro, 0x0⟩, ⟨3, 1, .ro, 0x0⟩, ⟨2, 1, .ro, 0x0⟩, ⟨1, 1, .ro, 0x0⟩, ⟨0, 1, .ro, 0x0⟩]⟩,
  /- GRD_ACTCRC -/ ⟨0x6044, [], [⟨0, 32, .ro, 0x0⟩]⟩,
  /- GRD_GLATCH -/ ⟨0x6048, [], [⟨0, 10, .w1c, 0x0⟩]⟩,
  /- GRD_GLIVE -/ ⟨0x604C, [], [⟨0, 10, .ro, 0x0⟩]⟩,
  /- GRD_COVL -/ ⟨0x6050, [], [⟨0, 32, .ro, 0x0⟩]⟩,
  /- GRD_CUVL -/ ⟨0x6054, [], [⟨0, 32, .ro, 0x0⟩]⟩,
  /- GRD_TLAT -/ ⟨0x6058, [], [⟨4, 4, .ro, 0x0⟩, ⟨0, 4, .ro, 0x0⟩]⟩,
  /- GRD_STEST -/ ⟨0x605C, [], [⟨16, 16, .ro, 0x0⟩, ⟨8, 8, .ro, 0x0⟩, ⟨0, 7, .ro, 0x0⟩]⟩,
  /- GRD_SAFECTL -/ ⟨0x6060, [], [⟨16, 1, .wo, 0x0⟩, ⟨8, 1, .wo, 0x0⟩, ⟨0, 2, .wo, 0x0⟩]⟩]

/-- Block GRD, part 2. -/
def regsGrd1 : List RegDesc := [
  /- GRD_SAFESTAT -/ ⟨0x6064, [], [⟨24, 1, .ro, 0x0⟩, ⟨20, 2, .ro, 0x0⟩, ⟨17, 1, .ro, 0x0⟩, ⟨8, 5, .ro, 0x0⟩, ⟨4, 1, .ro, 0x0⟩, ⟨2, 2, .ro, 0x0⟩, ⟨0, 2, .ro, 0x0⟩]⟩,
  /- GRD_SAFECNT -/ ⟨0x6068, [], [⟨16, 16, .rc, 0x0⟩, ⟨0, 16, .rc, 0x0⟩]⟩]

/-- The registers of block GRD. -/
def regsGrd : List RegDesc := regsGrd0 ++ regsGrd1

/-- Block TIM, part 1. -/
def regsTim0 : List RegDesc := [
  /- TIM_TBL -/ ⟨0x7000, [], [⟨0, 32, .ro, 0x0⟩]⟩,
  /- TIM_TBH -/ ⟨0x7004, [], [⟨0, 16, .ro, 0x0⟩]⟩,
  /- TIM_STAT -/ ⟨0x7008, [], [⟨4, 1, .w1c, 0x0⟩, ⟨3, 1, .w1c, 0x0⟩, ⟨2, 1, .w1c, 0x0⟩, ⟨1, 1, .w1c, 0x0⟩, ⟨0, 1, .ro, 0x0⟩]⟩,
  /- TIM_ALIGN -/ ⟨0x700C, [], [⟨24, 8, .rc, 0x0⟩, ⟨16, 5, .ro, 0x0⟩, ⟨0, 16, .ro, 0x0⟩]⟩,
  /- TIM_PDLY -/ ⟨0x7010, [], [⟨31, 1, .ro, 0x0⟩, ⟨0, 24, .ro, 0x0⟩]⟩,
  /- TIM_PDLYR -/ ⟨0x7014, [], [⟨31, 1, .ro, 0x0⟩, ⟨0, 24, .ro, 0x0⟩]⟩,
  /- TIM_PHASE -/ ⟨0x7018, [], [⟨16, 16, .ro, 0x0⟩, ⟨0, 16, .ro, 0x0⟩]⟩,
  /- TIM_PHCFG -/ ⟨0x701C, [], [⟨16, 16, .rw, 0x0⟩, ⟨8, 4, .rw, 0x0⟩, ⟨0, 2, .rw, 0x0⟩]⟩,
  /- TIM_PHTX -/ ⟨0x7020, [], [⟨0, 16, .rw, 0x2710⟩]⟩,
  /- TIM_PHSTAT -/ ⟨0x7024, [], [⟨24, 8, .ro, 0x0⟩, ⟨16, 8, .rc, 0x0⟩, ⟨6, 1, .w1c, 0x0⟩, ⟨5, 1, .w1c, 0x0⟩, ⟨4, 1, .w1c, 0x0⟩, ⟨3, 1, .ro, 0x0⟩, ⟨2, 1, .ro, 0x0⟩, ⟨1, 1, .ro, 0x0⟩, ⟨0, 1, .ro, 0x0⟩]⟩,
  /- TIM_PINC -/ ⟨0x7028, [], [⟨0, 32, .ro, 0x0⟩]⟩,
  /- TIM_PMBL -/ ⟨0x702C, [], [⟨0, 32, .ro, 0x0⟩]⟩,
  /- TIM_PMBH -/ ⟨0x7030, [], [⟨16, 5, .ro, 0x0⟩, ⟨0, 16, .ro, 0x0⟩]⟩,
  /- TIM_PMPC -/ ⟨0x7034, [], [⟨0, 16, .ro, 0x0⟩]⟩,
  /- TIM_PSWINC -/ ⟨0x7038, [], [⟨0, 32, .rw, 0xA7C5AC4⟩]⟩,
  /- TIM_TCMPL -/ ⟨0x7040, [(4, 0x10)], [⟨0, 32, .rw, 0x0⟩]⟩,
  /- TIM_TCMPH -/ ⟨0x7044, [(4, 0x10)], [⟨0, 16, .rw, 0x0⟩]⟩,
  /- TIM_TCMPINC -/ ⟨0x7048, [(4, 0x10)], [⟨0, 32, .rw, 0x0⟩]⟩,
  /- TIM_PCMP -/ ⟨0x7080, [(4, 0x8)], [⟨0, 32, .rw, 0x0⟩]⟩,
  /- TIM_PCMPINC -/ ⟨0x7084, [(4, 0x8)], [⟨0, 32, .rw, 0x0⟩]⟩]

/-- Block TIM, part 2. -/
def regsTim1 : List RegDesc := [
  /- TIM_CMPSTAT -/ ⟨0x70A0, [], [⟨24, 8, .w1c, 0x0⟩, ⟨16, 8, .ro, 0x0⟩, ⟨0, 8, .w1c, 0x0⟩]⟩,
  /- TIM_CMPIE -/ ⟨0x70A4, [], [⟨0, 8, .rw, 0x0⟩]⟩,
  /- TIM_CMPCTL -/ ⟨0x70A8, [], [⟨0, 8, .wo, 0x0⟩]⟩,
  /- TIM_CAPCFG -/ ⟨0x70B0, [(4, 0x10)], [⟨0, 3, .rw, 0x0⟩]⟩,
  /- TIM_CAPL -/ ⟨0x70B4, [(4, 0x10)], [⟨0, 32, .ro, 0x0⟩]⟩,
  /- TIM_CAPH -/ ⟨0x70B8, [(4, 0x10)], [⟨16, 5, .ro, 0x0⟩, ⟨0, 16, .ro, 0x0⟩]⟩,
  /- TIM_CAPSTAT -/ ⟨0x70F0, [], [⟨4, 4, .w1c, 0x0⟩, ⟨0, 4, .ro, 0x0⟩]⟩,
  /- TIM_AUXCMP -/ ⟨0x70F4, [], [⟨16, 1, .rw, 0x0⟩, ⟨8, 1, .ro, 0x0⟩, ⟨0, 8, .rw, 0x80⟩]⟩]

/-- The registers of block TIM. -/
def regsTim : List RegDesc := regsTim0 ++ regsTim1

/-- Block FLT, part 1. -/
def regsFlt0 : List RegDesc := [
  /- FLT_STAT -/ ⟨0x8000, [], [⟨15, 1, .ro, 0x0⟩, ⟨14, 1, .ro, 0x0⟩, ⟨12, 2, .ro, 0x0⟩, ⟨8, 1, .w1c, 0x0⟩, ⟨0, 4, .ro, 0x0⟩]⟩,
  /- FLT_ACK -/ ⟨0x8004, [], [⟨0, 3, .wo, 0x0⟩]⟩,
  /- FLT_CLSA -/ ⟨0x8008, [], [⟨29, 3, .ro, 0x0⟩, ⟨25, 3, .ro, 0x0⟩, ⟨21, 3, .ro, 0x0⟩, ⟨17, 3, .ro, 0x0⟩, ⟨13, 3, .ro, 0x0⟩, ⟨9, 3, .ro, 0x0⟩, ⟨5, 3, .ro, 0x0⟩, ⟨1, 3, .ro, 0x0⟩]⟩,
  /- FLT_CLSB -/ ⟨0x800C, [], [⟨1, 3, .ro, 0x0⟩]⟩,
  /- FLT_DISCGEN -/ ⟨0x8010, [], [⟨20, 1, .ro, 0x0⟩, ⟨19, 1, .ro, 0x0⟩, ⟨18, 1, .ro, 0x0⟩, ⟨17, 1, .ro, 0x0⟩, ⟨16, 1, .ro, 0x0⟩, ⟨8, 8, .ro, 0x0⟩, ⟨0, 8, .ro, 0x0⟩]⟩,
  /- FLT_CNT -/ ⟨0x8014, [], [⟨24, 8, .rc, 0x0⟩, ⟨16, 8, .rc, 0x0⟩, ⟨8, 8, .rc, 0x0⟩, ⟨0, 8, .rc, 0x0⟩]⟩,
  /- FLT_LKREF -/ ⟨0x8018, [], [⟨0, 16, .rc, 0x0⟩]⟩,
  /- FLT_UNLCH -/ ⟨0x801C, [], [⟨0, 32, .ro, 0x0⟩]⟩,
  /- FLT_UNLOCK -/ ⟨0x8020, [], [⟨0, 32, .wo, 0x0⟩]⟩,
  /- FLT_CFG -/ ⟨0x8024, [], [⟨8, 1, .rw, 0x0⟩, ⟨0, 8, .rw, 0x1⟩]⟩,
  /- FLT_FSRC -/ ⟨0x8040, [(4, 0x10)], [⟨31, 1, .ro, 0x0⟩, ⟨30, 1, .ro, 0x0⟩, ⟨29, 1, .ro, 0x0⟩, ⟨28, 1, .ro, 0x0⟩, ⟨26, 2, .ro, 0x0⟩, ⟨8, 4, .ro, 0x0⟩, ⟨0, 8, .ro, 0x0⟩]⟩,
  /- FLT_FINFO -/ ⟨0x8044, [(4, 0x10)], [⟨0, 32, .ro, 0x0⟩]⟩,
  /- FLT_FSTL -/ ⟨0x8048, [(4, 0x10)], [⟨0, 32, .ro, 0x0⟩]⟩,
  /- FLT_FSTH -/ ⟨0x804C, [(4, 0x10)], [⟨0, 16, .ro, 0x0⟩]⟩]

/-- The registers of block FLT. -/
def regsFlt : List RegDesc := regsFlt0

/-- Block SEC, part 1. -/
def regsSec0 : List RegDesc := [
  /- SEC_STAT -/ ⟨0x9000, [], [⟨16, 16, .ro, 0x0⟩, ⟨7, 1, .ro, 0x0⟩, ⟨6, 1, .ro, 0x0⟩, ⟨5, 1, .ro, 0x0⟩, ⟨4, 1, .ro, 0x0⟩, ⟨3, 1, .ro, 0x0⟩, ⟨2, 1, .ro, 0x0⟩, ⟨1, 1, .ro, 0x0⟩, ⟨0, 1, .ro, 0x0⟩]⟩,
  /- SEC_CTL -/ ⟨0x9004, [], [⟨0, 1, .wo, 0x0⟩]⟩,
  /- SEC_POLICY -/ ⟨0x9008, [], [⟨6, 2, .wl, 0x1⟩, ⟨4, 2, .wl, 0x2⟩, ⟨2, 2, .wl, 0x1⟩, ⟨0, 2, .wl, 0x3⟩]⟩,
  /- SEC_ALM -/ ⟨0x900C, [], [⟨24, 8, .rc, 0x0⟩, ⟨8, 2, .ro, 0x0⟩, ⟨0, 4, .w1c, 0x0⟩]⟩,
  /- SEC_AFAIL -/ ⟨0x9010, [], [⟨16, 16, .rc, 0x0⟩, ⟨0, 5, .ro, 0x0⟩]⟩,
  /- SEC_KVER -/ ⟨0x9014, [], [⟨0, 32, .ro, 0x0⟩]⟩,
  /- SEC_DNONCE -/ ⟨0x9018, [], [⟨0, 32, .ro, 0x0⟩]⟩,
  /- SEC_PROVRES -/ ⟨0x901C, [], [⟨0, 2, .ro, 0x0⟩]⟩,
  /- SEC_PROVBUF -/ ⟨0x9020, [(6, 0x4)], [⟨0, 32, .wo, 0x0⟩]⟩,
  /- SEC_TCH -/ ⟨0x9040, [], [⟨0, 32, .ro, 0x0⟩]⟩,
  /- SEC_TTOKL -/ ⟨0x9044, [], [⟨0, 32, .wo, 0x0⟩]⟩,
  /- SEC_TTOKH -/ ⟨0x9048, [], [⟨0, 32, .wo, 0x0⟩]⟩,
  /- SEC_NONCE -/ ⟨0x9050, [(3, 0x4)], [⟨0, 32, .ro, 0x0⟩]⟩]

/-- The registers of block SEC. -/
def regsSec : List RegDesc := regsSec0

/-- Block CHK, part 1. -/
def regsChk0 : List RegDesc := [
  /- CHK_CFG -/ ⟨0xA000, [], [⟨12, 1, .rw, 0x0⟩, ⟨11, 1, .rw, 0x1⟩, ⟨10, 1, .rw, 0x0⟩, ⟨9, 1, .rw, 0x1⟩, ⟨8, 1, .rw, 0x1⟩, ⟨7, 1, .rw, 0x1⟩, ⟨0, 5, .rw, 0x1F⟩]⟩,
  /- CHK_POLY -/ ⟨0xA004, [], [⟨0, 32, .rw, 0x4C11DB7⟩]⟩,
  /- CHK_INIT -/ ⟨0xA008, [], [⟨0, 32, .rw, 0xFFFFFFFF⟩]⟩,
  /- CHK_EXP -/ ⟨0xA00C, [], [⟨0, 32, .rw, 0x0⟩]⟩,
  /- CHK_START -/ ⟨0xA010, [], [⟨0, 32, .rw, 0x0⟩]⟩,
  /- CHK_LEN -/ ⟨0xA014, [], [⟨0, 32, .rw, 0x0⟩]⟩,
  /- CHK_CMD -/ ⟨0xA018, [], [⟨3, 2, .wo, 0x0⟩, ⟨2, 1, .wo, 0x0⟩, ⟨1, 1, .wo, 0x0⟩, ⟨0, 1, .wo, 0x0⟩]⟩,
  /- CHK_STAT -/ ⟨0xA01C, [], [⟨8, 4, .ro, 0x0⟩, ⟨6, 2, .ro, 0x0⟩, ⟨4, 2, .ro, 0x0⟩, ⟨2, 1, .w1c, 0x0⟩, ⟨1, 1, .ro, 0x0⟩, ⟨0, 1, .ro, 0x0⟩]⟩,
  /- CHK_RUN -/ ⟨0xA020, [], [⟨0, 32, .rw, 0x0⟩]⟩,
  /- CHK_RES -/ ⟨0xA024, [], [⟨0, 32, .ro, 0x0⟩]⟩,
  /- CHK_POS -/ ⟨0xA028, [], [⟨0, 32, .ro, 0x0⟩]⟩,
  /- CHK_REM -/ ⟨0xA02C, [], [⟨0, 32, .ro, 0x0⟩]⟩,
  /- CHK_FLT -/ ⟨0xA030, [], [⟨16, 4, .rw, 0x8⟩, ⟨8, 2, .rw, 0x1⟩, ⟨0, 8, .rw, 0x80⟩]⟩]

/-- The registers of block CHK. -/
def regsChk : List RegDesc := regsChk0

/-- Block BST, part 1. -/
def regsBst0 : List RegDesc := [
  /- BST_CTL -/ ⟨0xB000, [], [⟨8, 1, .wo, 0x0⟩, ⟨5, 1, .wo, 0x0⟩, ⟨4, 1, .wo, 0x0⟩, ⟨1, 1, .wo, 0x0⟩, ⟨0, 1, .wo, 0x0⟩]⟩,
  /- BST_STAT -/ ⟨0xB004, [], [⟨26, 6, .ro, 0x0⟩, ⟨25, 1, .ro, 0x0⟩, ⟨24, 1, .ro, 0x0⟩, ⟨16, 1, .ro, 0x0⟩, ⟨8, 6, .ro, 0x0⟩, ⟨3, 1, .ro, 0x0⟩, ⟨1, 2, .ro, 0x0⟩, ⟨0, 1, .ro, 0x0⟩]⟩,
  /- BST_MCFG -/ ⟨0xB008, [], [⟨31, 1, .rw, 0x1⟩, ⟨30, 1, .rw, 0x1⟩, ⟨24, 4, .rw, 0xF⟩, ⟨16, 8, .rw, 0x14⟩, ⟨8, 6, .rw, 0x30⟩, ⟨0, 6, .rw, 0x0⟩]⟩,
  /- BST_MSTAT -/ ⟨0xB00C, [], [⟨16, 16, .ro, 0x0⟩, ⟨15, 1, .ro, 0x0⟩, ⟨8, 6, .ro, 0x0⟩, ⟨0, 6, .ro, 0x0⟩]⟩,
  /- BST_MFAIL -/ ⟨0xB010, [], [⟨31, 1, .ro, 0x0⟩, ⟨24, 7, .ro, 0x0⟩, ⟨15, 9, .ro, 0x0⟩, ⟨0, 6, .ro, 0x0⟩]⟩,
  /- BST_MFCNT -/ ⟨0xB014, [], [⟨16, 16, .rc, 0x0⟩, ⟨0, 16, .rc, 0x0⟩]⟩,
  /- BST_LSTAT -/ ⟨0xB018, [], [⟨6, 2, .ro, 0x0⟩, ⟨5, 1, .ro, 0x0⟩, ⟨4, 1, .ro, 0x0⟩, ⟨3, 1, .ro, 0x0⟩, ⟨1, 1, .ro, 0x0⟩, ⟨0, 1, .ro, 0x0⟩]⟩,
  /- BST_CCFG -/ ⟨0xB01C, [], [⟨31, 1, .rw, 0x1⟩, ⟨16, 8, .rw, 0xA⟩]⟩,
  /- BST_CSTAT -/ ⟨0xB020, [], [⟨16, 16, .ro, 0x0⟩, ⟨0, 6, .ro, 0x0⟩]⟩,
  /- BST_CFAIL -/ ⟨0xB024, [], [⟨0, 32, .w1c, 0x0⟩]⟩,
  /- BST_CFAILX -/ ⟨0xB028, [], [⟨1, 1, .w1c, 0x0⟩, ⟨0, 1, .w1c, 0x0⟩]⟩,
  /- BST_DCFG -/ ⟨0xB030, [], [⟨24, 2, .rw, 0x3⟩, ⟨16, 2, .rw, 0x0⟩]⟩,
  /- BST_DCELL -/ ⟨0xB034, [], [⟨0, 32, .rw, 0xFFFFFFFF⟩]⟩,
  /- BST_DTOL -/ ⟨0xB038, [], [⟨24, 8, .rw, 0x4⟩, ⟨16, 8, .rw, 0x20⟩, ⟨8, 8, .rw, 0x7C⟩, ⟨0, 8, .rw, 0x40⟩]⟩,
  /- BST_DDAC -/ ⟨0xB03C, [], [⟨16, 10, .rw, 0x35C⟩, ⟨0, 10, .rw, 0x258⟩]⟩,
  /- BST_OWCFG -/ ⟨0xB040, [], [⟨16, 16, .rw, 0x500⟩, ⟨8, 8, .rw, 0x60⟩]⟩,
  /- BST_BTCFG -/ ⟨0xB044, [], [⟨30, 2, .rw, 0x0⟩, ⟨27, 3, .rw, 0x0⟩, ⟨16, 8, .rw, 0xA⟩, ⟨0, 16, .rw, 0xA⟩]⟩,
  /- BST_BTI -/ ⟨0xB048, [], [⟨0, 12, .rw, 0x1F4⟩]⟩,
  /- BST_DSTAT -/ ⟨0xB04C, [], [⟨29, 3, .ro, 0x0⟩, ⟨26, 2, .ro, 0x0⟩, ⟨16, 4, .ro, 0x0⟩]⟩,
  /- BST_DFAIL -/ ⟨0xB050, [], [⟨0, 32, .ro, 0x0⟩]⟩]

/-- Block BST, part 2. -/
def regsBst1 : List RegDesc := [
  /- BST_DFAILX -/ ⟨0xB054, [], [⟨1, 1, .ro, 0x0⟩, ⟨0, 1, .ro, 0x0⟩]⟩,
  /- BST_DLAST -/ ⟨0xB058, [], [⟨16, 16, .ro, 0x0⟩, ⟨0, 6, .ro, 0x0⟩]⟩,
  /- BST_OWOPEN -/ ⟨0xB05C, [], [⟨0, 32, .ro, 0x0⟩]⟩,
  /- BST_OWRES -/ ⟨0xB060, [], [⟨0, 32, .ro, 0x0⟩]⟩,
  /- BST_OWX -/ ⟨0xB064, [], [⟨1, 1, .ro, 0x0⟩, ⟨0, 1, .ro, 0x0⟩]⟩,
  /- BST_BTSTAT -/ ⟨0xB068, [], [⟨24, 8, .ro, 0x0⟩, ⟨16, 8, .ro, 0x0⟩, ⟨4, 4, .ro, 0x0⟩, ⟨0, 2, .ro, 0x0⟩]⟩,
  /- BST_EVT -/ ⟨0xB06C, [], [⟨6, 1, .w1c, 0x0⟩, ⟨5, 1, .w1c, 0x0⟩, ⟨4, 1, .w1c, 0x0⟩, ⟨3, 1, .w1c, 0x0⟩, ⟨2, 1, .w1c, 0x0⟩, ⟨1, 1, .w1c, 0x0⟩, ⟨0, 1, .w1c, 0x0⟩]⟩]

/-- The registers of block BST. -/
def regsBst : List RegDesc := regsBst0 ++ regsBst1

/-- Block PRF, part 1. -/
def regsPrf0 : List RegDesc := [
  /- PRF_CTL -/ ⟨0xC000, [], [⟨31, 1, .wo, 0x0⟩, ⟨9, 1, .rw, 0x0⟩, ⟨8, 1, .rw, 0x0⟩, ⟨0, 6, .rw, 0x0⟩]⟩,
  /- PRF_STAT -/ ⟨0xC004, [], [⟨0, 6, .w1c, 0x0⟩]⟩,
  /- PRF_UEN -/ ⟨0xC008, [], [⟨9, 1, .rw, 0x0⟩, ⟨8, 1, .rw, 0x0⟩, ⟨0, 6, .rw, 0x0⟩]⟩,
  /- PRF_CYCL -/ ⟨0xC010, [], [⟨0, 32, .ro, 0x0⟩]⟩,
  /- PRF_CYCH -/ ⟨0xC014, [], [⟨0, 32, .ro, 0x0⟩]⟩,
  /- PRF_PMC -/ ⟨0xC020, [(6, 0x8)], [⟨0, 32, .rw, 0x0⟩]⟩,
  /- PRF_PMCFG -/ ⟨0xC024, [(6, 0x8)], [⟨16, 9, .rw, 0x0⟩, ⟨9, 1, .rw, 0x0⟩, ⟨8, 1, .rw, 0x0⟩, ⟨6, 2, .rw, 0x0⟩, ⟨0, 6, .rw, 0x0⟩]⟩,
  /- PRF_SAMP -/ ⟨0xC050, [], [⟨31, 1, .rc, 0x0⟩, ⟨30, 1, .rc, 0x0⟩, ⟨16, 3, .ro, 0x0⟩, ⟨13, 1, .ro, 0x0⟩, ⟨0, 13, .ro, 0x0⟩]⟩,
  /- PRF_TAGCFG -/ ⟨0xC060, [], [⟨8, 2, .rw, 0x0⟩, ⟨4, 4, .rw, 0x8⟩, ⟨0, 1, .rw, 0x0⟩]⟩,
  /- PRF_TAGSTAT -/ ⟨0xC064, [], [⟨16, 16, .rc, 0x0⟩, ⟨12, 4, .rc, 0x0⟩, ⟨8, 4, .rc, 0x0⟩, ⟨7, 1, .ro, 0x0⟩, ⟨4, 3, .ro, 0x0⟩, ⟨0, 4, .ro, 0x0⟩]⟩,
  /- PRF_TAG0 -/ ⟨0xC080, [(8, 0x18)], [⟨0, 32, .ro, 0x0⟩]⟩,
  /- PRF_TAG1 -/ ⟨0xC084, [(8, 0x18)], [⟨31, 1, .ro, 0x0⟩, ⟨28, 3, .ro, 0x0⟩, ⟨26, 2, .ro, 0x0⟩, ⟨0, 9, .ro, 0x0⟩]⟩,
  /- PRF_TAG2 -/ ⟨0xC088, [(8, 0x18)], [⟨0, 32, .ro, 0x0⟩]⟩,
  /- PRF_TAG3 -/ ⟨0xC08C, [(8, 0x18)], [⟨0, 32, .ro, 0x0⟩]⟩,
  /- PRF_TAG4 -/ ⟨0xC090, [(8, 0x18)], [⟨0, 32, .ro, 0x0⟩]⟩,
  /- PRF_TAG5 -/ ⟨0xC094, [(8, 0x18)], [⟨0, 32, .ro, 0x0⟩]⟩]

/-- The registers of block PRF. -/
def regsPrf : List RegDesc := regsPrf0

/-- Block CAL, part 1. -/
def regsCal0 : List RegDesc := [
  /- CAL_OFS -/ ⟨0xD000, [(34, 0x18)], [⟨0, 16, .wl, 0x0⟩]⟩,
  /- CAL_GAIN -/ ⟨0xD004, [(34, 0x18)], [⟨0, 18, .wl, 0x20000⟩]⟩,
  /- CAL_TRIM0 -/ ⟨0xD008, [(34, 0x18)], [⟨24, 8, .wl, 0x0⟩, ⟨16, 8, .wl, 0x0⟩, ⟨8, 8, .wl, 0x0⟩, ⟨0, 8, .wl, 0x0⟩]⟩,
  /- CAL_TRIM1 -/ ⟨0xD00C, [(34, 0x18)], [⟨24, 8, .wl, 0x0⟩, ⟨16, 8, .wl, 0x0⟩, ⟨8, 8, .wl, 0x0⟩, ⟨0, 8, .wl, 0x0⟩]⟩,
  /- CAL_TRIM2 -/ ⟨0xD010, [(34, 0x18)], [⟨24, 8, .wl, 0x0⟩, ⟨16, 8, .wl, 0x0⟩, ⟨8, 8, .wl, 0x0⟩, ⟨0, 8, .wl, 0x0⟩]⟩,
  /- CAL_TRIM3 -/ ⟨0xD014, [(34, 0x18)], [⟨8, 8, .wl, 0x0⟩, ⟨0, 8, .wl, 0x0⟩]⟩,
  /- CAL_EQ0 -/ ⟨0xD340, [(2, 0x8)], [⟨16, 5, .wl, 0x10⟩, ⟨8, 6, .wl, 0x0⟩, ⟨0, 6, .wl, 0x14⟩]⟩,
  /- CAL_EQ1 -/ ⟨0xD344, [(2, 0x8)], [⟨24, 8, .wl, 0x0⟩, ⟨16, 8, .wl, 0x0⟩, ⟨8, 8, .wl, 0x0⟩, ⟨0, 8, .wl, 0x0⟩]⟩,
  /- CAL_META -/ ⟨0xD350, [], [⟨16, 16, .wl, 0x0⟩, ⟨8, 8, .wl, 0x0⟩]⟩,
  /- CAL_CTL -/ ⟨0xD380, [], [⟨2, 1, .rw, 0x1⟩, ⟨1, 1, .rw, 0x1⟩, ⟨0, 1, .rw, 0x1⟩]⟩,
  /- CAL_CMD -/ ⟨0xD384, [], [⟨4, 2, .wo, 0x0⟩, ⟨3, 1, .wo, 0x0⟩, ⟨2, 1, .wo, 0x0⟩, ⟨1, 1, .wo, 0x0⟩, ⟨0, 1, .wo, 0x0⟩]⟩,
  /- CAL_UNLOCK -/ ⟨0xD388, [], [⟨0, 32, .wo, 0x0⟩]⟩,
  /- CAL_CHECK -/ ⟨0xD38C, [], [⟨0, 32, .wl, 0x0⟩]⟩,
  /- CAL_SCRC -/ ⟨0xD390, [], [⟨0, 32, .ro, 0x0⟩]⟩,
  /- CAL_HCRC -/ ⟨0xD394, [], [⟨0, 32, .ro, 0x0⟩]⟩,
  /- CAL_STAT -/ ⟨0xD398, [], [⟨27, 3, .ro, 0x0⟩, ⟨24, 3, .ro, 0x0⟩, ⟨20, 4, .ro, 0x0⟩, ⟨3, 1, .ro, 0x0⟩, ⟨2, 1, .ro, 0x0⟩, ⟨1, 1, .ro, 0x1⟩, ⟨0, 1, .ro, 0x0⟩]⟩,
  /- CAL_STALE -/ ⟨0xD39C, [], [⟨12, 1, .ro, 0x0⟩, ⟨11, 1, .ro, 0x0⟩, ⟨10, 1, .ro, 0x0⟩, ⟨9, 1, .ro, 0x0⟩, ⟨8, 1, .ro, 0x1⟩, ⟨1, 1, .w1c, 0x0⟩, ⟨0, 1, .ro, 0x1⟩]⟩,
  /- CAL_GEN -/ ⟨0xD3A0, [], [⟨0, 16, .ro, 0x0⟩]⟩,
  /- CAL_TREF -/ ⟨0xD3A4, [], [⟨16, 16, .ro, 0x0⟩, ⟨0, 16, .ro, 0x0⟩]⟩,
  /- CAL_MAXAGE -/ ⟨0xD3A8, [], [⟨0, 16, .rw, 0x5A0⟩]⟩]

/-- Block CAL, part 2. -/
def regsCal1 : List RegDesc := [
  /- CAL_TRKLIM -/ ⟨0xD3AC, [], [⟨16, 16, .rw, 0x28⟩, ⟨0, 16, .rw, 0x40⟩]⟩,
  /- CAL_QLIM -/ ⟨0xD3B0, [], [⟨0, 8, .rw, 0x30⟩]⟩,
  /- CAL_SNAP -/ ⟨0xD3B4, [], [⟨0, 1, .wo, 0x0⟩]⟩,
  /- CAL_TRKCNT -/ ⟨0xD3B8, [], [⟨16, 16, .ro, 0x0⟩, ⟨0, 16, .rc, 0x0⟩]⟩,
  /- CAL_QRES -/ ⟨0xD3C0, [(9, 0x4)], [⟨0, 32, .ro, 0x0⟩]⟩,
  /- CAL_QEYE -/ ⟨0xD3E4, [], [⟨24, 8, .rc, 0xFF⟩, ⟨16, 8, .rc, 0xFF⟩, ⟨8, 8, .ro, 0x0⟩, ⟨0, 8, .ro, 0x0⟩]⟩,
  /- CAL_QLOOP -/ ⟨0xD3F0, [(4, 0x4)], [⟨24, 8, .rc, 0x0⟩, ⟨0, 16, .ro, 0x0⟩]⟩,
  /- CAL_EQLIVE0 -/ ⟨0xD400, [(2, 0x8)], [⟨16, 5, .ro, 0x0⟩, ⟨8, 6, .ro, 0x0⟩, ⟨0, 6, .ro, 0x0⟩]⟩,
  /- CAL_EQLIVE1 -/ ⟨0xD404, [(2, 0x8)], [⟨24, 8, .ro, 0x0⟩, ⟨16, 8, .ro, 0x0⟩, ⟨8, 8, .ro, 0x0⟩, ⟨0, 8, .ro, 0x0⟩]⟩]

/-- The registers of block CAL. -/
def regsCal : List RegDesc := regsCal0 ++ regsCal1

/-- Block LOG, part 1. -/
def regsLog0 : List RegDesc := [
  /- LOG_STAT -/ ⟨0xE000, [], [⟨30, 2, .ro, 0x0⟩, ⟨29, 1, .ro, 0x0⟩, ⟨28, 1, .ro, 0x0⟩, ⟨26, 2, .ro, 0x0⟩, ⟨25, 1, .ro, 0x0⟩, ⟨24, 1, .ro, 0x0⟩, ⟨8, 6, .ro, 0x30⟩, ⟨0, 3, .ro, 0x0⟩]⟩,
  /- LOG_CFG -/ ⟨0xE004, [], [⟨16, 16, .rw, 0x64⟩, ⟨8, 8, .rw, 0x18⟩, ⟨4, 4, .rw, 0x7⟩]⟩,
  /- LOG_CTL -/ ⟨0xE008, [], [⟨0, 1, .wo, 0x0⟩]⟩,
  /- LOG_ERASE -/ ⟨0xE00C, [], [⟨0, 32, .wo, 0x0⟩]⟩,
  /- LOG_HEADOFS -/ ⟨0xE010, [], [⟨0, 32, .ro, 0x0⟩]⟩,
  /- LOG_HEADSEQL -/ ⟨0xE014, [], [⟨0, 32, .ro, 0x0⟩]⟩,
  /- LOG_HEADSEQH -/ ⟨0xE018, [], [⟨0, 16, .ro, 0x0⟩]⟩,
  /- LOG_HEADTAG -/ ⟨0xE01C, [(4, 0x4)], [⟨0, 32, .ro, 0x0⟩]⟩,
  /- LOG_TAILOFS -/ ⟨0xE030, [], [⟨0, 32, .ro, 0x0⟩]⟩,
  /- LOG_TAILSEQL -/ ⟨0xE034, [], [⟨0, 32, .ro, 0x0⟩]⟩,
  /- LOG_TAILSEQH -/ ⟨0xE038, [], [⟨0, 16, .ro, 0x0⟩]⟩,
  /- LOG_TAILTAG -/ ⟨0xE03C, [(4, 0x4)], [⟨0, 32, .ro, 0x0⟩]⟩,
  /- LOG_WEAR -/ ⟨0xE050, [], [⟨16, 16, .ro, 0x0⟩, ⟨0, 16, .ro, 0x0⟩]⟩,
  /- LOG_ECC -/ ⟨0xE054, [], [⟨16, 16, .rc, 0x0⟩, ⟨8, 8, .rc, 0x0⟩, ⟨0, 8, .rc, 0x0⟩]⟩,
  /- LOG_DROP -/ ⟨0xE058, [], [⟨16, 16, .rc, 0x0⟩, ⟨0, 16, .ro, 0x0⟩]⟩,
  /- LOG_BOOT -/ ⟨0xE05C, [], [⟨0, 32, .ro, 0x0⟩]⟩,
  /- LOG_UTC -/ ⟨0xE060, [], [⟨0, 32, .wo, 0x0⟩]⟩,
  /- LOG_RDSTART -/ ⟨0xE070, [], [⟨0, 32, .rw, 0x0⟩]⟩,
  /- LOG_RDLEN -/ ⟨0xE074, [], [⟨0, 32, .rw, 0x0⟩]⟩,
  /- LOG_RDCTL -/ ⟨0xE078, [], [⟨16, 9, .rw, 0x53⟩, ⟨1, 1, .wo, 0x0⟩, ⟨0, 1, .wo, 0x0⟩]⟩]

/-- Block LOG, part 2. -/
def regsLog1 : List RegDesc := [
  /- LOG_RDSTAT -/ ⟨0xE07C, [], [⟨16, 16, .ro, 0x0⟩, ⟨0, 3, .ro, 0x0⟩]⟩,
  /- LOG_SNAP -/ ⟨0xE080, [], [⟨24, 8, .rc, 0x0⟩, ⟨23, 1, .ro, 0x0⟩, ⟨8, 7, .ro, 0x0⟩, ⟨0, 7, .ro, 0x0⟩]⟩]

/-- The registers of block LOG. -/
def regsLog : List RegDesc := regsLog0 ++ regsLog1

/-- Block TWN, part 1. -/
def regsTwn0 : List RegDesc := [
  /- TWN_STAT -/ ⟨0xF000, [], [⟨16, 7, .ro, 0x0⟩, ⟨8, 1, .ro, 0x0⟩, ⟨7, 1, .ro, 0x1⟩, ⟨4, 3, .ro, 0x0⟩, ⟨3, 1, .ro, 0x0⟩, ⟨2, 1, .ro, 0x0⟩, ⟨0, 2, .ro, 0x0⟩]⟩,
  /- TWN_PAIRID -/ ⟨0xF004, [], [⟨16, 16, .ro, 0x0⟩, ⟨0, 16, .ro, 0x0⟩]⟩,
  /- TWN_DLY -/ ⟨0xF008, [], [⟨31, 1, .ro, 0x0⟩, ⟨0, 16, .ro, 0x0⟩]⟩,
  /- TWN_CFG -/ ⟨0xF00C, [], [⟨16, 4, .wl, 0x5⟩, ⟨8, 4, .wl, 0x8⟩, ⟨4, 4, .wl, 0x3⟩, ⟨0, 1, .wl, 0x1⟩]⟩,
  /- TWN_TOL -/ ⟨0xF010, [], [⟨16, 16, .wl, 0x66⟩, ⟨0, 16, .wl, 0xCD⟩]⟩,
  /- TWN_DIFF -/ ⟨0xF014, [], [⟨0, 32, .w1c, 0x0⟩]⟩,
  /- TWN_CMPCNT -/ ⟨0xF018, [], [⟨16, 16, .rc, 0x0⟩, ⟨8, 8, .rc, 0x0⟩, ⟨0, 8, .rc, 0x0⟩]⟩,
  /- TWN_EVT -/ ⟨0xF01C, [], [⟨5, 1, .w1c, 0x0⟩, ⟨4, 1, .w1c, 0x0⟩, ⟨3, 1, .w1c, 0x0⟩, ⟨2, 1, .w1c, 0x0⟩, ⟨1, 1, .w1c, 0x0⟩, ⟨0, 1, .w1c, 0x0⟩]⟩,
  /- TWN_LASTD -/ ⟨0xF020, [], [⟨24, 5, .ro, 0x0⟩, ⟨0, 24, .ro, 0x0⟩]⟩,
  /- TWN_CCCFG -/ ⟨0xF040, [], [⟨8, 8, .wl, 0x61⟩, ⟨1, 1, .wl, 0x0⟩, ⟨0, 1, .wl, 0x1⟩]⟩,
  /- TWN_CCSTAT -/ ⟨0xF044, [], [⟨16, 16, .ro, 0x0⟩, ⟨1, 1, .ro, 0x0⟩, ⟨0, 1, .ro, 0x0⟩]⟩,
  /- TWN_CCCNT -/ ⟨0xF048, [], [⟨24, 8, .rc, 0x0⟩, ⟨16, 8, .rc, 0x0⟩, ⟨8, 8, .rc, 0x0⟩]⟩,
  /- TWN_CCFIRST -/ ⟨0xF04C, [], [⟨16, 16, .rc, 0x0⟩, ⟨8, 7, .rc, 0x0⟩, ⟨0, 3, .rc, 0x0⟩]⟩,
  /- TWN_CCMM -/ ⟨0xF050, [(4, 0x4)], [⟨0, 32, .ro, 0x0⟩]⟩,
  /- TWN_CCSGL -/ ⟨0xF060, [(4, 0x4)], [⟨0, 32, .ro, 0x0⟩]⟩,
  /- TWN_CCLOST -/ ⟨0xF070, [(4, 0x4)], [⟨0, 32, .ro, 0x0⟩]⟩,
  /- TWN_CCSEL -/ ⟨0xF080, [], [⟨0, 7, .rw, 0x1⟩]⟩,
  /- TWN_CCRAW -/ ⟨0xF084, [(8, 0x4)], [⟨0, 32, .ro, 0x0⟩]⟩]

/-- The registers of block TWN. -/
def regsTwn : List RegDesc := regsTwn0

/-- The registers of the block that a byte address lies in (R11). -/
def regsOfBlock : Nat → List RegDesc
  | 0 => regsSys
  | 1 => regsChn
  | 2 => regsSeq
  | 3 => regsConv
  | 4 => regsAcc
  | 5 => regsBal
  | 6 => regsGrd
  | 7 => regsTim
  | 8 => regsFlt
  | 9 => regsSec
  | 10 => regsChk
  | 11 => regsBst
  | 12 => regsPrf
  | 13 => regsCal
  | 14 => regsLog
  | 15 => regsTwn
  | _ => []

/-- An offset lies on the lattice of a series of indices. -/
def dimsHit : List (Nat × Nat) → Nat → Bool
  | [], o => o == 0
  | (n, s) :: t, o => decide (o / s < n) && dimsHit t (o % s)

/-- The register at a byte address, if the block implements one there (R17). -/
def descAt (a : Nat) : Option RegDesc :=
  (regsOfBlock (a / 4096)).find? (fun r => decide (r.base ≤ a) && dimsHit r.dims (a - r.base))

/-- The word that a register holds right after reset (R679); 0 where the block implements no register. -/
def resetWord (a : Nat) : Word :=
  match descAt a with
  | none => 0
  | some r => BitVec.ofNat 32 (r.fields.foldl (fun s f => s + f.reset * 2 ^ f.lo) 0)

end Sys2Proof.Machine
end

