-- ==== Sys2Proof/Machine/Store.lean ====
section
/-!
DEFINITION. A sparse store: a list of (address, value) pairs in ONE canonical form, addresses strictly rising and no entry
equal to what an unlisted address reads as (`dflt`). The register file, both SRAMs and the NAND record area are such stores.
-/

namespace Sys2Proof.Machine

namespace Store

variable {α : Type}

/-- The entry at an address, if the store lists one. -/
def find : List (Nat × α) → Nat → Option α
  | [], _ => none
  | (k, v) :: t, a => if k = a then some v else find t a

/-- What an address reads as: its entry, or `dflt` of the address. -/
def read (dflt : Nat → α) (m : List (Nat × α)) (a : Nat) : α := (find m a).getD (dflt a)

/-- The store with an entry put in its place in the rising order, replacing the one that stood at its address. -/
def insert : List (Nat × α) → Nat → α → List (Nat × α)
  | [], a, v => [(a, v)]
  | (k, w) :: t, a, v => if a < k then (a, v) :: (k, w) :: t else if a = k then (a, v) :: t else (k, w) :: insert t a v

/-- The store without the entry at an address. -/
def erase (m : List (Nat × α)) (a : Nat) : List (Nat × α) := m.filter (fun e => e.1 != a)

/-- A write: writing what an unlisted address reads as removes the entry, so the form stays canonical. -/
def write [DecidableEq α] (dflt : Nat → α) (m : List (Nat × α)) (a : Nat) (v : α) : List (Nat × α) :=
  if v = dflt a then erase m a else insert m a v

/-- Every address of the store is greater than `a`. -/
def above (a : Nat) : List (Nat × α) → Bool
  | [] => true
  | (k, _) :: t => decide (a < k) && above a t

/-- Addresses rise strictly. -/
def rising : List (Nat × α) → Bool
  | [] => true
  | (k, _) :: t => above k t && rising t

/-- No entry equals what its address reads as when unlisted. -/
def noDefault [DecidableEq α] (dflt : Nat → α) (m : List (Nat × α)) : Bool := m.all (fun e => e.2 != dflt e.1)

/-- The canonical form. -/
def wf [DecidableEq α] (dflt : Nat → α) (m : List (Nat × α)) : Bool := rising m && noDefault dflt m

/-- A run of values written from an address upward. -/
def writeAll [DecidableEq α] (dflt : Nat → α) (m : List (Nat × α)) (a : Nat) : List α → List (Nat × α)
  | [] => m
  | v :: t => writeAll dflt (write dflt m a v) (a + 1) t

/-- `n` values read from an address upward. -/
def readAll (dflt : Nat → α) (m : List (Nat × α)) (a : Nat) : Nat → List α
  | 0 => []
  | n + 1 => read dflt m a :: readAll dflt m (a + 1) n

end Store

end Sys2Proof.Machine
end

