-- ==== Sys2Proof/Machine/State.lean ====
section
/-!
DEFINITION. The state of the MN3248 as plain data: every register, buffer, counter, mode and pin level that the spec gives the
device, the queue of the commands that are waiting, and the state right after reset.
-/

namespace Sys2Proof.Machine

/-- A register file: (byte address, word) pairs in the canonical form of `Store` over the reset values of R679. -/
abbrev Regs := List (Nat × Word)

/-- A change that hardware made this cycle to the W1C or RC fields of one register: the word before it, and the bits set
(R13, R14). -/
structure Touch where
  addr : Nat
  old : Word
  mask : Word
  deriving DecidableEq, Repr

/-! ### Conversion (03_conversion.md) -/

/-- The settings that a sweep runs under, as they stood at its trigger (R131). -/
structure ConvCfg where
  count : Nat
  intv : Nat
  unit : Bool
  cells : Word
  cur : Bool
  aux : Bool
  auxLen : Nat
  auxSeq : BitVec 64
  csrc : Nat
  isrc : Nat
  diagch : Word
  deriving DecidableEq, Repr

/-- What a sample takes with it from its hold edge besides the code: the phase counter and its validity, the excitation
generators, the shelf currents and the calibration state (R105, R165, R173, R176, R184). -/
structure HoldEnv where
  phase : Word
  phaseOk : Bool
  exc : List (Bool × Word)
  cur : List (Bool × Nat × Int × Nat)
  cgen : BitVec 4
  stale : Bool
  deriving DecidableEq, Repr

/-- One sampling instant whose acquisition has begun: its hold edge in system cycles, the fine part, the channels it samples,
the auxiliary slot, the channels whose source is not their pin, and its marks. `env` is filled at the hold edge. -/
structure Instant where
  hold : Nat
  fine : Nat
  cells : Word
  cur : Bool
  aux : Bool
  slot : Nat
  diagCells : Word
  diagCur : Bool
  qshort : Bool
  injected : Bool
  drawer : Nat
  phaseBased : Bool
  last : Bool
  env : Option HoldEnv
  deriving DecidableEq, Repr

/-- The sweep engine (R109 to R118): whether a sweep is in flight and armed, the index of its next instant, its settings, the
hold edge of its first and next instants in system cycles, and the instants now in acquisition or conversion, oldest first. -/
structure Sweep where
  infl : Bool
  armed : Bool
  stopReq : Bool
  noMore : Bool
  idx : Nat
  cfg : ConvCfg
  phaseBased : Bool
  software : Bool
  acceptedAt : Nat
  fine : Nat
  next : Nat
  lastHold : Option Nat
  base : Int
  late : Bool
  tsh : Word
  instants : List Instant
  deriving DecidableEq, Repr

/-- An injected conversion that is pending or running (R124, R125). -/
structure Injection where
  pend : Bool
  run : Bool
  cells : Word
  cur : Bool
  aux : Bool
  slot : Nat
  drawer : Nat
  diagCells : Word
  diagCur : Bool
  hold : Nat
  fromDiag : Bool
  deriving DecidableEq, Repr

/-! ### Drawers and trackers (04_drawers_trackers.md) -/

/-- The marks of R173 that are an OR over samples. -/
structure Marks where
  range : Bool
  diag : Bool
  qshort : Bool
  balact : Bool
  sat : Bool
  cstale : Bool
  cmix : Bool
  phvLost : Bool
  deriving DecidableEq, Repr

/-- An accumulation (R157, R162, R165): for SUM `a` is the sum; for WINDOW `a` is the sum; for IQ `a` and `b` are I and Q. -/
structure Accum where
  isOpen : Bool
  a : Int
  b : Int
  cnt : Nat
  gaps : Nat
  marks : Marks
  ph0 : Word
  cgen : BitVec 4
  discarded : Bool
  lag : Nat
  deriving DecidableEq, Repr

/-- A published result: the fields of ACC_RSTAT and of the five result words (R188, R189). -/
structure Result where
  seq : BitVec 8
  dgen : BitVec 8
  cgen : BitVec 4
  cmix : Bool
  cstale : Bool
  phv : Bool
  gap : Bool
  balact : Bool
  qshort : Bool
  diag : Bool
  range : Bool
  sat : Bool
  valid : Bool
  lost : Bool
  isNew : Bool
  a : BitVec 40
  b : BitVec 40
  gaps : BitVec 8
  cnt : BitVec 24
  ph0 : Word
  xlag : BitVec 16
  deriving DecidableEq, Repr

/-- A drawer: its working accumulation, a window whose boundary has passed and whose last samples are still converting, the
periods left of the open window, the visible result, the snapshot that the word registers read, and the visible result as
it stood before a publication of this cycle (R169, R170, R186). -/
structure Drawer where
  work : Accum
  closed : Option (Nat × Accum)
  periodsLeft : Nat
  vis : Result
  snap : Result
  before : Option Result
  deriving DecidableEq, Repr

/-- Trackers A and B of a channel (R177 to R180). -/
structure Tracker where
  amin : Int
  amax : Int
  acnt : Nat
  bmin : Int
  bmax : Int
  bcnt : Nat
  bshadow : Int
  deriving DecidableEq, Repr

/-! ### Time (05_time_and_phase.md) -/

/-- A phase model (R209): the boundary TB in 1/32 ticks of head time, the period count there, the rate, and its flags. -/
structure PhaseModel where
  tb : Nat
  pc : BitVec 16
  pinc : Word
  seq : BitVec 8
  locked : Bool
  hold : Bool
  step : Bool
  deriving DecidableEq, Repr

/-- Alignment, the phase model, the compares and the captures of a device (R198 to R226). Times of frames are in system cycles. Delays and
the offsets of the average are in 1/4096 tick. `learnt` holds the cycle in which each compare unit's value became known, `again` the units
whose incremented value had passed and that fire once more (R222), `pLast` the last firing of each phase unit, `capH` the high words of
the captures. -/
structure Tim where
  everFramed : Bool
  stepNext : Bool
  offsets : List Int
  good : Nat
  bad : Nat
  missRun : Nat
  expected : Nat
  d : Nat
  sr : Nat
  rtot : Nat
  model : Option PhaseModel
  waiting : Option PhaseModel
  tcmp : List (BitVec 48)
  tcmpLow : List Word
  learnt : List Nat
  again : Word
  pLast : List (Option Nat)
  capH : List Word
  deriving DecidableEq, Repr

/-- The head's phase loop (R213 to R216): the last edge and the predicted next boundary in 1/32 ticks, the period estimate in
1/32 ticks, the edges seen since acquisition began, the run of good errors and the run of missed edges. -/
structure PhaseLoop where
  lastEdge : Nat
  edges : Nat
  period : Nat
  predicted : Nat
  goodRun : Nat
  missedRun : Nat
  locked : Bool
  periodCount : BitVec 16
  seq : BitVec 8
  issue : Option PhaseModel
  deriving DecidableEq, Repr

/-! ### Balancing (10_settle_balancing.md) -/

/-- The phase of work of a shelf converter (R404, BAL_SHSTAT.STATE). -/
inductive ShelfPhase where
  | idle | deselecting | selecting | running | stopping
  deriving DecidableEq, Repr

/-- A shelf converter (R398 to R424): its work in flight with the settings taken at acceptance, its selection, its charge
counts and its excitation generator. `due` is the cycle in which the next step of R404 falls; times are in system cycles; `q` is in mC,
`qdone` and the second charge count `qpred` (R531) in pC, currents in mA; `devs` holds the last
256 deviations of R582; `endCause` is the END that waits for the end of the cycle in progress. -/
structure Shelf where
  phase : ShelfPhase
  act : Bool
  xmode : Bool
  byHearth : Bool
  paused : Bool
  quiet : Bool
  dir : Bool
  cell : Nat
  sel : Option Nat
  due : Nat
  q : Nat
  current : Nat
  cycles : Nat
  qdone : Int
  holdUntil : Option Nat
  lastAvg : Int
  avgAt : Nat
  errRun : Nat
  overRun : Nat
  faulted : Bool
  amp : Nat
  ofs : Int
  xinc : Nat
  angle : Nat
  xperiods : Nat
  nper : Nat
  startAtPcb : Bool
  pcb : BitVec 16
  shcfg : Word
  shlim : Word
  xrunning : Bool
  endCause : Nat
  qpred : Int
  lastTicks : Nat
  devs : List Int
  deriving DecidableEq, Repr

/-- Balancing as a whole: the net charge into each cell as mC and a remainder in pC, whether VBUS stands above 16.5 V, the bus
comparators, the handover in progress (R410, R411, R412, R427) and whether its message has gone, whether a cycle ended inside the quiet
window of the next instant, and the cycle up to which the last window lasts (R414, R415). -/
structure Bal where
  shelves : List Shelf
  qcell : List (Int × Int)
  busHigh : Bool
  aboveVhi : Bool
  belowVlo : Bool
  handing : Bool
  handAuto : Bool
  returning : Bool
  hoSent : Bool
  cut : Bool
  quietUntil : Nat
  deriving DecidableEq, Repr

/-! ### Faults (12_fault_handling.md) -/

/-- A fault as a source posts it: class, nominal level, code, information word, and whether RAISE posted it (R499). -/
structure FaultEvt where
  cls : Nat
  lvl : Nat
  code : Nat
  info : Word
  sw : Bool
  deriving DecidableEq, Repr

/-- The first source of one level (R503). -/
structure FirstSrc where
  valid : Bool
  ovf : Bool
  esc : Bool
  sw : Bool
  nlv : Nat
  cls : Nat
  code : Nat
  info : Word
  stamp : BitVec 48
  deriving DecidableEq, Repr

/-- The fault collector (R502 to R506): first sources of the levels L0 to L3, the FLT_CLS sets of the nine classes as masks
of levels L1 to L3 (bit l), and the counts of each level. -/
structure Collector where
  first : List FirstSrc
  cls : List Nat
  cnt : List Nat
  gen : BitVec 8
  dcnt : Nat
  scope : Nat
  deriving DecidableEq, Repr

/-! ### The chain (08_tystan_link.md, 09_chain_transactions.md) -/

/-- A frame of the device's own that waits to start (R328): `sent` marks a frame that SEND queued (R48, R49), `tag` the open
record of the frame tagger that follows it (R669), `at_` the cycle in which the frame was queued. -/
structure Own where
  frame : Frame
  sent : Bool
  response : Bool
  tagged : Bool
  at_ : Nat
  deriving DecidableEq, Repr

/-- A KINDLE that a member has taken (R350), or one that a head is about to send: NEXT, the path delays D and Sr in 1/4096 tick, the
fields it carries on, the hop above once it is measured, and whether the frame has been passed on. -/
structure Kindling where
  next : Nat
  df : Nat
  sr : Nat
  kid : BitVec 16
  revs : Byte
  nforeign : Nat
  mode : Byte
  first : Nat
  echoed : Option Nat
  went : Bool
  deriving DecidableEq, Repr

/-- A chain trigger whose target tick has not come (R115, R342). -/
structure TrigTarget where
  t : BitVec 48
  fine : BitVec 5
  deriving DecidableEq, Repr

/-- A trigger that a head has committed and not yet sent (R367). -/
structure TrigReq where
  t : BitVec 48
  fine : BitVec 5
  tid : Byte
  dest : BitVec 7
  deriving DecidableEq, Repr

/-- A request that a head has sent and not yet matched (R361): when its last bit left, the attempts left, and for a broadcast
RUN the responses received. -/
structure Outst where
  frame : Frame
  sentAt : Nat
  retries : Nat
  nresp : Nat
  deriving DecidableEq, Repr

/-- A record of the host receive queue (R378): its descriptor and its frame bytes. -/
structure HostRec where
  desc : Word
  bytes : List Byte
  deriving DecidableEq, Repr

/-- A path update that a head carries in its next PHTIM frames (R356). -/
structure PathUpd where
  kind : BitVec 2
  idx : BitVec 7
  delta : Int
  deriving DecidableEq, Repr

/-- The chain side of a device (R314 to R388). Delays are in 1/4096 tick. `ownFwd` leaves on UP, `ownRev` on DN; `insFwd` and
`insRev` are the insertion buffers, `fwdBusy` and `revBusy` the cycles up to which an ordinary frame is leaving. From `htx` on the fields belong to a head; `reps` holds the values last
reported by HOPREP (R356), by kind × 256 + index, `phtimAt` the cycle of the
next PHTIM. -/
structure Chain where
  txOn : Bool
  token : BitVec 48
  pend : Option (BitVec 7)
  pendKid : BitVec 16
  kin : Option Kindling
  hop : Nat
  hopRep : Nat
  rhoF : Int
  rhoR : Int
  rhoFRep : Int
  rhoRRep : Int
  echoN : Nat
  echoSum : Nat
  lastRep : Option Nat
  ownFwd : List Own
  ownRev : List Own
  insFwd : List (Frame × Word)
  insRev : List (Frame × Word)
  fwdBusy : Nat
  revBusy : Nat
  frameCount : BitVec 16
  targets : List TrigTarget
  drop : Bool
  htx : List Frame
  outst : List Outst
  hrx : List HostRec
  trigs : List TrigReq
  delayed : List TrigReq
  kinSince : Option Nat
  updates : List PathUpd
  revs : List (Nat × BitVec 4)
  marker : Option Nat
  noticeAt : Option Nat
  phtimAt : Option Nat
  spiErr : Bool
  reps : List (Nat × Nat)
  deriving DecidableEq, Repr

/-! ### Hearth (06_imvia_instruction_set.md, 07_programs_and_upgrades.md) -/

/-- What Hearth waits for (R266, R270, R278, R280, R284): a timebase value, a phase value, a pending line, or room or a frame in a
queue, with the fields of the instruction that stalled. -/
inductive WaitKind where
  | time (t : BitVec 48)
  | phase (v : Word)
  | yield
  | send (rd ra rb : BitVec 4) (auth : Bool)
  | recv (rd ra rb : BitVec 4)
  | log (rd ra rb : BitVec 4)
  deriving DecidableEq, Repr

/-- A wait or stall in progress: its kind, the register it writes, its event mask and the cycle in which it issued (R275). -/
structure Wait where
  kind : WaitKind
  rd : BitVec 4
  mask : BitVec 16
  issued : Nat
  deriving DecidableEq, Repr

/-- A frame in the sequencer receive queue: the frame, its payload length, and whether it carried a CMAC that passed (R280). -/
structure RxFrame where
  frame : Frame
  passed : Bool
  deriving DecidableEq, Repr

/-- The processor of R233, its wait, its posted writes (R241), its receive queue (R280), and the cycles that the instruction in
progress still takes. IEN stands in SEQ_CTL, and the active bank in SEQ_BANK.ACT and in bit 13 of `pc`. -/
structure Hearth where
  w : List Word
  z : Bool
  n : Bool
  c : Bool
  v : Bool
  pc : BitVec 14
  user : Bool
  run : Bool
  ranOnce : Bool
  wait : Option Wait
  wbuf : List (BitVec 16 × Word)
  rxq : List RxFrame
  busy : Nat
  deriving DecidableEq, Repr

/-- The header fields of an accepted image that no register holds (R289). -/
structure BankHdr where
  ustart : Nat
  uend : Nat
  grantMax : Word
  deriving DecidableEq, Repr

/-- The load session and the run request (R291 to R298). The header is that of the open session, `trailer` the CMAC of CLOSE;
`runVer` is the value last written to SEQ_RUNVER. -/
structure Load where
  hdr : List Word
  trailer : List Byte
  banks : List BankHdr
  runVer : Word
  deriving DecidableEq, Repr

/-! ### Diagnostics, self-test, check engine (13_diagnostics_bist_check.md) -/

/-- The diagnostic engine (R522 to R533): the run's settings as accepted, the step in progress with its start cycle, the injections
of the step still to issue and whether one is on its way, the means of each completed step by channel (a pair of channel and
mean), the cells whose scheduled samples carry DIAG until `markUntil` after a source turned off (R526), and the half of a BT run
with the verdict so far. Whether a run is in progress stands in BST_DSTAT.STATE. -/
structure Diag where
  step : Nat
  start : Nat
  stepAt : Nat
  n : Nat
  left : Nat
  issued : Bool
  cells : Word
  cur : Bool
  aux : Bool
  drw : Nat
  dacA : Nat
  dacB : Nat
  means : List (List (Nat × Int))
  marked : Word
  markUntil : Nat
  half : Nat
  btFail : Bool
  deriving DecidableEq, Repr

/-- The BIST scheduler (R535 to R549): the cycles in which the last memory step and the last converter step began, the next block,
a run by MGO in progress, the backgrounds of the step still to run, the cycle in which its phase began, a stop asked for, a
failure met; and Hearth's logic BIST: its start cycle, whether the signature has been compared, and whether a program enters at its
end (R549). The state of each step stands in BST_STAT. -/
structure Bist where
  memAt : Nat
  memNext : Nat
  single : Bool
  bkgs : List Nat
  phaseAt : Nat
  stop : Bool
  failed : Bool
  convAt : Nat
  convNext : Nat
  lbAt : Nat
  lbCompared : Bool
  enterAfter : Bool
  deriving DecidableEq, Repr

/-- The check engine (R550 to R556): the configuration and the polynomial taken at the start of the scan, whether user code started
it, and the cycle from which the next group may be read. Position, remainder and running value stand in the CHK registers. -/
structure Check where
  cfg : Word
  poly : Word
  user : Bool
  groupAt : Nat
  deriving DecidableEq, Repr

/-! ### Calibration (14_calibration.md) -/

/-- Background tracking of one converter (R571): the conversions of each kind since its last update, the kind converted next, the
cycles of the last updates, the updates made in this round, and the attempts skipped in a row. -/
structure Track where
  zeros : Nat
  refs : Nat
  refNext : Bool
  zeroAt : Nat
  refAt : Nat
  zeroDone : Bool
  refDone : Bool
  skips : Nat
  deriving DecidableEq, Repr

/-- The three copies of the factor set (R575), each of 209 words in offset order; the factors last set by CAL_RUN or a commit
(R572); the cycle of the last shadow write (R577); CAL_RUN's converters-taken cycle (R567); tracking per channel with the last hold
edge of each converter; and the cycle of the last tracking attempt. -/
structure Cal where
  active : List Word
  snap : List Word
  shadow : List Word
  base : List Word
  wroteAt : Nat
  taken : Option Nat
  trk : List Track
  lastHold : List Nat
  trkAt : Nat
  deriving DecidableEq, Repr

/-! ### Power and keys (15_power_states_sleep.md, 16_security.md) -/

/-- Power, reset and sleep (R55, R588 to R604). `released` is false while the device is off or held in reset, `vbusRose` the cycle of
VBUS_RISE; times are in system cycles. `commAt` is the last restart of COMM_TIMEOUT, `entering` the cycle in which entry to Banked
began, `wakePending` a wake event that waits for the end of entry or of an ember check, `slept` the cycles in Banked, `emberAt` the
next expiry of the ember timer, `ember` that of the check in progress, `wakeIdle` the cycle in which a wake starts the main oscillator,
`phtimStart` that in which a woken head sends PHTIM; `rcRuns` counts completed RC windows, `lockWindows` good rate windows in a row; the
rest are pins, supply conditions and the moments of background work. -/
structure Power where
  strapped : Bool
  vbusRose : Option Nat
  released : Bool
  releasedAt : Nat
  started : Bool
  commAt : Nat
  entering : Option Nat
  wakePending : Option Nat
  slept : Nat
  emberAt : Nat
  ember : Option Nat
  wakeIdle : Option Nat
  phtimStart : Option Nat
  powerFail : Bool
  overV : Bool
  buck : Bool
  hvg : Bool
  vtref : Bool
  twinTx : Bool
  fltPin : Bool
  wakeout : Bool
  tempStop : Bool
  hot160 : Bool
  reraise : Bool
  rcRuns : Nat
  lockWindows : Nat
  kindleAt : Nat
  calPending : Bool
  scrubAt : Nat
  scrubPos : Nat
  ownDecided : Bool
  deriving DecidableEq, Repr

/-- A key record of the peat log (R613): the provisioning key wrapped under the root key, its version, the CMAC under the root key,
and the record's order. -/
structure KeyRec where
  wrapped : BitVec 128
  kver : Word
  mac : BitVec 128
  order : Nat
  deriving DecidableEq, Repr

/-- The frame last accepted in one stream of authenticated frames, and the response stored for it (R618): a stream is a source
address and whether the frames are addressed to broadcast. -/
structure LastFrame where
  src : Nat
  bcast : Bool
  frame : Frame
  response : Option Frame
  deriving DecidableEq, Repr

/-- The key store (R612 to R631): KP and KS, a key install waiting for its page, the message counters (absent entries are 0), the last accepted frames, the low half of a test
token, and the values that the device drew: SEC_DNONCE, SEC_TCH, SEC_NONCE and the unlock challenge
(R518, R614, R622, R624). The root key is
`Config.rootKey`; `otp` says that KR and KT are loaded and their read path open. -/
structure Keys where
  otp : Bool
  kp : Option (BitVec 128)
  ks : Option (BitVec 128)
  installing : Option (BitVec 128 × Word)
  sendC : List (Nat × Nat)
  recvU : List (Nat × Nat)
  recvB : List (Nat × Nat)
  last : List LastFrame
  tokL : Word
  dnonce : Word
  tch : Word
  nonce : List Word
  chal : Word
  deriving DecidableEq, Repr

/-! ### The peat log and the counters (17_peat_log.md, 18_performance_counters.md) -/

/-- A record before its bytes are laid out (R636): its type, subtype or tag, its body, its SEQ and time at staging, whether a program
appended it, and the cycle in which it was staged. -/
structure LogRec where
  ty : Nat
  tag : BitVec 16
  body : List Byte
  prog : Bool
  seq : BitVec 48
  time : Word
  stagedAt : Nat
  deriving DecidableEq, Repr

/-- An element of the staging buffer: a record, or the point at which the open segment was closed before it was full (R637, R641). -/
inductive Staged where
  | record (r : LogRec)
  | cut
  deriving DecidableEq, Repr

/-- Where a committed record starts, with its SEQ and chain tag (R634, R647). -/
structure RecStart where
  ofs : Nat
  seq : BitVec 48
  ct : BitVec 128
  deriving DecidableEq, Repr

/-- A calibration record slot (R580): the set, its CRC, and the record's order. -/
structure CalSlot where
  set : List Word
  crc : Word
  order : Nat
  deriving DecidableEq, Repr

/-- What the NAND die keeps without power besides the bytes of the record area (R633, R647): the logical offset of the next segment,
the last SEQ and chain tag, the records retained, the record before the tail, the pairing record with its release mark, the key and
calibration slots, the erase counts by block, the retired blocks and the count of mounts. -/
structure Nv where
  ofs : Nat
  seq : BitVec 48
  ct : BitVec 128
  starts : List RecStart
  tailSeq : BitVec 48
  tailCt : BitVec 128
  tailOfs : Nat
  pairId : BitVec 16
  released : Bool
  keyA : Option KeyRec
  keyB : Option KeyRec
  calA : Option CalSlot
  calB : Option CalSlot
  wear : List (Nat × Nat)
  spares : Nat
  rdonly : Bool
  boots : Nat
  deriving DecidableEq, Repr

/-- A snapshot capture in progress (R639): the fault's FLT_FSRC and FLT_FSTL words, the entries before and after it, and the cycle
in which it began. -/
structure Capture where
  fsrc : Word
  fstl : Word
  pre : List (List Byte)
  post : List (List Byte)
  began : Nat
  deriving DecidableEq, Repr

/-- The log controller (R640 to R656): the program append queue and the hardware queue, the staging buffer with the bytes of its
first record already programmed, the cycle in which the segment program in progress began, the SEQ of the ERASE record of an erasure in
progress, the blocks marked for refresh, the snapshot ring and capture, the readout stream, the L0 record counts of R512, and the levels at which a log-controller fault of R284 is unacknowledged. -/
structure Log where
  progQ : List LogRec
  hwQ : List LogRec
  staged : List Staged
  skip : Nat
  seq : BitVec 48
  programming : Option Nat
  erasing : Option (BitVec 48)
  refresh : List Nat
  ring : List (List Byte)
  cap : Option Capture
  rdPos : Nat
  rdLeft : Nat
  rdAt : Nat
  l0 : List Nat
  l0At : Nat
  mountFrom : Nat
  memLevels : Nat
  deriving DecidableEq, Repr

/-- The open record of the frame tagger (R670): the header, how the frame came in and goes out, its length and its stamps. -/
structure TagOpen where
  hdr : Word
  inn : BitVec 2
  out : BitVec 3
  len : Nat
  tarr : Word
  tq : Word
  tfwd : Word
  deriving DecidableEq, Repr

/-- A closed tag record: words 0 to 5 of R676 and the words 1 to 5 that its last read latched. -/
structure TagRec where
  words : List Word
  latched : List Word
  deriving DecidableEq, Repr

/-- The counters (R658 to R672): the cycle counter, the events of this cycle by their EVT code, the counters that wrapped and wait for
their overflow, the latched values of chained counters (read once), the counter that waits to sample Hearth, and the tagger. -/
structure Perf where
  cyc : BitVec 64
  events : List Nat
  wrapped : List Nat
  shadow : List (Option Word)
  sampling : Option Nat
  sampOvr : Bool
  tagOpen : Option TagOpen
  tags : List TagRec
  deriving DecidableEq, Repr

/-! ### Fireguard, twins, safety frames, SAFE outputs (11_safety_architecture.md) -/

/-- Fireguard (R440 to R453): the eleven words of the active configuration, the deglitch counters and the consecutive
self-test failures of the 76 comparators in the order of R443, the comparator tested next, and whether a fault symbol is sent. The
shadow configuration stands in the GRD registers. -/
structure Guard where
  active : List Word
  counts : List Nat
  testFails : List Nat
  testNext : Nat
  symbol : Bool
  deriving DecidableEq, Repr

/-- A drawer-0 publication that a primary keeps for the twin comparison (R461): PH0, its deadline in system cycles, the cells whose
results carry BALACT, and the value of each compared cell. -/
structure Kept where
  ph0 : Word
  deadline : Nat
  balact : Word
  vals : List (Nat × Int)
  deriving DecidableEq, Repr

/-- One pair in the chain comparison of a head (R468): its address, the last safety frame of this chain and of the partner's, the
frames of the period being compared, and the period that closes next. -/
structure PairCmp where
  addr : Nat
  lastOwn : Option (BitVec 128)
  lastFar : Option (BitVec 128)
  own : Option (BitVec 128)
  far : Option (BitVec 128)
  k : Nat
  deriving DecidableEq, Repr

/-- The twin link and what runs over it (R454 to R472): the runs of valid and of failed messages and the cycle of the last valid one,
the cycle up to which a RESULT is being sent and that in which the last message ended, the partner's last HEALTH payload, whether
GRD_PAIRSET has been written and the rejoin record made since the device became foreign (R607), a PAIR that came before the log was mounted
(R457, R458), the delay in 1/4096 tick, the comparison of R461 to R463, the period of the last safety frame, and a head's chain
comparison. -/
structure Twin where
  validRun : Nat
  failRun : Nat
  lastValid : Nat
  txBusy : Nat
  lastSent : Nat
  health : Option (BitVec 48)
  pairsetDone : Bool
  rejoined : Bool
  held : Option (BitVec 112 × BitVec 16)
  delay : Nat
  kept : List Kept
  diffRun : List Nat
  diffRaised : Word
  missRun : Nat
  missRaised : Bool
  lastPeriod : Option Nat
  pairs : List PairCmp
  deriving DecidableEq, Repr

/-- One SAFE output (R474 to R479): the start of the off-pulse in progress and whether its readback has been sampled, the next start of the
schedule and of a repetition, failed pulses in a row, wrong readback samples and low samples in a row, and the cycle in which the
switch last opened or closed. -/
structure SafeOut where
  pulse : Option Nat
  sampled : Bool
  nextPulse : Nat
  retryAt : Option Nat
  fails : Nat
  wrong : Nat
  lowRun : Nat
  changedAt : Nat
  deriving DecidableEq, Repr

/-- The SAFE side of a head (R473 to R479): its outputs, the cycle of the last FAULT slot on either port if any has arrived, whether the
partner's demand stands, and the pair whose frames set FRM. -/
structure Safe where
  outs : List SafeOut
  faultSlot : Option Nat
  partnerDem : Bool
  frmPair : Option Nat
  deriving DecidableEq, Repr

/-! ### What leaves the device -/

/-- What has left the device in this cycle: a value read from a register, a frame with its CRC, an ECHO request or reply, FAULT slots
starting or ending, idle slots starting, a twin message, the express words of R455, the bytes of an SPI response, a wake tone. -/
inductive Out where
  | value (addr : Nat) (w : Word)
  | frame (p : Port) (f : Frame) (crc : Word)
  | echoRequest (p : Port)
  | echoReply (p : Port)
  | faultSlots (p : Port) (on : Bool)
  | idleSlots (p : Port)
  | message (ty : Byte) (payload : List Byte)
  | faultWord
  | trigWord (t : BitVec 16) (fine : BitVec 5) (tid : Byte)
  | spi (bytes : List Byte)
  | tone (p : Port)
  deriving DecidableEq, Repr

/-! ### The device -/

/-- The device without its memories and its queue. `regs` is the register file, `regs0` the same as it stood at the start of the
system cycle, `touch` what hardware has set or counted since (R13, R14, R131); `cycle` counts system cycles and `tb` is the timebase;
`draws` counts the random values drawn; `sent` is what has left the device in this cycle, `posted` the faults that the command in
progress has posted and that are latched at its end (R502). -/
structure Dev where
  regs : Regs
  regs0 : Regs
  touch : List Touch
  cycle : Nat
  tb : BitVec 48
  draws : Nat
  sent : List Out
  posted : List FaultEvt
  power : Power
  conv : Sweep
  inj : Injection
  drawers : List Drawer
  excs : List Drawer
  trk : List Tracker
  pub0 : List Nat
  tim : Tim
  loop : PhaseLoop
  bal : Bal
  flt : Collector
  fltBase : Collector
  fltNow : List FaultEvt
  chain : Chain
  hearth : Hearth
  load : Load
  diag : Diag
  bist : Bist
  check : Check
  cal : Cal
  keys : Keys
  nv : Nv
  log : Log
  perf : Perf
  guard : Guard
  twin : Twin
  safe : Safe
  deriving DecidableEq, Repr

/-- The memories (R238, R633): program SRAM by word (bank b from b × 8,192), data SRAM by byte, and the record area of the NAND die by
byte, each as a `Store`. -/
structure Mems where
  prog : List (Nat × Word)
  data : List (Nat × Byte)
  nand : List (Nat × Byte)
  deriving DecidableEq, Repr

/-- What an unlisted word of program SRAM reads as: 0, whose opcode traps (R255). -/
def Mems.progDflt (_ : Nat) : Word := 0

/-- What an unlisted byte of data SRAM reads as. DESIGN CHOICE: R55 writes valid codewords at start-up and gives no value. -/
def Mems.dataDflt (_ : Nat) : Byte := 0

/-- What an unlisted byte of the record area reads as: erased NAND (R637). -/
def Mems.nandDflt (_ : Nat) : Byte := 0xFF

/-- The three memories are in canonical form. -/
def Mems.wf (m : Mems) : Bool :=
  Store.wf Mems.progDflt m.prog && Store.wf Mems.dataDflt m.data && Store.wf Mems.nandDflt m.nand

/-- The state of the block: its memories, the device, and the commands that wait, first in, first out. -/
structure State where
  mems : Mems
  dev : Dev
  pending : List Instr
  deriving DecidableEq, Repr

/-- Ends of a run that the spec calls an error of the device without a state after it: there are none, since every fault of the
MN3248 is collected and leaves a state (R502). No meaning answers with a fault. -/
inductive Fault where
  deriving DecidableEq, Repr

/-- Why a command is not executed. `notModelled` is answered by an arm of `exec` alone, for a command without a meaning; it is safe,
since nothing is claimed of such a command. -/
inductive Refusal where
  | notModelled (mnemonic : String)
  deriving DecidableEq, Repr

/-! ### Reset (R608, R679). A field whose reset value the spec does not give takes the value named in the assumption log. -/

/-- A shelf converter at reset. -/
def Shelf.reset : Shelf :=
  { phase := .idle, act := false, xmode := false, byHearth := false, paused := false, quiet := false, dir := false, cell := 0, sel := none,
    due := 0, q := 0, current := 0, cycles := 0, qdone := 0, holdUntil := none, lastAvg := 0, avgAt := 0, errRun := 0, overRun := 0,
    faulted := false, amp := 0, ofs := 0, xinc := 0, angle := 0, xperiods := 0, nper := 0, startAtPcb := false, pcb := 0, shcfg := 0,
    shlim := 0, xrunning := false, endCause := 0, qpred := 0, lastTicks := 0, devs := [] }

/-- The collector at reset. -/
def Collector.reset : Collector :=
  { first := List.replicate 4 ⟨false, false, false, false, 0, 0, 0, 0, 0⟩, cls := List.replicate 9 0, cnt := List.replicate 4 0,
    gen := 0, dcnt := 0, scope := 0 }

/-- Hearth at reset: halted, every register 0 (R233, R313). -/
def Hearth.reset : Hearth :=
  { w := List.replicate 16 0, z := false, n := false, c := false, v := false, pc := 0, user := false, run := false, ranOnce := false,
    wait := none, wbuf := [], rxq := [], busy := 0 }

/-- The factors of one channel at reset: offset 0, gain 1.0, trims 0 (R585). -/
def Cal.resetChannel : List Word := [0, 0x20000, 0, 0, 0, 0]

/-- The factor set at reset (R585): 34 channels, two ports with PHASE 0x10 and BOOST 0x14, and the metadata. -/
def Cal.resetSet : List Word :=
  (List.replicate 34 Cal.resetChannel).flatten ++ [0x100014, 0, 0x100014, 0] ++ [0]

/-- The configuration on which Fireguard arms (R450, R493): the words at GRD offsets 0x000 to 0x028, with GRD_SAFECFG 0 on a member
(R452). -/
def Guard.resetConfig (head : Bool) : List Word :=
  [0xFFFFFFFF, 0, 0xE132, 0, 0x28F0, 0x28F0, 0x28F0, 0x28F0, 0xE600, 0x000A0103, if head then 0x30A0F else 0]

/-- A tracked converter at reset. -/
def Track.reset : Track := ⟨0, 0, false, 0, 0, false, false, 0⟩

/-- A SAFE output at reset. -/
def SafeOut.reset : SafeOut := ⟨none, false, 0, none, 0, 0, 0, 0⟩

/-- A new part's NAND die: nothing written, 48 spares (R633, R657). -/
def Nv.reset : Nv :=
  { ofs := 0, seq := 0, ct := 0, starts := [], tailSeq := 0, tailCt := 0, tailOfs := 0, pairId := 0, released := false, keyA := none,
    keyB := none, calA := none, calB := none, wear := [], spares := 48, rdonly := false, boots := 0 }

/-- The power side while reset is held: VBUS within limits, the straps sampled, nothing started (R55). -/
def Power.reset : Power :=
  { strapped := true, vbusRose := none, released := false, releasedAt := 0, started := false, commAt := 0, entering := none,
    wakePending := none, slept := 0, emberAt := 0, ember := none, wakeIdle := none, phtimStart := none, powerFail := false, overV := false, buck := true,
    hvg := true, vtref := false, twinTx := false, fltPin := false, wakeout := false, tempStop := false, hot160 := false, reraise := false, rcRuns := 0, lockWindows := 0,
    kindleAt := 0, calPending := false, scrubAt := 0, scrubPos := 0, ownDecided := false }

/-- The sweep engine at reset. -/
def Sweep.reset : Sweep :=
  { infl := false, armed := false, stopReq := false, noMore := false, idx := 0, cfg := ⟨0, 0, false, 0, false, false, 0, 0, 0, 0, 0⟩,
    phaseBased := false, software := false, acceptedAt := 0, fine := 0, next := 0, lastHold := none, base := 0, late := false, tsh := 0,
    instants := [] }

/-- The injection engine at reset. -/
def Injection.reset : Injection :=
  { pend := false, run := false, cells := 0, cur := false, aux := false, slot := 0, drawer := 0, diagCells := 0, diagCur := false,
    hold := 0, fromDiag := false }

/-- Alignment at reset: no frame seen, no model (R203, R209). -/
def Tim.reset : Tim :=
  { everFramed := false, stepNext := true, offsets := [], good := 0, bad := 0, missRun := 0, expected := 0, d := 0, sr := 0, rtot := 0,
    model := none, waiting := none, tcmp := List.replicate 4 0, tcmpLow := List.replicate 4 0, learnt := List.replicate 8 0, again := 0,
    pLast := List.replicate 4 none, capH := List.replicate 4 0 }

/-- The head's phase loop at reset. -/
def PhaseLoop.reset : PhaseLoop := ⟨0, 0, 0, 0, 0, 0, false, 0, 0, none⟩

/-- The chain side at reset: no address, no queue (R390). -/
def Chain.reset : Chain :=
  { txOn := false, token := 0, pend := none, pendKid := 0, kin := none, hop := 0, hopRep := 0, rhoF := 0, rhoR := 0,
    rhoFRep := 0, rhoRRep := 0, echoN := 0, echoSum := 0, lastRep := none, ownFwd := [], ownRev := [], insFwd := [], insRev := [], fwdBusy := 0, revBusy := 0,
    frameCount := 0, targets := [], drop := false, htx := [], outst := [], hrx := [], trigs := [], delayed := [], kinSince := none,
    updates := [], revs := [], marker := none, noticeAt := none, phtimAt := none, spiErr := false, reps := [] }

/-- The device at power-on reset, strapped as a primary member (DESIGN CHOICE: POWER_ON_RESET samples the straps), with every
register at its reset value. The random registers hold drawn values (R632). -/
def Dev.reset : Dev :=
  { regs := [], regs0 := [], touch := [], cycle := 0, tb := 0, draws := 2, sent := [], posted := [], power := Power.reset,
    conv := Sweep.reset, inj := Injection.reset,
    drawers := List.replicate 136 ⟨⟨false, 0, 0, 0, 0, ⟨false, false, false, false, false, false, false, false⟩, 0, 0, false, 0⟩, none, 0,
      ⟨0, 0, 0, false, false, false, false, false, false, false, false, false, false, false, false, 0, 0, 0, 0, 0, 0⟩,
      ⟨0, 0, 0, false, false, false, false, false, false, false, false, false, false, false, false, 0, 0, 0, 0, 0, 0⟩, none⟩,
    excs := List.replicate 4 ⟨⟨false, 0, 0, 0, 0, ⟨false, false, false, false, false, false, false, false⟩, 0, 0, false, 0⟩, none, 0,
      ⟨0, 0, 0, false, false, false, false, false, false, false, false, false, false, false, false, 0, 0, 0, 0, 0, 0⟩,
      ⟨0, 0, 0, false, false, false, false, false, false, false, false, false, false, false, false, 0, 0, 0, 0, 0, 0⟩, none⟩,
    trk := List.replicate 34 ⟨0, 0, 0, 0, 0, 0, 0⟩, pub0 := [], tim := Tim.reset, loop := PhaseLoop.reset,
    bal := { shelves := List.replicate 4 Shelf.reset, qcell := List.replicate 32 (0, 0), busHigh := false, aboveVhi := false,
             belowVlo := false, handing := false, handAuto := false, returning := false, hoSent := false, cut := false, quietUntil := 0 },
    flt := Collector.reset, fltBase := Collector.reset, fltNow := [], chain := Chain.reset, hearth := Hearth.reset,
    load := { hdr := [], trailer := [], banks := [⟨0, 0, 0⟩, ⟨0, 0, 0⟩], runVer := 0 },
    diag := { step := 0, start := 0, stepAt := 0, n := 0, left := 0, issued := false, cells := 0, cur := false, aux := false, drw := 0,
              dacA := 0, dacB := 0, means := [], marked := 0, markUntil := 0, half := 0, btFail := false },
    bist := { memAt := 0, memNext := 0, single := false, bkgs := [], phaseAt := 0, stop := false, failed := false, convAt := 0,
              convNext := 0, lbAt := 0, lbCompared := false, enterAfter := false },
    check := { cfg := 0, poly := 0, user := false, groupAt := 0 },
    cal := { active := Cal.resetSet, snap := Cal.resetSet, shadow := Cal.resetSet, base := Cal.resetSet, wroteAt := 0, taken := none,
             trk := List.replicate 34 Track.reset, lastHold := List.replicate 34 0, trkAt := 0 },
    keys := { otp := false, kp := none, ks := none, installing := none, sendC := [], recvU := [], recvB := [], last := [], tokL := 0,
              dnonce := Config.random 0, tch := Config.random 1, nonce := [0, 0, 0], chal := 0 },
    nv := Nv.reset,
    log := { progQ := [], hwQ := [], staged := [], skip := 0, seq := 0, programming := none, erasing := none,
             refresh := [], ring := [], cap := none, rdPos := 0, rdLeft := 0, rdAt := 0, l0 := List.replicate 9 0, l0At := 0,
             mountFrom := 0, memLevels := 0 },
    perf := { cyc := 0, events := [], wrapped := [], shadow := List.replicate 7 none, sampling := none, sampOvr := false,
              tagOpen := none, tags := List.replicate 8 ⟨List.replicate 6 0, List.replicate 5 0⟩ },
    guard := { active := Guard.resetConfig false, counts := List.replicate 76 0, testFails := List.replicate 76 0,
               testNext := 0, symbol := false },
    twin := { validRun := 0, failRun := 0, lastValid := 0, txBusy := 0, lastSent := 0, health := none, pairsetDone := false, rejoined := false, held := none,
              delay := 0, kept := [], diffRun := List.replicate 32 0, diffRaised := 0, missRun := 0, missRaised := false,
              lastPeriod := none, pairs := [] },
    safe := { outs := List.replicate 2 SafeOut.reset, faultSlot := none, partnerDem := false, frmPair := none } }

/-- The machine right after power-on reset: every register at its reset value, the memories with nothing listed, reset still held,
the queue empty (R608). -/
def State.reset : State := { mems := { prog := [], data := [], nand := [] }, dev := Dev.reset, pending := [] }

end Sys2Proof.Machine
end

