-- ==== Sys2Proof/Machine/Ops.lean ====
section
/-!
DEFINITION. The named operations over registers, flags, counters and outputs that every meaning is written with (R12 to R17).
-/

namespace Sys2Proof.Machine

namespace Dev

/-- The 32-bit word that the register file holds at a byte address: its entry, or the reset value of R679. -/
def rd (d : Dev) (a : Nat) : Word := Store.read resetWord d.regs a

/-- The register file with a word put at an address. -/
def wr (d : Dev) (a : Nat) (v : Word) : Dev := { d with regs := Store.write resetWord d.regs a v }

/-- The value of a field. -/
def get (d : Dev) (f : Fld) : Nat := bitsOf (d.rd f.addr).toNat f.lo f.width

/-- The value of a field as it stood at the start of this system cycle (R131). -/
def get0 (d : Dev) (f : Fld) : Nat := bitsOf (Store.read resetWord d.regs0 f.addr).toNat f.lo f.width

/-- A word with one field replaced. -/
def putBits (w : Word) (f : Fld) (v : Nat) : Word :=
  let m : Word := BitVec.ofNat 32 ((2 ^ f.width - 1) <<< f.lo)
  (w &&& ~~~m) ||| (BitVec.ofNat 32 ((v % 2 ^ f.width) <<< f.lo))

/-- The device with a field set to a value. -/
def put (d : Dev) (f : Fld) (v : Nat) : Dev := d.wr f.addr (putBits (d.rd f.addr) f v)

/-- A one-bit field as a truth value. -/
def bit (d : Dev) (f : Fld) : Bool := d.get f % 2 == 1

/-- Bit `i` of a field. -/
def bitAt (d : Dev) (f : Fld) (i : Nat) : Bool := (d.get f).testBit i

/-- The device with a one-bit field set or cleared. -/
def putB (d : Dev) (f : Fld) (b : Bool) : Dev := d.put f b.toNat

/-- The device with bit `i` of a field set or cleared. -/
def putAt (d : Dev) (f : Fld) (i : Nat) (b : Bool) : Dev :=
  d.putB ⟨f.addr, f.lo + i, 1⟩ b

/-- The record of what hardware changed this cycle in a register, with one more change (R13, R14). -/
def touchAt (l : List Touch) (a : Nat) (old mask : Word) : List Touch :=
  match l with
  | [] => [⟨a, old, mask⟩]
  | t :: r => if t.addr = a then { t with mask := t.mask ||| mask } :: r else t :: touchAt r a old mask

/-- Hardware sets the bits `v` of a sticky field: they stand at 1 even against a software clear of the same cycle (R13). -/
def flagBits (d : Dev) (f : Fld) (v : Nat) : Dev :=
  let m : Word := BitVec.ofNat 32 ((v % 2 ^ f.width) <<< f.lo)
  { (d.wr f.addr (d.rd f.addr ||| m)) with touch := touchAt d.touch f.addr (d.rd f.addr) m }

/-- Hardware sets a one-bit sticky field (R13). -/
def flag (d : Dev) (f : Fld) : Dev := d.flagBits f 1

/-- A saturating event counter advances by `n`; a read of the same cycle still returns the old count (R14). -/
def count (d : Dev) (f : Fld) (n : Nat) : Dev :=
  let v := min (d.get f + n) (2 ^ f.width - 1)
  { (d.put f v) with touch := touchAt d.touch f.addr (d.rd f.addr) 0 }

/-- An event of interrupt line `n` sets its pending bit, enabled or not (R245). -/
def irq (d : Dev) (n : Nat) : Dev := d.flagBits F.SEQ_IP_IP (2 ^ n)

/-- A software write of a word to the fields of a register under R12: RW fields, and WL fields of a block that is not locked,
take the written value; a 1 clears a bit of a W1C field unless hardware sets it in this cycle (R13); RO, WO and RC fields and
reserved bits ignore the write. -/
def writeFields (d : Dev) (a : Nat) (w : Word) (locked : Bool) : Dev :=
  match descAt a with
  | none => d
  | some r =>
    let hw := ((d.touch.find? (fun t => t.addr == a)).map (·.mask)).getD 0
    let step (v : Word) (f : FieldDesc) : Word :=
      let fl : Fld := ⟨a, f.lo, f.width⟩
      match f.acc with
      | .rw => putBits v fl (bitsOf w.toNat f.lo f.width)
      | .wl => if locked then v else putBits v fl (bitsOf w.toNat f.lo f.width)
      | .w1c =>
        let m : Word := BitVec.ofNat 32 ((2 ^ f.width - 1) <<< f.lo)
        v &&& ~~~(w &&& m &&& ~~~hw)
      | .ro | .wo | .rc => v
    d.wr a (r.fields.foldl step (d.rd a))

/-- A software read of a register under R12: WO fields read 0, and RC fields are returned as they stood before hardware touched
them in this cycle and then hold only what hardware has added since (R14). -/
def readFields (d : Dev) (a : Nat) : Word × Dev :=
  match descAt a with
  | none => (0, d)
  | some r =>
    let t := d.touch.find? (fun t => t.addr == a)
    let cur := d.rd a
    let old := (t.map (·.old)).getD cur
    let shown := r.fields.foldl (fun (v : Word) f =>
      let fl : Fld := ⟨a, f.lo, f.width⟩
      match f.acc with
      | .wo => putBits v fl 0
      | .rc => putBits v fl (bitsOf old.toNat f.lo f.width)
      | _ => v) cur
    let left := r.fields.foldl (fun (v : Word) f =>
      match f.acc with
      | .rc =>
        let fl : Fld := ⟨a, f.lo, f.width⟩
        putBits v fl (bitsOf cur.toNat f.lo f.width - bitsOf old.toNat f.lo f.width)
      | _ => v) cur
    (shown, d.wr a left)

/-- Something leaves the device: a frame, a message, a symbol, a value read. -/
def emit (d : Dev) (o : Out) : Dev := { d with sent := d.sent ++ [o] }

/-- A source posts a fault of a class and nominal level, with its code and information word (R499). It is latched when the command in
progress ends (R286, R502). -/
def post (d : Dev) (cls lvl code : Nat) (info : Word) : Dev := { d with posted := d.posted ++ [⟨cls, lvl, code, info, false⟩] }

/-- `n` occurrences of the event `evt` of R661 in this cycle. -/
def event (d : Dev) (evt n : Nat) : Dev := { d with perf := { d.perf with events := d.perf.events ++ List.replicate n evt } }

/-- The next 32 random bits (R518, R632): a free value, drawn afresh each time. -/
def draw (d : Dev) : Word × Dev := (Config.random d.draws, { d with draws := d.draws + 1 })

/-- The device is a head (R7). -/
def isHead (d : Dev) : Bool := d.bit F.SYS_STRAP_HEADSEL

/-- The device is a twin: a twin member or head B0 (R7). -/
def isTwin (d : Dev) : Bool := d.bit F.SYS_STRAP_TWINSEL

/-- The power state of SYS_PWRSTAT.STATE (R588): 1 Start, 2 Measure, 3 Banked, 4 Lockout. -/
def pstate (d : Dev) : Nat := d.get F.SYS_PWRSTAT_STATE

/-- The device enters a state other than by a wake (R588, R611). -/
def setState (d : Dev) (n : Nat) : Dev := (d.put F.SYS_PWRSTAT_STATE n).putB F.SYS_PWRSTAT_WOKE false

/-- The device is in Measure (R588). -/
def inMeasure (d : Dev) : Bool := d.pstate == 2

/-- The device is in Banked sleep (R588). -/
def banked (d : Dev) : Bool := d.pstate == 3

/-- Fault discards and sweeps stand aside while the device has no power or is held in reset. -/
def alive (d : Dev) : Bool := d.power.released

/-- The device's own chain address (R390). -/
def addr (d : Dev) : Nat := d.get F.CHN_ADDR_ADDR

/-- ALIGNED stands in SYS_CLKSTAT, TIM_STAT and CONV_FADJ at once (R146, R203, R230). -/
def setAligned (d : Dev) (b : Bool) : Dev :=
  ((d.putB F.SYS_CLKSTAT_ALIGNED b).putB F.TIM_STAT_ALIGNED b).putB F.CONV_FADJ_VALID b

/-- FRAC stands in TIM_ALIGN and, while the alignment is valid, in CONV_FADJ (R123, R202). -/
def setFrac (d : Dev) (v : Nat) : Dev :=
  let d := d.put F.TIM_ALIGN_FRAC v
  d.put F.CONV_FADJ_FRAC (if d.bit F.CONV_FADJ_VALID then v else 0)

/-- The timebase as a number. -/
def now (d : Dev) : Nat := d.tb.toNat

end Dev

end Sys2Proof.Machine
end

