-- ==== Sys2Proof/Machine/LogOps.lean ====
section
/-!
DEFINITION. The operations of the peat log (17_peat_log.md): appending and staging records, the layout of the staging buffer in
segments, the discard of open records, the snapshot ring, and what a segment program commits.
-/

namespace Sys2Proof.Machine

/-- The log key KL of R646: the root key over "LG", SYS_ID, the trace code and two zero bytes. -/
def logKey (sysId : Word) : BitVec 128 :=
  Aes.encrypt Config.rootKey (Aes.ofBytes (((0x4C : Byte) :: 0x47 :: wordBytes sysId ++ beBytes 8 Config.traceCode.toNat ++ [0, 0]).map
    BitVec.toNat))

namespace Log

/-- The record types whose records are programmed at once (R641). -/
def urgent (ty : Nat) : Bool := [0x01, 0x02, 0x05, 0x07, 0x08, 0x09, 0x0A, 0x0C].contains ty

/-- The bytes that a record occupies: header and body, to the next multiple of 32 (R637). -/
def recLen (r : LogRec) : Nat := 32 + (r.body.length + 31) / 32 * 32

/-- Header bytes 0 to 15 of a record (R636). -/
def header (r : LogRec) : List Byte :=
  BitVec.ofNat 8 r.ty :: BitVec.ofNat 8 ((!r.prog).toNat + 2 * (urgent r.ty).toNat) :: beBytes 2 (r.body.length - 1) ++
    beBytes 2 r.tag.toNat ++ beBytes 6 r.seq.toNat ++ beBytes 4 r.time.toNat

/-- The chain tag of a record after the tag before it (R646). -/
def chainTag (key ct : BitVec 128) (r : LogRec) : BitVec 128 := Aes.cmac key (beBytes 16 ct.toNat ++ header r ++ r.body)

/-- The bytes of a record with its chain tag and padding (R637). -/
def recBytes (r : LogRec) (ct : BitVec 128) : List Byte :=
  header r ++ beBytes 16 ct.toNat ++ r.body ++ List.replicate (recLen r - 32 - r.body.length) 0

/-- The next multiple of a segment's 1,024 bytes. -/
def upToSegment (n : Nat) : Nat := (n + 1023) / 1024 * 1024

/-- The end of the staged bytes, counted from the start of the next segment to program, from position `pos` on. -/
def endOf : Nat → List Staged → Nat
  | pos, [] => pos
  | pos, .record r :: t => endOf (pos + recLen r) t
  | pos, .cut :: t => endOf (upToSegment pos) t

/-- The staged bytes, from the start of the next segment: `skip` bytes of the first record are programmed already (R637, R642). -/
def bytesOf (key : BitVec 128) : BitVec 128 → Nat → Nat → List Staged → List Byte
  | _, _, _, [] => []
  | ct, skip, pos, .record r :: t =>
    let c := chainTag key ct r
    (recBytes r c).drop skip ++ bytesOf key c 0 (pos + recLen r - skip) t
  | ct, skip, pos, .cut :: t => List.replicate (upToSegment pos - pos) 0xFF ++ bytesOf key ct skip (upToSegment pos) t

/-- The records whose last byte lies within the first `n` staged bytes, each with its start, and what is left behind them with the
bytes of its first record that lie within (R642). -/
def split (n : Nat) : Nat → Nat → List Staged → List (Nat × LogRec) × List Staged × Nat
  | _, skip, [] => ([], [], skip)
  | pos, skip, .record r :: t =>
    let e := pos + recLen r - skip
    if e ≤ n then
      let (done, rest, s) := split n e 0 t
      ((pos, r) :: done, rest, s)
    else ([], .record r :: t, if pos < n then skip + (n - pos) else skip)
  | pos, skip, .cut :: t =>
    if upToSegment pos ≤ n then split n (upToSegment pos) skip t else ([], .cut :: t, skip)

/-- The staged bytes in all. -/
def total (l : Log) : Nat := endOf 0 l.staged - (match l.staged with
  | .record _ :: _ => l.skip
  | _ => 0)

/-- The cycle in which the oldest byte of the open segment was staged, if it holds any: the first record that ends beyond the last
full segment (R641). -/
def oldest (l : Log) : Option Nat :=
  let closed := l.total / 1024 * 1024
  (split closed 0 l.skip l.staged).2.1.findSome? (fun x => match x with
    | .record r => some r.stagedAt
    | .cut => none)

end Log

namespace Dev

/-- The log controller holds a fault (R284). -/
def logFault (d : Dev) : Bool := d.log.memLevels != 0 || d.get F.LOG_STAT_MOUNT == 3 || d.bit F.LOG_STAT_RDONLY

/-- The log controller has power: awake, or during an ember check (R591, R595). -/
def logPowered (d : Dev) : Bool := !d.banked || d.power.ember.isSome

/-- The log is mounted (R644). -/
def mounted (d : Dev) : Bool := d.get F.LOG_STAT_MOUNT == 2

/-- A record made now, before staging. -/
def mkRec (d : Dev) (ty : Nat) (tag : BitVec 16) (body : List Byte) (prog : Bool) : LogRec :=
  ⟨ty, tag, body, prog, 0, 0, d.cycle⟩

/-- A record enters the staging buffer: it takes its SEQ and its time, and an urgent one closes the open segment behind it (R636,
R640, R641). -/
def stage (d : Dev) (r : LogRec) : Dev :=
  let seq := d.log.seq + 1
  let r := { r with seq := seq, time := BitVec.ofNat 32 (d.now / 65536), stagedAt := d.cycle }
  { d with log := { d.log with seq := seq, staged := d.log.staged ++ .record r :: (if Log.urgent r.ty then [.cut] else []) } }

/-- The records of both queues in the order in which they arose, a hardware record first among those of one cycle (R57, R655). -/
def mergeQueues : Nat → List LogRec → List LogRec → List LogRec
  | 0, a, b => a ++ b
  | _ + 1, [], b => b
  | _ + 1, a, [] => a
  | n + 1, x :: a, y :: b => if x.stagedAt ≤ y.stagedAt then x :: mergeQueues n a (y :: b) else y :: mergeQueues n (x :: a) b

/-- The queues empty into the staging buffer while the log is mounted, the device is awake and Hearth's logic BIST leaves the
controller free (R536, R640); a freed entry of the program queue posts line 11 (R245). -/
def stageQueues (d : Dev) : Dev :=
  if !d.mounted || !d.logPowered || d.bit F.BST_STAT_LBUSY then d
  else
    let freed := d.log.progQ.length
    let l := mergeQueues (d.log.hwQ.length + freed) d.log.hwQ d.log.progQ
    let d := l.foldl stage { d with log := { d.log with hwQ := [], progQ := [] } }
    if freed = 0 then d else d.irq 11

/-- A hardware record: dropped and counted while the controller holds a fault or its queue of 16 KiB is full (R640, R648). -/
def logHw (d : Dev) (ty : Nat) (tag : BitVec 16) (body : List Byte) : Dev :=
  let r := d.mkRec ty tag body false
  let used := d.log.hwQ.foldl (fun n x => n + Log.recLen x) 0
  if d.logFault || decide (16384 < used + Log.recLen r) then d.count F.LOG_DROP_HW 1
  else ({ d with log := { d.log with hwQ := d.log.hwQ ++ [r] } }).stageQueues

/-- A register's word as four bytes. -/
def rdBytes (d : Dev) (a : Nat) : List Byte := wordBytes (d.rd a)

/-- A discard of open log records: every record, or the program's only (R48, R49). Records behind them move up; a SEQ taken stays
consumed. -/
def discardLog (d : Dev) (progOnly : Bool) : Dev :=
  let keeps (r : LogRec) : Bool := progOnly && !r.prog
  let stays (x : Staged) : Bool := match x with
    | .record r => keeps r
    | .cut => progOnly
  let firstGone : Bool := match d.log.staged with
    | .record r :: _ => !keeps r
    | _ => false
  let freed := d.log.progQ.length
  let d := { d with log := { d.log with
    progQ := [], hwQ := d.log.hwQ.filter keeps, staged := d.log.staged.filter stays, skip := if firstGone then 0 else d.log.skip } }
  if freed = 0 then d else d.irq 11

/-- The open segment is closed (R641). -/
def closeSegment (d : Dev) : Dev :=
  if d.log.total % 1024 = 0 then d else { d with log := { d.log with staged := d.log.staged ++ [.cut] } }

/-- The logical bytes of the record area (R633). -/
def ringSize : Nat := 0xF0000000

/-- The bytes of a block (R633). -/
def blockSize : Nat := 0x400000

/-- The head of the ring has reached a block that still holds retained records, so that block is erased first (R634). -/
def needsErase (d : Dev) : Bool :=
  d.nv.ofs % blockSize == 0 && d.nv.starts.any (fun r => r.ofs / blockSize == d.nv.ofs / blockSize)

/-- A segment program may start now (R87, R536, R641, R642). -/
def mayProgram (d : Dev) : Bool :=
  d.mounted && d.log.programming.isNone && !d.power.powerFail && !d.bit F.BST_STAT_LBUSY && !d.bit F.LOG_STAT_RDONLY && d.logPowered &&
    !d.needsErase && decide (1024 ≤ d.log.total)

/-- What the commitment of a record makes durable in the system area: the pairing record, and the calibration slots (R457, R580,
R605). -/
def keepSystem (v : Nv) (r : LogRec) (order : Nat) : Nv :=
  if r.ty = 0x08 then
    if r.tag = 2 then { v with released := true }
    else if r.tag = 3 then v
    else { v with pairId := BitVec.ofNat 16 (ofBeBytes (r.body.take 2)), released := false }
  else if r.ty = 0x07 then
    let ws := wordsOf r.body
    let s : CalSlot := ⟨ws.take 209, nth ws 209 0, order⟩
    if r.tag = 1 then { v with calA := some s } else { v with calB := some s }
  else v

/-- A record commits: the head of the log moves to it, and line 11 posts (R642, R647, R245). -/
def commit (d : Dev) (pos : Nat) (skip : Nat) (r : LogRec) : Dev :=
  let ct := Log.chainTag (logKey (d.rd R.SYS_ID)) d.nv.ct r
  let v := keepSystem d.nv r r.seq.toNat
  let start := (d.nv.ofs + ringSize + pos - skip) % ringSize
  let v := { v with ct := ct, seq := r.seq, starts := v.starts ++ [⟨start, r.seq, ct⟩],
                    tailOfs := if v.starts.isEmpty then start else v.tailOfs }
  ((({ d with nv := v }).putB F.SEC_STAT_RELEASED v.released).irq 11).event 25 1

/-- The programming of the next segment begins: the records that end in it are committed (R642). The bytes and the device. -/
def programSegment (d : Dev) : List Byte × Dev :=
  let l := d.log
  let bytes := (Log.bytesOf (logKey (d.rd R.SYS_ID)) d.nv.ct l.skip 0 l.staged).take 1024
  let (done, rest, skip) := Log.split 1024 0 l.skip l.staged
  let first := l.skip
  let d := done.foldl (fun d pr => d.commit pr.1 (if pr.1 = 0 then first else 0) pr.2) d
  (bytes, { d with
    log := { d.log with staged := rest, skip := skip, programming := some d.cycle }
    nv := { d.nv with ofs := (d.nv.ofs + 1024) % ringSize } })

/-- One byte of the log as a reader sees it: the bytes between the tail and the head, 0xFF elsewhere (R652). -/
def inLog (d : Dev) (a : Nat) : Bool :=
  let span := (d.nv.ofs + ringSize - d.nv.tailOfs) % ringSize
  decide ((a + ringSize - d.nv.tailOfs) % ringSize < span)

/-- The oldest block is erased: its records are dropped whole and the tail moves (R634). -/
def dropBlock (d : Dev) (blk : Nat) : Dev :=
  let gone := d.nv.starts.filter (fun r => r.ofs / blockSize == blk)
  let kept := d.nv.starts.filter (fun r => r.ofs / blockSize != blk)
  let v := d.nv
  let v := match gone.getLast? with
    | none => v
    | some r => { v with tailSeq := r.seq, tailCt := r.ct }
  { d with nv := { v with starts := kept, tailOfs := (kept.head?.map (·.ofs)).getD v.ofs,
                          wear := Store.write (fun _ => 0) v.wear blk (Store.read (fun _ => 0) v.wear blk + 1) } }

/-- The snapshot ring of a member takes one publication (R639). -/
def pushRing (d : Dev) (e : List Byte) : Dev :=
  { d with log := { d.log with ring := (d.log.ring ++ [e]).drop (d.log.ring.length + 1 - 64) } }

/-- The entries of a list in groups of sixteen. -/
def chunks16 {α : Type} : Nat → List α → List (List α)
  | 0, _ => []
  | n + 1, l => if l.isEmpty then [] else l.take 16 :: chunks16 n (l.drop 16)

/-- The SNAPSHOT records of one phase (R639): at most sixteen entries each behind a part header, the part index from `base`. -/
def snapRecords (d : Dev) (c : Capture) (base : Nat) (post : Bool) (l : List (List Byte)) : Dev :=
  ((chunks16 4 l).zipIdx).foldl (fun d p =>
    d.logHw 0x06 0 (wordBytes c.fsrc ++ wordBytes c.fstl ++
      [BitVec.ofNat 8 (base + p.2), BitVec.ofNat 8 p.1.length, BitVec.ofNat 8 post.toNat, 0, 0, 0, 0, 0] ++ p.1.flatten)) d

/-- A fault triggers a snapshot: a capture begins with the ring's entries, or, while one runs or on a head, SKIP counts or nothing
happens (R639). -/
def snapTrigger (d : Dev) (fsrc fstl : Word) : Dev :=
  if d.isHead then d
  else if d.log.cap.isSome then d.count F.LOG_SNAP_SKIP 1
  else
    let c : Capture := ⟨fsrc, fstl, d.log.ring, [], d.cycle⟩
    let d := { d with log := { d.log with cap := some c } }
    let d := ((d.putB F.LOG_SNAP_ACT true).put F.LOG_SNAP_PRE c.pre.length).put F.LOG_SNAP_POST 0
    d.snapRecords c 0 false c.pre

/-- A publication enters the ring, and a capture in progress (R639). -/
def snapPublish (d : Dev) (e : List Byte) : Dev :=
  let d := match d.log.cap with
    | none => d
    | some c => if c.post.length < 64 then { d with log := { d.log with cap := some { c with post := c.post ++ [e] } } } else d
  if d.isHead then d else d.pushRing e

/-- A capture ends after 64 publications or 1 s: its post-fault entries are appended (R639). -/
def snapEnd (d : Dev) : Dev :=
  match d.log.cap with
  | none => d
  | some c =>
    if c.post.length < 64 && decide (d.cycle < c.began + 100000000) then d
    else
      let d := { d with log := { d.log with cap := none } }
      let d := (d.putB F.LOG_SNAP_ACT false).put F.LOG_SNAP_POST c.post.length
      d.snapRecords c ((c.pre.length + 15) / 16) true c.post

/-- LOG_WEAR gives the largest and the smallest erase count of the record area's 960 blocks. -/
def wearWord (d : Dev) : Word :=
  let mx := d.nv.wear.foldl (fun m e => max m e.2) 0
  let mn := if d.nv.wear.length < 960 then 0 else d.nv.wear.foldl (fun m e => min m e.2) mx
  BitVec.ofNat 32 (min mx 65535 * 65536 + min mn 65535)

end Dev

end Sys2Proof.Machine
end

