-- ==== Sys2Proof/Machine/PerfOps.lean ====
section
/-!
DEFINITION. The performance counters and the frame tagger (18_performance_counters.md).
-/

namespace Sys2Proof.Machine

namespace Dev

/-- How many drawers and excitation accumulators hold an unread result (R661, DRWPEND). -/
def newCount (d : Dev) : Nat :=
  (d.drawers.filter (·.vis.isNew)).length + (d.excs.filter (·.vis.isNew)).length

/-- A wait in progress is one of WAITT, WAITPH and YIELD (R661). -/
def waitStall (d : Dev) : Bool :=
  match d.hearth.wait with
  | some ⟨.time _, _, _, _⟩ => true
  | some ⟨.phase _, _, _, _⟩ => true
  | some ⟨.yield, _, _, _⟩ => true
  | _ => false

/-- Frames of SEND that wait in the sequencer transmit queue (R279). -/
def txqCount (d : Dev) : Nat :=
  (d.chain.ownFwd.filter (·.sent)).length + (d.chain.ownRev.filter (·.sent)).length

/-- The bytes of a frame on the line: header, payload, CMAC and CRC (R335). -/
def frameLen (f : Frame) : Nat := 8 + f.payload.length + (if f.auth then 4 else 0)

/-- The value of event `evt` in this cycle (R661): the level of an occupancy event, the occurrences of a count event. -/
def evtValue (d : Dev) (evt : Nat) : Nat :=
  match evt with
  | 1 => 1
  | 3 => d.waitStall.toNat
  | 4 => (d.hearth.wait.isSome && !d.waitStall).toNat
  | 12 => d.newCount
  | 13 => d.txqCount + (if d.isHead then d.chain.htx.length else 0)
  | 14 => d.hearth.rxq.length
  | 15 => d.chain.insFwd.foldl (fun n x => n + frameLen x.1) 0
  | 20 => (d.bal.shelves.filter (fun w => w.phase == .running && !w.paused && !w.quiet)).length
  | 22 => (d.bal.shelves.filter (fun w => w.act && w.quiet)).length
  | 24 => d.log.progQ.length
  | e => if e = 0 then 0 else d.perf.events.count e

/-- What PMC `n` adds in this cycle by its mode (R662). -/
def pmcAdds (d : Dev) (n : Nat) : Nat :=
  let v := d.evtValue (d.get (F.PRF_PMCFG_EVT n))
  match d.get (F.PRF_PMCFG_MODE n) with
  | 0 => v
  | 1 => if d.get (F.PRF_PMCFG_THR n) < v then 1 else 0
  | 2 => if v ≤ d.get (F.PRF_PMCFG_THR n) then 1 else 0
  | _ => 0

/-- PMC `n` counts overflows of the counter below it (R663). -/
def chained (d : Dev) (n : Nat) : Bool := n != 0 && d.bit (F.PRF_PMCFG_CHAIN n)

/-- PMC `n` counts now (R660). -/
def pmcCounts (d : Dev) (n : Nat) : Bool :=
  d.bitAt F.PRF_CTL_EN n && !d.bit F.PRF_CTL_FRZ && (d.pstate == 1 || d.pstate == 2 || d.pstate == 4)

/-- PMC `n` advances; past 0xFFFF_FFFF it wraps and its overflow is due (R663). -/
def pmcAdd (d : Dev) (n k : Nat) : Dev :=
  let v := d.get (F.PRF_PMC_CNT n) + k
  let d := d.put (F.PRF_PMC_CNT n) v
  if v < 2 ^ 32 then d else { d with perf := { d.perf with wrapped := d.perf.wrapped ++ [n] } }

/-- The counters at the end of a cycle (R658, R660 to R663). -/
def perfTick (d : Dev) : Dev :=
  let awake := d.pstate == 1 || d.pstate == 2 || d.pstate == 4
  let d := (List.range 6).foldl (fun d n => if d.pmcCounts n && !d.chained n then d.pmcAdd n (d.pmcAdds n) else d) d
  { d with perf := { d.perf with cyc := if awake then d.perf.cyc + 1 else d.perf.cyc, events := [] } }

/-- The overflow of PMC `n` (R663, R667, R668): OVF, the chained increment, and a sample of Hearth with FRZ by FRZOVF. -/
def pmcOverflow (d : Dev) (n : Nat) : Dev :=
  if !d.perf.wrapped.contains n then d
  else
    let d := { d with perf := { d.perf with wrapped := d.perf.wrapped.erase n } }
    let d := d.flagBits F.PRF_STAT_OVF (2 ^ n)
    let d := if n < 5 && d.chained (n + 1) && d.pmcCounts (n + 1) then d.pmcAdd (n + 1) 1 else d
    if d.bit (F.PRF_PMCFG_SEN n) then
      let d := { d with perf := { d.perf with sampOvr := d.perf.sampOvr || d.perf.sampling.isSome, sampling := some n } }
      let d := d.irq 13
      if d.bit F.PRF_CTL_FRZOVF then d.flag F.PRF_CTL_FRZ else d
    else d

/-- The sample taken at the entry to the line-13 handler (R667). -/
def takeSample (d : Dev) (user : Bool) (pc : Nat) : Dev :=
  match d.perf.sampling with
  | none => d
  | some n =>
    let ovr := d.bit F.PRF_SAMP_OVR || d.bit F.PRF_SAMP_VALID || d.perf.sampOvr
    let d := ({ d with perf := { d.perf with sampling := none, sampOvr := false } })
    ((((d.putB F.PRF_SAMP_VALID true).putB F.PRF_SAMP_OVR ovr).put F.PRF_SAMP_CNT n).putB F.PRF_SAMP_UMODE user).put F.PRF_SAMP_PC pc

/-- A read of PRF_PMC[n]: a latched shadow if one waits, and the chained counter above is latched in the same cycle (R664). -/
def readPmc (d : Dev) (n : Nat) : Word × Dev :=
  let v := ((nth d.perf.shadow n none)).getD (d.rd (R.PRF_PMC n))
  let sh := upd d.perf.shadow n (fun _ => none)
  let sh := if n < 5 && d.chained (n + 1) then upd sh (n + 1) (fun _ => some (d.rd (R.PRF_PMC (n + 1)))) else sh
  (v, { d with perf := { d.perf with shadow := sh } })

/-- A read of PRF_CYCL latches the high word of the cycle counter (R659). -/
def readCycl (d : Dev) : Word × Dev :=
  (d.perf.cyc.truncate 32, d.wr R.PRF_CYCH (BitVec.ofNat 32 (d.perf.cyc.toNat / 2 ^ 32)))

/-- PRF_CTL.CLR clears every PMC and OVF bit (R675). -/
def prfClear (d : Dev) : Dev :=
  let d := (List.range 6).foldl (fun d n => d.put (F.PRF_PMC_CNT n) 0) d
  d.put F.PRF_STAT_OVF 0

/-- The low word of the timebase, the stamp of a tag record (R670). -/
def stamp (d : Dev) : Word := d.tb.truncate 32

/-- Whether an ordinary frame of a source (1 DN, 2 UP, 3 own) is tagged (R669): chosen with probability 2^-K, and passed over while a
record is open. -/
def tagDecide (d : Dev) (src : Nat) : Bool × Dev :=
  let s := d.get F.PRF_TAGCFG_SRC
  if !d.bit F.PRF_TAGCFG_EN || !(s == 0 || s == src) then (false, d)
  else
    let (r, d) := d.draw
    if r.toNat % 2 ^ d.get F.PRF_TAGCFG_K ≠ 0 then (false, d)
    else if d.perf.tagOpen.isSome then (false, d.count F.PRF_TAGSTAT_BUSY 1)
    else (true, d)

/-- A tag record opens with a frame (R670). -/
def tagStart (d : Dev) (hdr : Word) (inn : Nat) (len : Nat) : Dev :=
  let t := d.stamp
  ({ d with perf := { d.perf with tagOpen := some ⟨hdr, BitVec.ofNat 2 inn, 0, len, t, t, t⟩ } }).putB F.PRF_TAGSTAT_OPEN true

/-- How the tagged frame leaves: its OUT code and the stamp of its first byte on the output (R670, R676). -/
def tagLeaves (d : Dev) (out : Nat) : Dev :=
  { d with perf := { d.perf with tagOpen := d.perf.tagOpen.map (fun o => { o with out := BitVec.ofNat 3 out, tfwd := d.stamp }) } }

/-- The records that no read has taken (R675, NVAL). -/
def tagUnread (d : Dev) : Nat := (d.perf.tags.filter (fun r => (nth r.words 1 0).getLsbD 31)).length

/-- The open record closes and is written to the ring (R671). -/
def tagClose (d : Dev) : Dev :=
  match d.perf.tagOpen with
  | none => d
  | some o =>
    let slot := d.get F.PRF_TAGSTAT_NEXT
    let old := nth d.perf.tags slot ⟨[], []⟩
    let w1 : Word := BitVec.ofNat 32 (2 ^ 31 + o.out.toNat * 2 ^ 28 + o.inn.toNat * 2 ^ 26 + o.len % 512)
    let d := if (nth old.words 1 0).getLsbD 31 then d.count F.PRF_TAGSTAT_LOST 1 else d
    let d := { d with perf := { d.perf with
      tagOpen := none, tags := upd d.perf.tags slot (fun r => { r with words := [o.hdr, w1, o.tarr, o.tq, o.tfwd, d.stamp] }) } }
    let d := (d.putB F.PRF_TAGSTAT_OPEN false).put F.PRF_TAGSTAT_NEXT (slot + 1)
    let d := d.count F.PRF_TAGSTAT_TAGGED 1
    d.put F.PRF_TAGSTAT_NVAL d.tagUnread

/-- The open record closes because its frame was dropped by a discard or failed its check (R671): OUT = 5. -/
def tagDrop (d : Dev) : Dev := (d.tagLeaves 5).tagClose

/-- A read of word 0 of record `r` latches the other words and clears VALID (R671). -/
def readTag (d : Dev) (r : Nat) : Word × Dev :=
  let t := nth d.perf.tags r ⟨[], []⟩
  let w1 := nth t.words 1 0
  let d := { d with perf := { d.perf with
    tags := upd d.perf.tags r (fun _ => ⟨upd t.words 1 (fun w => w &&& 0x7FFFFFFF), (t.words.drop 1)⟩) } }
  (nth t.words 0 0, if w1.getLsbD 31 then d.put F.PRF_TAGSTAT_NVAL d.tagUnread else d)

end Dev

end Sys2Proof.Machine
end

