-- ==== Sys2Proof/Machine/PhaseOps.lean ====
section
/-!
DEFINITION. The arithmetic of the phase model (R208, R209): the phase counter at an instant and the instant at which a value is
reached, in 1/32 ticks of 53 bits (a 48-bit tick and a 5-bit step).
-/

namespace Sys2Proof.Machine

/-- A PINC inside the range of R209: 40 Hz to 40 kHz. -/
def clipPinc (v : Nat) : Nat := clampNat 439805 439804651 v

/-- The phase of a model at an instant `t` (1/32 ticks), exact, in units of 2^-29 phase unit. -/
def PhaseModel.exact (m : PhaseModel) (t : Nat) : Int :=
  (m.pc.toNat : Int) * 65536 * 2 ^ 29 + wrapDiff 53 t m.tb * m.pinc.toNat

/-- The phase counter at an instant `t` in 1/32 ticks (R209). -/
def PhaseModel.phaseAt (m : PhaseModel) (t : Nat) : Word := BitVec.ofInt 32 ((m.exact t).fdiv (2 ^ 29))

/-- The instant at which the phase `x` (exact, 2^-29 phase unit) is reached, to the nearest 1/32 tick, halves rounded up. The
difference from the model's boundary is read as a signed 32-bit number of phase units (R209). -/
def PhaseModel.reachedExact (m : PhaseModel) (x : Int) : Nat :=
  let diff := x - (m.pc.toNat : Int) * 65536 * 2 ^ 29
  let period : Int := 2 ^ 61
  let wrapped := (diff + period / 2).emod period - period / 2
  ((m.tb : Int) + roundHalfUp wrapped m.pinc.toNat).emod (2 ^ 53) |>.toNat

/-- `t(v)`: the instant at which the phase counter reaches `v` (R209). -/
def PhaseModel.reached (m : PhaseModel) (v : Word) : Nat := m.reachedExact ((v.toNat : Int) * 2 ^ 29)

namespace Dev

/-- The phase counter now; 0 while the device holds no model (R208). -/
def phase (d : Dev) : Word :=
  match d.tim.model with
  | none => 0
  | some m => m.phaseAt (d.now * 32)

/-- The instant at which the phase counter reaches `v` by the model in force, if the device holds one. -/
def reached (d : Dev) (v : Word) : Option Nat := d.tim.model.map (·.reached v)

/-- `v` has passed or is reached now: `t(v)` lies at or before the current tick (R209, R220). -/
def phasePassed (d : Dev) (v : Word) : Bool :=
  match d.reached v with
  | none => false
  | some t => decide (wrapDiff 53 (t / 32 * 32) (d.now * 32) ≤ 0)

/-- The phase PLL is locked (R217). -/
def plock (d : Dev) : Bool := d.bit F.SYS_CLKSTAT_PLOCK

/-- PLOCK stands in SYS_CLKSTAT and TIM_PHSTAT at once; its fall sets LOSTP (R38, R217). -/
def setPlock (d : Dev) (b : Bool) : Dev :=
  let fell := d.plock && !b
  let d := (d.putB F.SYS_CLKSTAT_PLOCK b).putB F.TIM_PHSTAT_PLOCK b
  if fell then d.flag F.SYS_CLKSTAT_LOSTP else d

/-- FLOCK; its fall sets LOSTF (R38). -/
def setFlock (d : Dev) (b : Bool) : Dev :=
  let fell := d.bit F.SYS_CLKSTAT_FLOCK && !b
  let d := d.putB F.SYS_CLKSTAT_FLOCK b
  if fell then d.flag F.SYS_CLKSTAT_LOSTF else d

end Dev

end Sys2Proof.Machine
end

