-- ==== Sys2Proof/Machine/HearthOps.lean ====
section
/-!
DEFINITION. Hearth's shared operations (06_imvia_instruction_set.md): its registers and flags, halting, the entry of exceptions and
interrupts, waits, and the limits of user code.
-/

namespace Sys2Proof.Machine

/-- Why an instruction has no effect of its own but raises an exception (R249): its cause code and the information word. -/
structure Exc where
  cause : Nat
  info : Word
  deriving DecidableEq, Repr

/-- The codes of R249. -/
def Exc.ill (info : Word) : Exc := ⟨1, info⟩
/-- An action that R237 or R242 forbids. -/
def Exc.priv (info : Word) : Exc := ⟨2, info⟩
/-- An address outside its space or misaligned. -/
def Exc.addr (info : Word) : Exc := ⟨3, info⟩
/-- An operand value that the instruction's table names invalid. -/
def Exc.opnd (info : Word) : Exc := ⟨4, info⟩
/-- An uncorrectable codeword on a data load. -/
def Exc.mem (info : Word) : Exc := ⟨5, info⟩

/-- How a wait in progress ends now (R272, R274). -/
inductive WaitEnd where
  | event | target | timeout | lost
  deriving DecidableEq, Repr

namespace Dev

/-- Working register `r` (R233). -/
def w (d : Dev) (r : BitVec 4) : Word := nth d.hearth.w r.toNat 0

/-- The device with a working register written. -/
def setW (d : Dev) (r : BitVec 4) (v : Word) : Dev := { d with hearth := { d.hearth with w := upd d.hearth.w r.toNat (fun _ => v) } }

/-- The flags written (R235). -/
def setFlags (d : Dev) (z n c v : Bool) : Dev := { d with hearth := { d.hearth with z := z, n := n, c := c, v := v } }

/-- Z and N of a result; C and V stay. -/
def setZN (d : Dev) (r : Word) : Dev := { d with hearth := { d.hearth with z := r == 0, n := r.getMsbD 0 } }

/-- Z of a command's result: 1 when it is accepted (R267). -/
def setZ (d : Dev) (b : Bool) : Dev := { d with hearth := { d.hearth with z := b } }

/-- The bank offset of the program counter (R234). -/
def pcOfs (d : Dev) : Nat := d.hearth.pc.toNat % 8192

/-- The active bank (R234). -/
def bank (d : Dev) : Nat := d.get F.SEQ_BANK_ACT

/-- The program counter moves to a bank offset, modulo 8,192, in the active bank (R234). -/
def jump (d : Dev) (ofs : Nat) : Dev :=
  { d with hearth := { d.hearth with pc := BitVec.ofNat 14 (d.bank * 8192 + ofs % 8192) } }

/-- The program counter moves on by one word. -/
def advance (d : Dev) : Dev := d.jump (d.pcOfs + 1)

/-- The pending enabled lines (R246). -/
def linesDue (d : Dev) : Nat := d.get F.SEQ_IP_IP &&& d.get F.SEQ_IE_IE

/-- An interrupt is due at the next instruction boundary (R246). -/
def intDue (d : Dev) : Bool := d.bit F.SEQ_CTL_IEN && d.linesDue != 0

/-- Hearth is at an instruction boundary at which the next instruction may issue: running, not waiting, no interrupt due (R246,
R275). -/
def issues (d : Dev) : Bool := d.hearth.run && d.hearth.wait.isNone && !d.intDue

/-- Hearth halts and holds its PC and registers (R253); a wait or stall writes nothing (R287). -/
def halt (d : Dev) (cause : Nat) : Dev :=
  if d.hearth.run then ({ d with hearth := { d.hearth with run := false, wait := none, busy := 0 } }).put F.SEQ_STAT_HCAUSE cause else d

/-- The save of R246: SEQ_EPC and SEQ_ESR, supervisor mode, IEN = 0, and the vector. -/
def enterVector (d : Dev) (epc vector : Nat) : Dev :=
  let d := d.put F.SEQ_EPC_EPC epc
  let d := ((((((d.putB F.SEQ_ESR_Z d.hearth.z).putB F.SEQ_ESR_N d.hearth.n).putB F.SEQ_ESR_C d.hearth.c).putB F.SEQ_ESR_V
    d.hearth.v).putB F.SEQ_ESR_MODE d.hearth.user).putB F.SEQ_ESR_IEN (d.bit F.SEQ_CTL_IEN))
  let d := d.putB F.SEQ_CTL_IEN false
  ({ d with hearth := { d.hearth with user := false } }).jump vector

/-- An exception (R249, R250): in user mode the vector is entered, in 2 cycles, and an L0 SEQ notice counted; in supervisor mode an L1 SEQ fault
halts Hearth without entering a vector. `next` says that SEQ_EPC points to the next instruction. -/
def exception (d : Dev) (e : Exc) (next : Bool) : Dev :=
  let d := ((d.put F.SEQ_EXC_CAUSE e.cause).put F.SEQ_EXCI_INFO e.info.toNat).event 7 1
  if d.hearth.user then
    let d := (d.post 8 0 1 (BitVec.ofNat 32 e.cause)).enterVector (if next then d.pcOfs + 1 else d.pcOfs) e.cause
    { d with hearth := { d.hearth with busy := 2 } }
  else d.post 8 1 2 (BitVec.ofNat 32 e.cause)

/-- A word offset lies in the active image's user region (R304). -/
def inUserRegion (d : Dev) (ofs : Nat) : Bool :=
  decide (d.get F.SEQ_UREG_USTART ≤ ofs) && decide (ofs < d.get F.SEQ_UREG_UEND)

/-- What a wait in progress ends by, if it ends now (R271 to R274): a masked event before the target, the loss of the model at the
next tick. -/
def waitEnds (d : Dev) (wt : Wait) : Option WaitEnd :=
  if d.cycle ≤ wt.issued then none
  else
    let masked := d.get F.SEQ_IP_IP &&& wt.mask.toNat != 0
    match wt.kind with
    | .time t =>
      if masked then some .event
      else if (d.now + 2 ^ 48 - t.toNat) % 2 ^ 48 < 2 ^ 47 then some (if wt.mask = 0 then .target else .timeout)
      else none
    | .phase v =>
      if d.tim.model.isNone then some .lost
      else if masked then some .event
      else if d.phasePassed v then some (if wt.mask = 0 then .target else .timeout)
      else none
    | _ => none

/-- A WAITT or WAITPH completes: rd, and the flags of R272. -/
def finishWait (d : Dev) (wt : Wait) (z c v : Bool) : Dev :=
  let d := d.setW wt.rd (BitVec.ofNat 32 (d.get F.SEQ_IP_IP &&& wt.mask.toNat))
  (({ d with hearth := { d.hearth with wait := none } }).setFlags z false c v).advance.event 2 1

/-- The end of a wait by its own conditions: WAITT and WAITPH under R272; a supervisor YIELD when an enabled line is pending (R266). -/
def endWait (d : Dev) : Dev :=
  match d.hearth.wait with
  | none => d
  | some wt =>
    match wt.kind with
    | .yield =>
      if decide (wt.issued < d.cycle) && d.linesDue != 0 then ({ d with hearth := { d.hearth with wait := none } }).advance.event 2 1 else d
    | _ =>
      match d.waitEnds wt with
      | some .event => d.finishWait wt false false false
      | some .target => d.finishWait wt false false false
      | some .timeout => d.finishWait wt true false false
      | some .lost => d.finishWait wt true true false
      | none => d

/-- An interrupt is taken at an instruction boundary (R246, R247, R274): a wait ends first by its own conditions or by the interrupt;
a stalled SEND, RECV or LOG is abandoned and SEQ_EPC points to it. -/
def takeInterrupt (d : Dev) : Dev :=
  if !d.hearth.run || !d.intDue then d
  else
    let d := d.endWait
    let d := match d.hearth.wait with
      | none => d
      | some wt =>
        match wt.kind with
        | .time _ => d.finishWait wt false false true
        | .phase _ => d.finishWait wt false false true
        | .yield => ({ d with hearth := { d.hearth with wait := none } }).advance.event 2 1
        | _ => { d with hearth := { d.hearth with wait := none } }
    let line := ((List.range 16).find? (fun i => d.linesDue.testBit i)).getD 0
    let pc := d.pcOfs
    let user := d.hearth.user
    let d := (d.enterVector pc (16 + line)).event 6 1
    let d := { d with hearth := { d.hearth with busy := 2 } }
    if line = 13 then d.takeSample user pc else d

/-- Hearth begins a wait or a stall: fetching stops (R275). -/
def beginWait (d : Dev) (kind : WaitKind) (rd : BitVec 4) (mask : BitVec 16) : Dev :=
  { d with hearth := { d.hearth with wait := some ⟨kind, rd, mask, d.cycle⟩ } }

/-- The last byte address and one of the user data window (R303): base and size in 256-byte units, cut at the end of data SRAM. -/
def userWindow (d : Dev) : Nat × Nat :=
  let b := d.get F.SEQ_UWIN_BASE * 256
  (b, min (b + d.get F.SEQ_UWIN_SIZE * 256) 0x20000)

/-- Whether `n` bytes at an address may be used: inside data SRAM (R239), and for user code inside its window (R237). -/
def dataCheck (d : Dev) (a n align : Nat) : Option Exc :=
  if 0x20000 < a + n || a % align != 0 then some (Exc.addr (BitVec.ofNat 32 a))
  else if d.hearth.user && !(decide ((d.userWindow).1 ≤ a) && decide (a + n ≤ (d.userWindow).2)) then some (Exc.priv (BitVec.ofNat 32 a))
  else none

/-- The block bits of SEQ_GRANT that take effect: SEQ and SEC never (R302). -/
def grantMask : Nat := 0x1FFDFB

end Dev

end Sys2Proof.Machine
end

