-- ==== Sys2Proof/Machine/SecOps.lean ====
section
/-!
DEFINITION. The key store and the security alarm (16_security.md): the keys derived from the root key, the session key and its
counters, authentication failures, the reactions of an alarm, and the clearing of secrets.
-/

namespace Sys2Proof.Machine

/-- A key derived from the root key over two characters, SYS_ID, the trace code and two zero bytes (R612, R624). -/
def derivedKey (label : Nat) (sysId : Word) : BitVec 128 :=
  Aes.encrypt Config.rootKey
    (Aes.ofBytes ((beBytes 2 label ++ wordBytes sysId ++ beBytes 8 Config.traceCode.toNat ++ [0, 0]).map BitVec.toNat))

/-- The transport key KT (R612). -/
def transportKey (sysId : Word) : BitVec 128 := derivedKey 0x4B54 sysId

/-- The session key of R614: KP over "KS", KID and the 12-byte NONCE. -/
def sessionKey (kp : BitVec 128) (kid : BitVec 16) (nonce : List Byte) : BitVec 128 :=
  Aes.encrypt kp (Aes.ofBytes ((beBytes 2 0x4B53 ++ beBytes 2 kid.toNat ++ nonce).map BitVec.toNat))

/-- A key record for a provisioning key (R613). -/
def keyRec (kp : BitVec 128) (kver : Word) (order : Nat) : KeyRec :=
  let e := Aes.encrypt Config.rootKey kp
  ⟨e, kver, Aes.cmac Config.rootKey (beBytes 16 e.toNat ++ wordBytes kver), order⟩

/-- A key record slot is intact: it holds a record whose CMAC under the root key matches (R613). -/
def KeyRec.intact (s : Option KeyRec) : Bool :=
  match s with
  | none => false
  | some r => Aes.cmac Config.rootKey (beBytes 16 r.wrapped.toNat ++ wordBytes r.kver) == r.mac

/-- The newer intact slot of a pair (R613). -/
def newerKey (a b : Option KeyRec) : Option KeyRec :=
  match KeyRec.intact a, KeyRec.intact b with
  | true, true => if ((a.map (·.order)).getD 0) < ((b.map (·.order)).getD 0) then b else a
  | true, false => a
  | false, true => b
  | false, false => none

namespace Dev

/-- The session key is erased, and every counter and stored frame with it (R616, R628). SEC_STAT.KID keeps its value. -/
def dropKs (d : Dev) : Dev :=
  ({ d with keys := { d.keys with ks := none, sendC := [], recvU := [], recvB := [], last := [] } }).putB F.SEC_STAT_KSV false

/-- A session key is held from now on (R614, R629): the counters restart and authenticated commands are accepted. -/
def takeKs (d : Dev) (ks : BitVec 128) (kid : BitVec 16) : Dev :=
  let d := { d with keys := { d.keys with ks := some ks, sendC := [], recvU := [], recvB := [], last := [] } }
  ((d.putB F.SEC_STAT_KSV true).put F.SEC_STAT_KID kid.toNat).putB F.SEC_STAT_ASTOP false

/-- The provisioning key stands in key RAM, or none does (R613, R632). -/
def setKp (d : Dev) (k : Option (BitVec 128 × Word)) : Dev :=
  let d := { d with keys := { d.keys with kp := k.map (fun x : BitVec 128 × Word => x.1) } }
  (d.putB F.SEC_STAT_KPV k.isSome).put F.SEC_KVER_KVER ((k.map (fun x : BitVec 128 × Word => x.2.toNat)).getD 0)

/-- The provisioning key of the newer intact slot is loaded, once the log is mounted (R613, R645). -/
def loadKp (d : Dev) : Dev :=
  if !d.mounted then d.setKp none
  else d.setKp ((newerKey d.nv.keyA d.nv.keyB).map (fun r => (Aes.decrypt Config.rootKey r.wrapped, r.kver)))

/-- KP is erased with both key-record slots (R623, R627). -/
def eraseKp (d : Dev) : Dev :=
  ({ d with nv := { d.nv with keyA := none, keyB := none }, keys := { d.keys with installing := none } }).setKp none

/-- A new key record is written to the older slot and its key takes effect (R613, R623). -/
def writeKeyRec (d : Dev) (kp : BitVec 128) (kver : Word) : Dev :=
  let o (s : Option KeyRec) : Nat := if KeyRec.intact s then (s.map (·.order)).getD 0 + 1 else 0
  let r := keyRec kp kver (max (o d.nv.keyA) (o d.nv.keyB) + 1)
  let d := if o d.nv.keyB < o d.nv.keyA then { d with nv := { d.nv with keyB := some r } } else { d with nv := { d.nv with keyA := some r } }
  d.setKp (some (kp, kver))

/-- The provisioning nonce and the test challenge are drawn anew (R628). -/
def drawDnonce (d : Dev) : Dev :=
  let (v, d) := d.draw
  { d with keys := { d.keys with dnonce := v } }

/-- A new test challenge (R625, R628). -/
def drawTch (d : Dev) : Dev :=
  let (v, d) := d.draw
  { d with keys := { d.keys with tch := v } }

/-- A security record of subtype 1 alarm, 2 key frame, 3 test (R638). -/
def secRecord (d : Dev) (tag : BitVec 16) : Dev :=
  d.logHw 0x09 tag (d.rdBytes R.SEC_ALM ++ d.rdBytes R.SEC_PROVRES ++ d.rdBytes R.SEC_KVER)

/-- The policy field of an alarm source: 0 GLITCH, 1 CMAC, 2 TOKEN, 3 LOCKW (R626, R632). -/
def policyOf (d : Dev) (src : Nat) : Nat := bitsOf (d.get ⟨R.SEC_POLICY, 0, 8⟩) (2 * src) 2

/-- A security alarm of a source (R626 to R628): keys erased by its step, ASTOP, the L2 fault, new challenges, a record. -/
def alarm (d : Dev) (src : Nat) : Dev :=
  let pol := d.policyOf src
  let step2 := pol == 2 || (pol == 3 && d.bitAt F.SEC_ALM_SRC src)
  let d := d.dropKs
  let d := if step2 then d.eraseKp else d
  let d := d.putB F.SEC_STAT_ASTOP true
  let d := ((d.flagBits F.SEC_ALM_SRC (2 ^ src)).count F.SEC_ALM_CNT 1).put F.SEC_ALM_STEP (if step2 then 2 else 1)
  let d := d.post 7 2 (if step2 then 3 else 2) (BitVec.ofNat 32 src)
  (d.drawDnonce.drawTch).secRecord 1

/-- One more consecutive CMAC failure; the sixteenth raises the alarm and starts the run anew (R619, R626). -/
def cmacFail (d : Dev) : Dev :=
  let n := d.get F.SEC_AFAIL_CONSEC + 1
  let d := d.count F.SEC_AFAIL_TOTAL 1
  if 16 ≤ n then (d.put F.SEC_AFAIL_CONSEC 0).alarm 1 else d.put F.SEC_AFAIL_CONSEC n

/-- A frame failed its authentication: the L0 notice, and one failure more (R619). -/
def authFail (d : Dev) : Dev := (d.post 7 0 1 0).cmacFail

/-- A frame passed its authentication (R619). -/
def authPass (d : Dev) : Dev := d.put F.SEC_AFAIL_CONSEC 0

/-- A write to a WL field of a locked block raises the alarm (R15). -/
def lockedWrite (d : Dev) : Dev := d.alarm 3

/-- The clearing of R546 step 2: session keys and every key-RAM copy cleared, the OTP read path closed (R547). -/
def clearSecrets (d : Dev) : Dev :=
  let d := d.dropKs.setKp none
  ({ d with keys := { d.keys with otp := false } })

/-- A test token attempts test mode (R624, R625). -/
def testToken (d : Dev) (hi : Word) : Dev :=
  let id := d.rd R.SYS_ID
  let kx := derivedKey 0x5454 id
  let t := (Aes.cmac kx (wordBytes id ++ wordBytes d.keys.tch ++ beBytes 8 Config.traceCode.toNat)).toNat / 2 ^ 64
  if hi.toNat * 2 ^ 32 + d.keys.tokL.toNat ≠ t then d.drawTch.alarm 2
  else if d.pstate != 1 || d.hearth.run || d.get F.GRD_SAFESTAT_OUT != 0 then d.putB F.SEC_STAT_TREF true
  else ((d.clearSecrets.putB F.SEC_STAT_TREF false).putB F.SEC_STAT_TEST true).secRecord 3

end Dev

end Sys2Proof.Machine
end

