-- ==== Sys2Proof/Machine/LoadOps.lean ====
section
/-!
DEFINITION. Program images, the load session and the run request (07_programs_and_upgrades.md).
-/

namespace Sys2Proof.Machine

/-- The fields of an image header (R289), from its sixteen words. -/
structure Image where
  words : List Word
  deriving DecidableEq, Repr

namespace Image

/-- Word `i` of a header. -/
def word (h : Image) (i : Nat) : Nat := (nth h.words i 0).toNat
/-- KIND: 1 = user segment. -/
def kind (h : Image) : Nat := bitsOf (h.word 0) 0 8
/-- VERSION. -/
def version (h : Image) : Nat := h.word 1
/-- LREV. -/
def lrev (h : Image) : Nat := bitsOf (h.word 2) 16 4
/-- IFGEN. -/
def ifgen (h : Image) : Nat := bitsOf (h.word 2) 0 16
/-- LEN in code words. -/
def len (h : Image) : Nat := bitsOf (h.word 3) 0 14
/-- UEND. -/
def uend (h : Image) : Nat := bitsOf (h.word 4) 16 14
/-- USTART. -/
def ustart (h : Image) : Nat := bitsOf (h.word 4) 0 13
/-- CODECRC. -/
def codeCrc (h : Image) : Word := nth h.words 5 0
/-- GRANTMAX. -/
def grantMax (h : Image) : Word := nth h.words 6 0
/-- MINSIL. -/
def minsil (h : Image) : Nat := bitsOf (h.word 7) 0 4
/-- The image is a user segment. -/
def isUser (h : Image) : Bool := h.kind == 1
/-- The word of the bank at which the image loads (R290). -/
def loadAt (h : Image) : Nat := if h.isUser then h.ustart else 0
/-- The chunks of 32 words that make the image (R292). -/
def chunks (h : Image) : Nat := (h.len + 31) / 32

/-- The identification, version and reserved fields are right (R289, cause HDR). -/
def hdrOk (h : Image) : Bool :=
  bitsOf (h.word 0) 16 16 == 0x4D59 && bitsOf (h.word 0) 8 8 == 1 && decide (h.kind ≤ 1) && h.version != 0 &&
    bitsOf (h.word 2) 20 12 == 0 && bitsOf (h.word 3) 14 18 == 0 && bitsOf (h.word 4) 30 2 == 0 && bitsOf (h.word 4) 13 3 == 0 &&
    bitsOf (h.word 7) 4 28 == 0 && (List.range 8).all (fun i => h.word (8 + i) == 0)

/-- LEN, USTART and UEND lie inside R289 (cause LEN). -/
def lenOk (h : Image) : Bool :=
  if h.isUser then decide (1 ≤ h.len) && h.uend == 0
  else decide (32 ≤ h.len) && decide (h.len ≤ 8192) &&
    ((h.ustart == 0 && h.uend == 0) || (decide (0x20 ≤ h.ustart) && decide (h.ustart < h.uend) && decide (h.uend ≤ 8192)))

end Image

namespace Dev

/-- The bank that is not active. -/
def otherBank (d : Dev) : Nat := 1 - d.bank

/-- The link revision that the device speaks (R305): that of its active image once one has run since reset, else 1. -/
def linkRev (d : Dev) : Nat := if d.hearth.ranOnce then d.get (F.SEQ_BGEN_LREV d.bank) else 1

/-- A load session is open or its check runs (R291, R294). -/
def sessionOpen (d : Dev) : Bool := d.get F.SEQ_LDSTAT_STATE == 1 || d.get F.SEQ_LDSTAT_STATE == 2

/-- A load is rejected or abandoned with a cause (R295). -/
def rejectLoad (d : Dev) (cause : Nat) : Dev := (d.put F.SEQ_LDSTAT_STATE 4).put F.SEQ_LDSTAT_CAUSE cause

/-- The open session is abandoned (R295, R48). -/
def abortLoad (d : Dev) : Dev := if d.sessionOpen then d.rejectLoad 10 else d

/-- The causes that an OPEN's header gives by itself, the first of HDR, LEN, SIL, LREV (R295, R308); `bcast` is the chain's broadcast
revision. A user segment needs a valid supervisor image (R291). -/
def headerCause (d : Dev) (h : Image) (bcast : Nat) : Option Nat :=
  if !h.hdrOk then some 1
  else if !h.lenOk then some 2
  else if d.get F.SYS_ID_SILLET < h.minsil then some 3
  else if h.lrev = 0 || 2 < h.lrev || !(h.lrev == bcast || h.lrev == bcast + 1) then some 4
  else if h.isUser && !d.bitAt F.SEQ_BANK_VALID d.otherBank then some 8
  else none

/-- A user segment lies outside the user region of its bank, or requires a grant beyond GRANTMAX (R290, R295). -/
def regionBad (d : Dev) (h : Image) : Bool :=
  let b := nth d.load.banks d.otherBank ⟨0, 0, 0⟩
  h.isUser && (!d.bitAt F.SEQ_BANK_VALID d.otherBank || b.uend = 0 || h.ustart < b.ustart || b.uend < h.ustart + h.len ||
    h.grantMax &&& ~~~b.grantMax != 0)

/-- A pending SWAP or RESTART ends with a cause (R296, R298). -/
def cancelRun (d : Dev) (cause : Nat) : Dev :=
  if d.bit F.SEQ_RUNSTAT_PEND then (d.putB F.SEQ_RUNSTAT_PEND false).put F.SEQ_RUNSTAT_CAUSE cause else d

/-- The instant of the boundary that a PCB names (R296). -/
def boundaryOf (d : Dev) (pcb : Nat) : Option Nat := d.reached (BitVec.ofNat 32 (pcb * 65536))

/-- Why a SWAP or RESTART is refused, the first cause of R297. -/
def runCause (d : Dev) (swap : Bool) (ver : Word) (pcb : Nat) : Option Nat :=
  let b := if swap then d.otherBank else d.bank
  let ahead := (pcb + 65536 - d.phase.toNat / 65536) % 65536
  if !d.bitAt F.SEQ_BANK_VALID b then some 1
  else if ver != 0 && ver.toNat != d.get (F.SEQ_BVER_VERSION b) then some 2
  else match d.boundaryOf pcb with
    | none => some 3
    | some t =>
      if 32768 < ahead || (ahead != 32768 && decide (wrapDiff 53 (t / 32 * 32) (d.now * 32) < 300 * 32)) then some 4
      else if ahead = 32768 then some 5
      else if d.pstate == 4 then some 6
      else if !d.hearth.ranOnce && !d.bit F.GRD_STAT_LOCKED then some 7
      else none

/-- A RUN request (R296 to R298, R301). -/
def requestRun (d : Dev) (form : Nat) (ver : Word) (pcb : Nat) : Dev :=
  match form with
  | 2 => d.halt 4
  | 3 => d.cancelRun 9
  | f =>
    match d.runCause (f == 0) ver pcb with
    | some c => d.put F.SEQ_RUNSTAT_CAUSE c
    | none => (((d.putB F.SEQ_RUNSTAT_PEND true).put F.SEQ_RUNSTAT_FORM f).put F.SEQ_RUNSTAT_PCB pcb).put F.SEQ_RUNSTAT_CAUSE 0

/-- The program of the active bank enters at word 0 with the values of R233 and R299. -/
def enterProgram (d : Dev) : Dev :=
  let d := ((((((d.putB F.SEQ_CTL_IEN false).put F.SEQ_IE_IE 0).put F.SEQ_EPC_EPC 0).wr R.SEQ_ESR 0).wr R.SEQ_EXC 0).wr R.SEQ_EXCI 0)
  let d := ((d.wr R.SEQ_GRANT 0).wr R.SEQ_UWIN 0).put F.SEQ_STAT_HCAUSE 0
  let h := d.hearth
  let d := { d with hearth := { h with w := List.replicate 16 0, z := false, n := false, c := false, v := false, user := false,
                                       run := true, ranOnce := true, wait := none, busy := 0 } }
  d.jump 0

/-- The boundary of a pending SWAP or RESTART (R299, R549): the bank swaps, the program enters, the first since reset takes the device
into Measure, and a PROGRAM record is written. While Hearth's logic BIST runs the entry waits for its end. -/
def runBoundary (d : Dev) : Dev :=
  if !d.bit F.SEQ_RUNSTAT_PEND then d
  else
    let pcb := d.get F.SEQ_RUNSTAT_PCB
    match d.boundaryOf pcb with
    | none => d
    | some t =>
      if 0 < wrapDiff 53 (t / 32 * 32) (d.now * 32) then d
      else
        let d := d.putB F.SEQ_RUNSTAT_PEND false
        let d := if d.get F.SEQ_RUNSTAT_FORM = 0 then
            let b := d.otherBank
            let h := nth d.load.banks b ⟨0, 0, 0⟩
            ((d.put F.SEQ_BANK_ACT b).put F.SEQ_UREG_USTART h.ustart).put F.SEQ_UREG_UEND h.uend
          else d
        let b := d.bank
        let d := if d.bit F.BST_STAT_LBUSY then { d with bist := { d.bist with enterAfter := true } } else d.enterProgram
        let d := if d.pstate == 1 then d.setState 2 else d
        d.logHw 0x0A 0 (d.rdBytes (R.SEQ_BVER b) ++ d.rdBytes (R.SEQ_BGEN b) ++ d.rdBytes (R.SEQ_BCRC b) ++ beBytes 4 pcb)

end Dev

end Sys2Proof.Machine
end

