-- ==== Sys2Proof/Machine/CalOps.lean ====
section
/-!
DEFINITION. How a calibration set turns raw bit decisions into the calibrated code (R563, R564). A set is 209 words: six for each
of the 34 channels (CAL_OFS, CAL_GAIN, CAL_TRIM0 to CAL_TRIM3), four of the two ports' equalisers, and CAL_META.
-/

namespace Sys2Proof.Machine

/-- Word `i` of the factors of channel `ch` in a set: 0 the offset, 1 the gain, 2 to 5 the trims. -/
def calWord (set : List Word) (ch i : Nat) : Nat := (nth set (ch * 6 + i) 0).toNat

/-- TRIM[j] of a channel, a signed byte in 1/64 LSB. -/
def calTrim (set : List Word) (ch j : Nat) : Int := signed 8 (bitsOf (calWord set ch (2 + j / 4)) (8 * (j % 4)) 8)

/-- The weighted sum `w` of the raw bit decisions, in 1/64 LSB (R564). -/
def calWeight (set : List Word) (ch : Nat) (raw : BitVec 14) : Int :=
  (List.range 14).foldl (fun w j => if raw.getLsbD j then w + (2 ^ j * 64 : Nat) + calTrim set ch j else w) 0

/-- The code of R564 before it is limited to the channel's range. -/
def calApply (set : List Word) (ch : Nat) (raw : BitVec 14) : Int :=
  let w := calWeight set ch raw
  let w := if ch = 32 then w - 8192 * 64 else w
  roundHalfAway ((w - signed 16 (calWord set ch 0)) * bitsOf (calWord set ch 1) 0 18) (2 ^ 23)

/-- The code of a channel under the active set. -/
def Dev.calCode (d : Dev) (ch : Nat) (raw : BitVec 14) : Int := calApply d.cal.active ch raw

/-- The temperature that the auxiliary converter's code in the die-temperature slot gives, in 1/16 °C: 25 °C and 4.00 mV/K from 0.700 V
at a VTREF of 3.300 V (R74, R574), to the nearest. -/
def dieTemp (code : Int) : Int := roundHalfUp (code * 825) 1024 - 2400

namespace Dev

/-- Causes of CAL_STALE set and cleared, as masks of NOCAL, PAUSE, TEMP, SLEEP, TRKLIM from bit 0 up: a cause that sets stays against one that
clears it; STALE is their OR, and its rise sets ROSE and posts line 15 (R573, R583). -/
def stale (d : Dev) (set clear : Nat) : Dev :=
  let f : Fld := ⟨R.CAL_STALE, 8, 5⟩
  let c := (d.get f &&& (31 - clear)) ||| set
  let was := d.bit F.CAL_STALE_STALE
  let d := (d.put f c).putB F.CAL_STALE_STALE (c != 0)
  if c != 0 && !was then (d.flag F.CAL_STALE_ROSE).irq 15 else d

/-- The die has moved more than 15 K from the reference temperature of the factors (R573). -/
def tempMoved (d : Dev) : Bool :=
  decide (240 < (signed 16 (d.get F.CAL_TREF_TNOW) - signed 16 (d.get F.CAL_TREF_TREF)).natAbs)

/-- TNOW takes a value in 1/16 °C, and the TEMP cause is judged (R573, R574). -/
def setTnow (d : Dev) (t : Int) : Dev :=
  let d := d.put F.CAL_TREF_TNOW (t.emod 65536).toNat
  if d.tempMoved then d.stale 4 0 else d

/-- TREF takes a value in 1/16 °C, and the TEMP cause is judged against it (R574). -/
def setTref (d : Dev) (t : Nat) : Dev :=
  let d := d.put F.CAL_TREF_TREF t
  if d.tempMoved then d.stale 4 0 else d

end Dev

end Sys2Proof.Machine
end

