-- ==== Sys2Proof/Machine/SweepOps.lean ====
section
/-!
DEFINITION. The sweep engine and the injected conversions (03_conversion.md): the settings a sweep takes, the acceptance and
the refusal of triggers, the sampling instants, the discard, and the entry of samples into the drawers is in DrawerOps.
-/

namespace Sys2Proof.Machine

namespace Dev

/-- The settings of the next sweep, as they stood at the start of this cycle: a write of the same cycle comes too late (R131). -/
def sweepCfg (d : Dev) : ConvCfg :=
  { count := d.get0 F.CONV_SWEEP_COUNT
    intv := d.get0 F.CONV_INTV_INTV
    unit := d.get0 F.CONV_INTV_UNIT == 1
    cells := BitVec.ofNat 32 (d.get0 F.CONV_CHEN_CELL)
    cur := d.get0 F.CONV_DEVEN_CUR == 1
    aux := d.get0 F.CONV_DEVEN_AUX == 1
    auxLen := d.get0 F.CONV_AUXCTL_LEN
    auxSeq := BitVec.ofNat 64 (d.get0 F.CONV_AUXSEQ1_ENT * 2 ^ 32 + d.get0 F.CONV_AUXSEQ0_ENT)
    csrc := d.get0 F.CONV_DIAG_CSRC
    isrc := d.get0 F.CONV_DIAG_ISRC
    diagch := BitVec.ofNat 32 (d.get0 F.CONV_DIAGCH_CELL) }

/-- The slot of an entry of the auxiliary sequence (R114, R140). -/
def auxEntry (seq : BitVec 64) (pos : Nat) : Nat := bitsOf seq.toNat (4 * (pos % 16)) 4

/-- The quiet-window lead in ticks, clipped to 20 to 290 (R435). -/
def qlead (d : Dev) : Nat := clampNat 20 290 (d.get F.BAL_CTL_QLEAD)

/-- The quiet-window trail in ticks (R435). -/
def qtrail (d : Dev) : Nat := d.get F.BAL_CTL_QTRAIL

/-- A refused trigger: CONV_MISS increments, its one cause bit is set, and line 4 posts (R129, R245). -/
def missTrigger (d : Dev) (cause : Fld) : Dev := (((d.count F.CONV_MISS_CNT 1).flag cause).irq 4).event 10 1

/-- The interval of a sweep that has a second instant is too short: below 100 ticks, or below 1.0 µs at the reference period in
force (R111). -/
def rateTooShort (d : Dev) (c : ConvCfg) : Bool :=
  c.count != 1 &&
    (if c.unit then
      match d.tim.model with
      | none => false
      | some m => decide (c.intv * 2 ^ 24 < 100 * m.pinc.toNat)
     else decide (c.intv < 100))

/-- Why a trigger is refused, the first of STATE, CAL, BUSY, LATE, PHASE, RATE that holds (R129). -/
def refusal (d : Dev) (c : ConvCfg) (phaseCmp late : Bool) : Option Fld :=
  if !d.inMeasure then some F.CONV_MISSC_STATE
  else if d.bit F.CAL_STAT_RUN then some F.CONV_MISSC_CAL
  else if d.conv.infl then some F.CONV_MISSC_BUSY
  else if late then some F.CONV_MISSC_LATE
  else if (c.unit || phaseCmp) && !d.plock then some F.CONV_MISSC_PHASE
  else if d.rateTooShort c then some F.CONV_MISSC_RATE
  else none

/-- `ftot` of R118: the source's fine part, CONV_DLY.FINE, and CONV_FADJ.FRAC while it is valid (R123). -/
def ftot (d : Dev) (fs : Nat) : Nat :=
  fs + d.get0 F.CONV_DLY_FINE + (if d.bit F.CONV_FADJ_VALID then d.get F.CONV_FADJ_FRAC else 0)

/-- The ticks from the trigger event to the first sampling instant (R118). -/
def delayTo (d : Dev) (fs : Nat) : Nat := 23 + d.get0 F.CONV_DLY_COARSE + d.ftot fs / 32

/-- A sweep is accepted: the trigger event fell `ago` cycles before this one with fine part `fs`; `learnt` is the cycle in which the
device learnt its first instant (R118, R121). The engine of a one-shot source disarms in `hwTrigger`. -/
def acceptSweep (d : Dev) (c : ConvCfg) (fs learnt ago : Nat) (phaseCmp software : Bool) : Dev :=
  let dly := d.delayTo fs - ago
  let fine := d.ftot fs % 32
  let hold := d.cycle + dly
  let tick := (d.now + dly) % 2 ^ 48
  let nominal := tick * 32 + fine - (if d.bit F.CONV_FADJ_VALID then d.get F.CONV_FADJ_FRAC else 0)
  let base := match d.tim.model with
    | none => 0
    | some m => m.exact nominal
  let late := decide (hold < learnt + d.qlead)
  let d := if d.bit F.CONV_AUXCTL_RESTART then d.put F.CONV_AUXCTL_POS 0 else d
  let d := (d.put F.CONV_TSL_TICKL tick).event 8 1
  { d with conv := { d.conv with
      infl := true, stopReq := false, noMore := false, idx := 0, cfg := c, phaseBased := c.unit || phaseCmp, software := software,
      acceptedAt := d.cycle, fine := fine, next := hold, lastHold := none, base := base, late := late,
      tsh := BitVec.ofNat 32 (fine * 65536 + tick / 2 ^ 32) } }

/-- A software launch, by CONV_CMD.GO or MEAS GO (R115): the cause of its refusal, and the device afterwards. -/
def softwareTrigger (d : Dev) : Option Fld × Dev :=
  let c := d.sweepCfg
  match d.refusal c false false with
  | some f => (some f, d.missTrigger f)
  | none => (none, d.acceptSweep c 0 (d.cycle + 1) 0 false true)

/-- A hardware event of the selected source, `ago` cycles ago (R115, R116). With ONESHOT = 1 it is ignored while the engine is unarmed, and its
acceptance disarms the engine. It wins against a software launch of the same cycle, which is then refused with BUSY (R131). -/
def hwTrigger (d : Dev) (fs learnt ago : Nat) (phaseCmp late : Bool) : Dev :=
  let oneshot := d.get0 F.CONV_TRIG_ONESHOT == 1
  if oneshot && !d.conv.armed then d
  else
    let c := d.sweepCfg
    let coincident := d.conv.infl && d.conv.software && d.conv.acceptedAt == d.cycle
    let d := if coincident then ({ d with conv := { d.conv with infl := false } }).missTrigger F.CONV_MISSC_BUSY else d
    match d.refusal c phaseCmp late with
    | some f => d.missTrigger f
    | none =>
      let d := d.acceptSweep c fs learnt ago phaseCmp false
      if oneshot then { d with conv := { d.conv with armed := false } } else d

/-- A compare of kind `src` (1 timebase, 2 phase), unit `n`, drives the sweep trigger if CONV_TRIG selects it (R115, R221). -/
def compareTrigger (d : Dev) (src n fs learnt : Nat) : Dev :=
  if d.get0 F.CONV_TRIG_SRC == src && d.get0 F.CONV_TRIG_CMP == n then d.hwTrigger fs learnt 0 (src == 2) false else d

/-- A STOP: the instant in acquisition, or else the next one, is the last of the sweep (R110). -/
def stopSweep (d : Dev) : Dev :=
  if !d.conv.infl then d
  else
    let inAcq := d.conv.instants.any (fun i => !i.injected && decide (d.cycle ≤ i.hold))
    if inAcq then
      { d with conv := { d.conv with
          stopReq := true, noMore := true,
          instants := d.conv.instants.map (fun i => if !i.injected && decide (d.cycle ≤ i.hold) then { i with last := true } else i) } }
    else { d with conv := { d.conv with stopReq := true } }

/-- The discard of sweep work (R49): no further hold edge, not even one of this cycle; conversions already held complete; the
engine disarms; every open accumulation is marked discarded, and a pending or running injection publishes nothing. -/
def discardSweeps (d : Dev) : Dev :=
  let mark (a : Accum) : Accum := if a.isOpen then { a with discarded := true } else a
  let markD (w : Drawer) : Drawer :=
    { w with work := mark w.work, closed := w.closed.map (fun c => (c.1, { c.2 with discarded := true })) }
  { d with
    conv := { d.conv with infl := false, armed := false, stopReq := false, noMore := false,
                          instants := d.conv.instants.filter (fun i => !i.injected && decide (i.hold < d.cycle)) }
    inj := { d.inj with pend := false, run := false }
    drawers := d.drawers.map markD
    excs := d.excs.map markD }

/-- The injection that occupies the converters around a hold edge: a scheduled instant whose acquisition or hold edge falls
inside the occupancy is dropped on the injected channels (R126). -/
def injectionOverlaps (j : Injection) (hold : Nat) : Bool :=
  (j.pend || j.run) && decide (j.hold ≤ hold + 20) && decide (hold ≤ j.hold + 100)

/-- The device outside an injection's and a sweep's way: `n` channels of an instant lost to an injection (R126). -/
def popcount (w : Word) : Nat := (List.range 32).foldl (fun a i => a + (w.getLsbD i).toNat) 0

/-- The time of instant `k` of the sweep in flight: its hold edge in system cycles, and its fine part (R109, R112). -/
def instantAt (d : Dev) (k prevHold : Nat) : Nat × Nat :=
  let v := d.conv
  if v.cfg.unit then
    match d.tim.model with
    | none => (prevHold + v.cfg.intv, v.fine)
    | some m =>
      let t := m.reachedExact (v.base + (k : Int) * v.cfg.intv * 2 ^ 29)
      let frac := if d.bit F.CONV_FADJ_VALID then d.get F.CONV_FADJ_FRAC else 0
      let t := (t + frac) % 2 ^ 53
      ((d.cycle + (wrapDiff 53 (t / 32 * 32) (d.now * 32)) / 32).toNat, t % 32)
  else (prevHold + v.cfg.intv, v.fine)

end Dev

end Sys2Proof.Machine
end

