-- ==== Sys2Proof/Machine/DrawerOps.lean ====
section
/-!
DEFINITION. What a drawer does with its samples, when and how its result appears, and the trackers
(04_drawers_trackers.md).
-/

namespace Sys2Proof.Machine

/-- The first quarter of COSTAB: round(32,767 × cos(2π j / 256)) for j = 0 to 64 (R165). -/
def cosQuarter : List Nat :=
  [32767, 32757, 32728, 32678, 32609, 32521, 32412, 32285, 32137, 31971, 31785, 31580, 31356, 31113, 30852,
   30571, 30273, 29956, 29621, 29268, 28898, 28510, 28105, 27683, 27245, 26790, 26319, 25832, 25329, 24811,
   24279, 23731, 23170, 22594, 22005, 21403, 20787, 20159, 19519, 18868, 18204, 17530, 16846, 16151, 15446,
   14732, 14010, 13279, 12539, 11793, 11039, 10278, 9512, 8739, 7962, 7179, 6393, 5602, 4808, 4011, 3212,
   2410, 1608, 804, 0]

/-- COSTAB of R165, by the symmetry of the cosine. -/
def cosTab (j : Nat) : Int :=
  let j := j % 256
  if j ≤ 64 then (nth cosQuarter j 0 : Nat)
  else if j ≤ 128 then -((nth cosQuarter (128 - j) 0 : Nat) : Int)
  else if j ≤ 192 then -((nth cosQuarter (j - 128) 0 : Nat) : Int)
  else (nth cosQuarter (256 - j) 0 : Nat)

/-- SINTAB of R165: the cosine a quarter turn later. -/
def sinTab (j : Nat) : Int := cosTab (j + 192)

/-- The index into the tables for harmonic `h` at angle `theta` (R165); harmonic 0 is treated as 1. -/
def iqIndex (h theta : Nat) : Nat :=
  let h := if h = 0 then 1 else h
  (((h * theta) % 65536 + 128) / 256) % 256

/-- The phase source of a PSRC value: 0 the phase counter, 1 to 4 a shelf's generator; 5 to 7 are treated as 0 (R163). -/
def psrcOf (v : Nat) : Nat := if 5 ≤ v then 0 else v

/-- N of a SUM drawer for a K value: 2^K, with 0 treated as 1 and 9 to 15 as 8 (R157). -/
def sumLength (k : Nat) : Nat := 2 ^ (if k = 0 then 1 else min k 8)

/-- The result of a SUM drawer: the sum shifted right arithmetically by SHIFT with rounding, SHIFT values of 9 to 15 treated as
8 (R157). -/
def sumResult (sum : Int) (shift : Nat) : Int :=
  let s := min shift 8
  if s = 0 then sum else (sum + 2 ^ (s - 1)).fdiv (2 ^ s)

/-- The marks of nothing yet. -/
def Marks.none : Marks := ⟨false, false, false, false, false, false, false, false⟩

/-- An accumulation that holds nothing. -/
def Accum.empty : Accum := ⟨false, 0, 0, 0, 0, Marks.none, 0, 0, false, 0⟩

/-- What one sample brings into an accumulation: its value, the marks it carries, the validity of its phase source, the phase at
its hold edge, its calibration generation, whether calibration was stale, and for an excitation accumulator its lag. -/
structure Entry where
  x : Int
  range : Bool
  diag : Bool
  qshort : Bool
  balact : Bool
  stale : Bool
  phOk : Bool
  phase : Word
  cgen : BitVec 4
  lag : Nat
  deriving DecidableEq, Repr

/-- An accumulation with the marks of one more sample, and the values that its first sample fixes (R173). -/
def Accum.mark (w : Accum) (e : Entry) : Accum :=
  let first := w.cnt == 0
  { w with
    isOpen := true
    marks :=
      { range := w.marks.range || e.range, diag := w.marks.diag || e.diag, qshort := w.marks.qshort || e.qshort,
        balact := w.marks.balact || e.balact, sat := w.marks.sat, cstale := w.marks.cstale || e.stale,
        cmix := w.marks.cmix || (!first && e.cgen != w.cgen), phvLost := w.marks.phvLost || !e.phOk }
    ph0 := if first then e.phase else w.ph0
    cgen := if first then e.cgen else w.cgen
    lag := w.lag + e.lag }

/-- A sample enters a SUM accumulation (R157). -/
def Accum.addSum (w : Accum) (e : Entry) : Accum := { w.mark e with a := w.a + e.x, cnt := w.cnt + 1 }

/-- A sample enters a WINDOW accumulation; at a full count it is not added and SAT is set (R162). -/
def Accum.addWindow (w : Accum) (e : Entry) : Accum :=
  if w.cnt = 16777215 then { w with marks := { w.marks with sat := true } }
  else { w.mark e with a := w.a + e.x, cnt := w.cnt + 1 }

/-- A sample enters an IQ accumulation at harmonic `h` (R165). -/
def Accum.addIq (w : Accum) (e : Entry) (h : Nat) : Accum :=
  if w.cnt = 16777215 then { w with marks := { w.marks with sat := true } }
  else
    let j := iqIndex h (e.phase.toNat % 65536)
    { w.mark e with
      a := w.a + roundHalfAway (e.x * cosTab j) 32768, b := w.b + roundHalfAway (e.x * sinTab j) 32768, cnt := w.cnt + 1 }

/-- The result of nothing: the words of the visible buffer and of the snapshot at reset (R170). -/
def Result.zero : Result :=
  ⟨0, 0, 0, false, false, false, false, false, false, false, false, false, false, false, false, 0, 0, 0, 0, 0, 0⟩

/-- The status word of a result (R188). -/
def Result.status (r : Result) : Word :=
  let b (x : Bool) (i : Nat) : Nat := x.toNat * 2 ^ i
  BitVec.ofNat 32 (r.seq.toNat * 2 ^ 24 + r.dgen.toNat * 2 ^ 16 + r.cgen.toNat * 2 ^ 12 + b r.cmix 11 + b r.cstale 10 + b r.phv 9 +
    b r.gap 8 + b r.balact 7 + b r.qshort 6 + b r.diag 5 + b r.range 4 + b r.sat 3 + b r.valid 2 + b r.lost 1 + b r.isNew 0)

/-- Word `i` of a result, 0 to 4: A low, B low, the high parts with GAPS (or, for a shelf, XLAG), the count, the phase (R189). -/
def Result.word (r : Result) (shelf : Bool) (i : Nat) : Word :=
  match i with
  | 0 => r.a.truncate 32
  | 1 => r.b.truncate 32
  | 2 => BitVec.ofNat 32 (r.a.toNat / 2 ^ 32 * 2 ^ 24 + r.b.toNat / 2 ^ 32 * 2 ^ 16 +
      (if shelf then r.xlag.toNat else r.gaps.toNat * 2 ^ 8))
  | 3 => BitVec.ofNat 32 r.cnt.toNat
  | _ => r.ph0

/-- The result that a completed accumulation gives (R168, R172, R173): `mode` 1 SUM, 2 WINDOW, 3 IQ; the sequence number is one
more than the last, LOST is set when the last was still NEW. A window of fewer than two samples publishes sums of 0 (R26). -/
def Accum.result (w : Accum) (mode shift : Nat) (gen : BitVec 8) (old : Result) : Result :=
  let few := mode != 1 && decide (w.cnt < 2)
  { seq := old.seq + 1, dgen := gen, cgen := w.cgen, cmix := w.marks.cmix, cstale := w.marks.cstale,
    phv := !w.marks.phvLost, gap := w.gaps != 0, balact := w.marks.balact, qshort := w.marks.qshort, diag := w.marks.diag,
    range := w.marks.range, sat := w.marks.sat, valid := true, lost := old.isNew, isNew := true,
    a := if few then 0 else BitVec.ofInt 40 (if mode = 1 then sumResult w.a shift else w.a),
    b := if few then 0 else BitVec.ofInt 40 (if mode = 1 then w.a else w.b),
    gaps := BitVec.ofNat 8 (min w.gaps 255), cnt := BitVec.ofNat 24 w.cnt, ph0 := w.ph0,
    xlag := BitVec.ofNat 16 (if w.cnt = 0 then 0 else (2 * w.lag + w.cnt) / (2 * w.cnt)) }

/-- A drawer as it stands at reset. -/
def Drawer.reset : Drawer := ⟨Accum.empty, none, 0, Result.zero, Result.zero, none⟩

/-- A tracker as it stands at reset and after a clear (R179). -/
def Tracker.reset : Tracker := ⟨0, 0, 0, 0, 0, 0, 0⟩

/-- A sample enters tracker A (R177); the count saturates. -/
def Tracker.addA (t : Tracker) (x : Int) : Tracker :=
  if t.acnt = 0 then { t with amin := x, amax := x, acnt := 1 }
  else { t with amin := min t.amin x, amax := max t.amax x, acnt := min (t.acnt + 1) 65535 }

/-- A result enters tracker B (R178); the count saturates. -/
def Tracker.addB (t : Tracker) (x : Int) : Tracker :=
  if t.bcnt = 0 then { t with bmin := x, bmax := x, bcnt := 1 }
  else { t with bmin := min t.bmin x, bmax := max t.bmax x, bcnt := min (t.bcnt + 1) 65535 }

/-- The group of a channel: 0 cells, 1 current, 2 auxiliary. -/
def groupOf (ch : Nat) : Nat := if ch < 32 then 0 else ch - 31

namespace Dev

/-- Drawer `n` of channel `ch`. -/
def drawer (d : Dev) (ch n : Nat) : Drawer := nth d.drawers (ch * 4 + n) Drawer.reset

/-- The device with one drawer replaced. -/
def setDrawer (d : Dev) (ch n : Nat) (w : Drawer) : Dev := { d with drawers := upd d.drawers (ch * 4 + n) (fun _ => w) }

/-- The excitation accumulator of shelf `k` (R184). -/
def exc (d : Dev) (k : Nat) : Drawer := nth d.excs k Drawer.reset

/-- The device with one excitation accumulator replaced. -/
def setExc (d : Dev) (k : Nat) (w : Drawer) : Dev := { d with excs := upd d.excs k (fun _ => w) }

/-- Drawer `n` runs on a channel: its mode is not OFF, and for a cell its bit of ACC_DCHEN is set (R151). -/
def drawerRuns (d : Dev) (ch n : Nat) : Bool :=
  d.get (F.ACC_DCFG_MODE (groupOf ch) n) != 0 && (decide (32 ≤ ch) || d.bitAt (F.ACC_DCHEN_CELL n) ch)

/-- A phase source is valid: the phase counter while PLOCK = 1, a generator while its excitation runs and has not reached its last
period's end (R163, R424). -/
def psrcValid (d : Dev) (src : Nat) : Bool :=
  if src = 0 then d.plock
  else
    let w := nth d.bal.shelves (src - 1) Shelf.reset
    w.xrunning && (w.nper == 0 || decide (w.xperiods < w.nper))

/-- The excitation accumulators that follow drawer `n` of channel `ch`: enabled, set to that drawer, their shelf's cell (R184). -/
def followers (d : Dev) (ch n : Nat) : List Nat :=
  (List.range 4).filter (fun k =>
    decide (ch < 32) && d.bit ⟨R.ACC_XCFG, 8 * k + 2, 1⟩ && d.get ⟨R.ACC_XCFG, 8 * k, 2⟩ == n &&
      (nth d.bal.shelves k Shelf.reset).sel == some ch)

/-- The mark and the interrupt of a saturated result (R162, R194). -/
def satFlag (d : Dev) (ch : Nat) (sat : Bool) : Dev :=
  if !sat then d
  else if ch < 32 then d.flagBits F.ACC_SATF_CELL (2 ^ ch)
  else if ch = 32 then d.flag F.ACC_SATX_CUR
  else d.flag F.ACC_SATX_AUX

/-- A completed accumulation publishes, or, marked discarded, is withheld (R168, R174). The visible buffer of before is kept for a
read or a DRAW of the same cycle (R186). Drawer 0 in SUM mode also enters tracker B (R178). -/
def publish (d : Dev) (ch n : Nat) (w : Accum) : Dev :=
  if w.discarded then d.count F.ACC_WHELD_CNT 1
  else
    let g := groupOf ch
    let mode := d.get (F.ACC_DCFG_MODE g n)
    let dr := d.drawer ch n
    let r := w.result mode (d.get (F.ACC_DCFG_SHIFT g n)) d.flt.gen dr.vis
    let d := d.setDrawer ch n { dr with vis := r, before := some (dr.before.getD dr.vis) }
    let d := if mode = 1 && n = 0 then { d with trk := upd d.trk ch (·.addB r.a.toInt) } else d
    let d := { d with pub0 := if n = 0 && mode = 1 then d.pub0 ++ [ch] else d.pub0 }
    ((d.satFlag ch r.sat).irq (if n = 0 then 2 else 3)).event 11 1

/-- An excitation accumulator publishes in the cycle of the drawer it follows, with that drawer's SEQ (R184). -/
def publishExc (d : Dev) (k : Nat) (w : Accum) (seq : BitVec 8) : Dev :=
  if w.discarded then d
  else
    let dr := d.exc k
    let r := { w.result 3 0 d.flt.gen dr.vis with seq := seq }
    ((d.setExc k { dr with vis := r, before := some (dr.before.getD dr.vis) }).irq 3).event 11 1

/-- The net current from the cell terminal into the board through tap `j`, in 100 µA, summed over the shelves that switched at
the hold edge (R176): a shelf charging cell `c` with current I gives J(c + 1) = -I and J(c) = I. -/
def tapCurrent (cur : List (Bool × Nat × Int × Nat)) (j : Nat) : Int :=
  cur.foldl (fun s (sw, c, i, _) => if !sw then s else if j = c + 1 then s - i else if j = c then s + i else s) 0

/-- The correction of a cell sample taken while a shelf switches, in codes: the tap voltages in nV over 312.5 µV (R176). -/
def tapCorrection (d : Dev) (cur : List (Bool × Nat × Int × Nat)) (cell : Nat) : Int :=
  let nv := tapCurrent cur (cell + 1) * d.get (F.BAL_TAPRES_RT (cell + 1)) - tapCurrent cur cell * d.get (F.BAL_TAPRES_RT cell)
  roundHalfAway nv 312500

/-- The code that enters the drawers, whether it was out of range, and whether it was corrected for balancing (R74, R156, R564,
R176). -/
def sampleCode (d : Dev) (s : Sample) (cur : List (Bool × Nat × Int × Nat)) : Int × Bool × Bool × Bool :=
  let ch := s.ch.val
  let (lo, hi) : Int × Int := if ch = 32 then (-8192, 8191) else (0, 16383)
  let c := d.calCode ch s.raw
  let ovr := s.overRange || decide (hi < c)
  let undr := s.underRange || decide (c < lo)
  let c := if s.overRange then hi else if s.underRange then lo else clampInt lo hi c
  let bal := decide (ch < 32) && cur.any (·.1)
  (if bal then clampInt lo hi (c + d.tapCorrection cur ch) else c, ovr, undr, bal)

/-- The sticky range flags of a sample (R108, R148). -/
def rangeFlags (d : Dev) (ch : Nat) (ovr undr : Bool) : Dev :=
  if ch < 32 then
    let d := if ovr then d.flagBits F.CONV_ORF_CELL (2 ^ ch) else d
    if undr then d.flagBits F.CONV_URF_CELL (2 ^ ch) else d
  else if ovr || undr then d.flag (if ch = 32 then F.CONV_RNGX_CUR else F.CONV_RNGX_AUX)
  else d

/-- The phase and the validity that a sample has for a drawer of phase source `src` (R165, R172). -/
def phaseOf (e : HoldEnv) (src : Nat) : Bool × Word :=
  if src = 0 then (e.phaseOk, e.phase) else nth e.exc (src - 1) (false, 0)

/-- A sample enters one drawer (R152 to R165), with the excitation accumulators that follow it. The auxiliary samples that the diagnostic
engine injects enter its drawer whatever the drawer's SLOT (R524, R525). -/
def enterDrawer (d : Dev) (i : Instant) (env : HoldEnv) (ch n : Nat) (x : Int) (range diag bal : Bool) : Dev :=
  let g := groupOf ch
  let mode := d.get (F.ACC_DCFG_MODE g n)
  let takes := d.drawerRuns ch n &&
    (if i.injected then n == i.drawer else d.get (F.ACC_DCFG_SWP g n) == 1) &&
    (ch != 33 || d.get (F.ACC_DCFG_SLOT 2 n) == i.slot || (i.injected && d.inj.fromDiag))
  if i.injected && n == i.drawer && mode != 1 then d.flag F.ACC_STAT_INJERR
  else if !takes then d
  else
    let src := psrcOf (d.get (F.ACC_DCFG_PSRC g n))
    let (ok, ph) := if mode = 1 then (!(i.phaseBased && !env.phaseOk), env.phase) else phaseOf env src
    let e : Entry := ⟨x, range, diag, i.qshort, bal, env.stale, ok, ph, env.cgen, 0⟩
    let dr := d.drawer ch n
    if mode = 1 then
      let w := dr.work.addSum e
      if sumLength (d.get (F.ACC_DCFG_K g n)) ≤ w.cnt then (d.setDrawer ch n { dr with work := Accum.empty }).publish ch n w
      else d.setDrawer ch n { dr with work := w }
    else
      let h := d.get (F.ACC_DCFG_H g n)
      let add (w : Accum) (e : Entry) : Accum := if mode = 2 then w.addWindow e else w.addIq e h
      let inClosed := match dr.closed with
        | some (tb, _) => decide (i.hold * 32 + i.fine < tb)
        | none => false
      let put (dr : Drawer) (e : Entry) : Drawer :=
        match dr.closed with
        | some (tb, w) =>
          if inClosed then { dr with closed := some (tb, add w e) }
          else if dr.work.isOpen then { dr with work := add dr.work e } else dr
        | none => if dr.work.isOpen then { dr with work := add dr.work e } else dr
      let d := d.setDrawer ch n (put dr e)
      (d.followers ch n).foldl (fun d k =>
        let (_, _, cur, lag) := nth env.cur k (false, 0, 0, 0)
        let w := d.exc k
        let e := { e with x := cur, lag := lag }
        d.setExc k (match w.closed with
          | some (tb, c) => if inClosed then { w with closed := some (tb, c.addIq e h) } else { w with work := if w.work.isOpen then w.work.addIq e h else w.work }
          | none => { w with work := if w.work.isOpen then w.work.addIq e h else w.work })) d

/-- A missed instant counts in GAPS of the drawers of a channel that should have received it (R112, R126, R154, R159). -/
def gapDrawers (d : Dev) (ch slot : Nat) : Dev :=
  (List.range 4).foldl (fun d n =>
    if d.drawerRuns ch n && d.get (F.ACC_DCFG_SWP (groupOf ch) n) == 1 && (ch != 33 || d.get (F.ACC_DCFG_SLOT 2 n) == slot) then
      let dr := d.drawer ch n
      d.setDrawer ch n { dr with work := { dr.work with gaps := min (dr.work.gaps + 1) 255 } }
    else d) d

/-- A sample enters the drawers and tracker A of its channel (R105, R152, R155, R177); the die-temperature slot gives TNOW (R574). -/
def enterSample (d : Dev) (i : Instant) (env : HoldEnv) (s : Sample) : Dev :=
  let ch := s.ch.val
  let (x, ovr, undr, bal) := d.sampleCode s env.cur
  let diag := if ch < 32 then i.diagCells.getLsbD ch else if ch = 32 then i.diagCur else decide (11 ≤ i.slot)
  let d := d.rangeFlags ch ovr undr
  let d := if ch = 33 && i.slot = 8 then d.setTnow (dieTemp x) else d
  let d := (List.range 4).foldl (fun d n => d.enterDrawer i env ch n x (ovr || undr) diag bal) d
  let tracked := !i.injected && (!diag || d.bit F.ACC_CTL_TRKDIAG) && (ch != 33 || d.get F.ACC_CTL_TASLOT == i.slot)
  if tracked then { d with trk := upd d.trk ch (·.addA x) } else d

/-- The windows whose boundary has passed publish once no sample held before the boundary is still converting (R161, R168). -/
def publishClosed (d : Dev) (ch n : Nat) : Dev :=
  match (d.drawer ch n).closed with
  | none => d
  | some (tb, w) =>
    let samples (i : Instant) : Bool := if ch < 32 then i.cells.getLsbD ch else if ch = 32 then i.cur else i.aux
    if d.conv.instants.any (fun i => samples i && decide (i.hold * 32 + i.fine < tb)) then d
    else
      let d := (d.setDrawer ch n { d.drawer ch n with closed := none }).publish ch n w
      (d.followers ch n).foldl (fun d k =>
        match (d.exc k).closed with
        | none => d
        | some (_, c) => (d.setExc k { d.exc k with closed := none }).publishExc k c (d.drawer ch n).vis.seq) d

/-- Every closed window that is ready publishes. -/
def publishAllClosed (d : Dev) : Dev :=
  (List.range 136).foldl (fun d i => if (nth d.drawers i Drawer.reset).closed.isSome then d.publishClosed (i / 4) (i % 4) else d) d

/-- A period boundary at `tb` (1/32 ticks of system cycles) for one drawer that follows source `src`: the open window counts one
period and at its last closes, and while the source is valid the next one opens (R160, R161, R164). -/
def boundaryAt (d : Dev) (src tb ch n : Nat) : Dev :=
  let g := groupOf ch
  let m := d.get (F.ACC_DPAR_M g n)
  let m := if m = 0 then 1 else m
  let dr := d.drawer ch n
  let isLast := dr.work.isOpen && decide (dr.periodsLeft ≤ 1)
  let opens := (isLast || !dr.work.isOpen) && d.psrcValid src
  let fresh : Accum := { Accum.empty with isOpen := opens }
  let step (w : Drawer) : Drawer :=
    if isLast then { w with closed := some (tb, w.work), work := fresh, periodsLeft := m }
    else if w.work.isOpen then { w with periodsLeft := w.periodsLeft - 1 }
    else { w with work := { fresh with gaps := if opens then 0 else w.work.gaps }, periodsLeft := m }
  let fol := d.followers ch n
  let d := d.setDrawer ch n (step dr)
  fol.foldl (fun d k => d.setExc k (
    let w := d.exc k
    if isLast then { w with closed := if w.work.isOpen then some (tb, w.work) else none, work := fresh }
    else if w.work.isOpen then w else { w with work := fresh })) d

/-- A period boundary of phase source `src`, for every WINDOW or IQ drawer that follows it (R161). -/
def phaseBoundary (d : Dev) (src tb : Nat) : Dev :=
  let d := (List.range 136).foldl (fun d i =>
    let ch := i / 4
    let n := i % 4
    let g := groupOf ch
    if d.drawerRuns ch n && decide (2 ≤ d.get (F.ACC_DCFG_MODE g n)) && psrcOf (d.get (F.ACC_DCFG_PSRC g n)) == src then
      d.boundaryAt src tb ch n
    else d) d
  d.publishAllClosed

/-- A drawer's open accumulations are dropped without publication and without a discard mark (R175); one already closed
stands. -/
def dropDrawer (d : Dev) (ch n : Nat) : Dev :=
  let dr := d.drawer ch n
  d.setDrawer ch n { dr with work := Accum.empty, periodsLeft := 0 }

/-- The windows open on the excitation of shelf `k` are dropped, and XDROP says so (R164). -/
def dropExcWindows (d : Dev) (k : Nat) : Dev :=
  let follows (i : Nat) : Bool :=
    d.drawerRuns (i / 4) (i % 4) && decide (2 ≤ d.get (F.ACC_DCFG_MODE (groupOf (i / 4)) (i % 4))) &&
      psrcOf (d.get (F.ACC_DCFG_PSRC (groupOf (i / 4)) (i % 4))) == k + 1 && (nth d.drawers i Drawer.reset).work.isOpen
  let l := (List.range 136).filter follows
  if l.isEmpty then d
  else
    let d := l.foldl (fun d i => d.dropDrawer (i / 4) (i % 4)) d
    (d.setExc k { d.exc k with work := Accum.empty }).flagBits F.ACC_STAT_XDROP (2 ^ k)

/-- The auxiliary slot that the next instant converts, and the sequence one entry on (R114). -/
def nextSlot (d : Dev) (c : ConvCfg) : Nat × Dev :=
  let pos := d.get F.CONV_AUXCTL_POS
  (auxEntry c.auxSeq pos, d.put F.CONV_AUXCTL_POS (if c.auxLen ≤ pos then 0 else pos + 1))

end Dev

end Sys2Proof.Machine
end

