-- ==== Sys2Proof/Machine/BalOps.lean ====
section
/-!
DEFINITION. The shelf converters (10_settle_balancing.md): the acceptance and the end of transfers and excitations, the counting of
switching cycles, bus pacing, quiet windows, and the ownership of balancing.
-/

namespace Sys2Proof.Machine

namespace Shelf

/-- The setpoint of a cycle at generator angle `angle` (2^-24 phase unit), in mA, positive into the cell (R419), with the cosine of
COSTAB. -/
def setpointAt (w : Shelf) (angle : Nat) : Int :=
  w.ofs + roundHalfAway ((w.amp : Int) * cosTab ((angle / 2 ^ 32) % 256)) 32767

/-- A cycle may be in progress: the shelf runs and nothing pauses it (R406). -/
def inCycle (w : Shelf) : Bool := w.phase == .running && !w.paused && !w.quiet && (!w.xmode || w.xrunning)

/-- BAL_SHSTAT.STATE (R437). -/
def state (w : Shelf) : Nat :=
  if !w.act then (if w.faulted then 5 else 0)
  else match w.phase with
    | .idle => 0
    | .deselecting => 0
    | .selecting => 1
    | .running => if w.paused then 3 else 2
    | .stopping => 4

/-- The converter parts are fitted, by the setting that the work took at its acceptance (R396, R437). -/
def fit (w : Shelf) : Bool := w.shcfg.getLsbD 31

/-- SELHOLD of the work in system cycles (R404, R437). -/
def hold (w : Shelf) : Nat := bitsOf w.shlim.toNat 12 4 * 100000

end Shelf

namespace Dev

/-- Shelf `k`. -/
def shelf (d : Dev) (k : Nat) : Shelf := nth d.bal.shelves k Shelf.reset

/-- The device with shelf `k` replaced by `f` of it. -/
def setShelf (d : Dev) (k : Nat) (f : Shelf → Shelf) : Dev := { d with bal := { d.bal with shelves := upd d.bal.shelves k f } }

/-- The information word of a BAL fault on shelf `k` (R499). -/
def balInfo (d : Dev) (k : Nat) : Word := BitVec.ofNat 32 (k * 32 + (d.shelf k).cell % 32)

/-- The work on shelf `k` ends with an END code (R404 steps 7 and 8, R406): the delivered charge stays, the selection holds or, after
DISCARD and OWNER, turns off, the windows open on an excitation that ends otherwise than by XEND are dropped (R424), and line 9
posts. -/
def finishWork (d : Dev) (k code : Nat) : Dev :=
  let w := d.shelf k
  let off := code == 5 || code == 6
  let d := d.setShelf k (fun w => { w with
    phase := .idle, act := false, paused := false, xrunning := false, endCause := 0, errRun := 0, overRun := 0
    sel := if off then none else w.sel
    holdUntil := if off || w.sel.isNone then none else some (d.cycle + w.hold) })
  let d := if w.xrunning && code != 7 then d.dropExcWindows k else d
  let d := d.put (F.BAL_SHSTAT_END k) code
  let d := if w.xmode then d.flagBits F.BAL_EVT_XEND (2 ^ k) else d
  (d.flagBits (if code = 1 then F.BAL_EVT_DONE else F.BAL_EVT_END) (2 ^ k)).irq 9

/-- An end cause meets shelf `k` (R406, R407): a cycle in progress completes first, so that its charge may still deliver; else the work
ends now. The first cause stands. -/
def endWork (d : Dev) (k code : Nat) : Dev :=
  let w := d.shelf k
  if !w.act || w.phase == .stopping then d
  else if w.inCycle then d.setShelf k (fun w => { w with phase := .stopping, endCause := code })
  else d.finishWork k code

/-- An end cause meets every shelf. -/
def endAll (d : Dev) (code : Nat) : Dev := (List.range 4).foldl (fun d k => d.endWork k code) d

/-- A SEL pin still on after its work turns off (R404 step 8, R425, R431). -/
def selOff (d : Dev) (k : Nat) : Dev :=
  if (d.shelf k).act then d else d.setShelf k (fun w => { w with sel := none, holdUntil := none })

/-- Balancing changes its owner (R425): the work of a device that gives it up ends with OWNER and its SEL pins turn off (R427, R429). -/
def setOwner (d : Dev) (v : Nat) : Dev :=
  let old := d.get F.BAL_STAT_OWNER
  if old = v then d
  else
    let d := d.put F.BAL_STAT_OWNER v
    let d := if old = 1 then (List.range 4).foldl (fun d k => d.selOff k) (d.endAll 5) else d
    (d.flag F.BAL_EVT_HO).irq 9

/-- An unacknowledged fault of L2 or L3 (R282, R511). -/
def highFault (d : Dev) : Bool := (d.flt.first.drop 2).any (·.valid)

/-- The causes 1 to 8 of R282 for new work on a cell of shelf `k`, the first that applies; BUS is judged for transfers toward the bus
only. -/
def balCause (d : Dev) (k cell : Nat) (toBus : Bool) : Option Nat :=
  if !d.inMeasure then some 1
  else if d.isHead then some 2
  else if d.get F.BAL_STAT_OWNER != 1 || d.bal.handing then some 3
  else if (d.shelf k).faulted || d.highFault then some 4
  else if d.power.tempStop then some 5
  else if !d.bitAt F.CONV_CHEN_CELL cell then some 6
  else if toBus && d.bal.busHigh then some 7
  else if (d.shelf k).act then some 8
  else none

/-- IMAX of shelf `k` in mA (R437). -/
def imax (d : Dev) (k : Nat) : Nat := min (d.get (F.BAL_SHLIM_IMAX k)) 3000

/-- Work is accepted on shelf `k` (R404 step 1): its settings are taken, BAL_QDONE restarts, and the selection is kept or begun. -/
def acceptWork (d : Dev) (k cell : Nat) (f : Shelf → Shelf) : Dev :=
  let fit := d.bit (F.BAL_SHCFG_FIT k)
  let cfg := d.rd (R.BAL_SHCFG k)
  let lim := d.rd (R.BAL_SHLIM k)
  d.setShelf k (fun w =>
    let kept := fit && w.sel == some cell
    let other := w.sel.isSome && !kept
    f { w with
      act := true, paused := false, cell := cell, cycles := 0, qdone := 0, qpred := 0, errRun := 0, overRun := 0, endCause := 0, lastAvg := 0
      avgAt := d.cycle, lastTicks := 0, shcfg := cfg, shlim := lim, holdUntil := none
      phase := if kept then .selecting else .deselecting
      due := if kept then d.cycle + 2 else if other && fit then d.cycle + 1001 else d.cycle + 1 })

/-- A transfer command (R282, R402, R404): its cause, 0 when accepted, and the device. `write` says that it came by BAL_CMD, for which Q = 0
and a current above 3,000 mA give PARAM. -/
def balTransfer (d : Dev) (k cell : Nat) (dir : Bool) (q i : Nat) (byHearth write : Bool) : Nat × Dev :=
  match d.balCause k cell (!dir) with
  | some c => (c, d)
  | none =>
    let idef := min (d.get (F.BAL_SHLIM_IDEF k)) 3000
    if d.imax k = 0 || (i = 0 && idef = 0) || (write && (q = 0 || 3000 < i)) then (9, d)
    else
      let cur := min (if i = 0 then idef else i) (d.imax k)
      (0, d.acceptWork k cell (fun w => { w with xmode := false, dir := dir, q := q, current := cur, byHearth := byHearth }))

/-- A stop of shelf `k` (R281, R406). -/
def balStop (d : Dev) (k : Nat) : Dev := d.endWork k 2

/-- An excitation request on shelf `k` with the settings of BAL_XCTL, BAL_XFRQ and BAL_XAMP (R421, R422): its cause, 0 when accepted. -/
def excite (d : Dev) (k : Nat) (byHearth : Bool) : Nat × Dev :=
  let cell := 8 * k + d.get (F.BAL_XAMP_CELL k)
  let amp := d.get (F.BAL_XAMP_AMP k)
  let ofs := signed 13 (d.get (F.BAL_XAMP_OFS k))
  match d.balCause k cell false with
  | some c => (c, d)
  | none =>
    if d.imax k = 0 || d.imax k < amp + ofs.natAbs then (9, d)
    else
      (0, d.acceptWork k cell (fun w => { w with
        xmode := true, byHearth := byHearth, amp := amp, ofs := ofs, xinc := clampNat 5498 21990233 (d.get (F.BAL_XFRQ_XINC k)), angle := 0
        xperiods := 0, nper := d.get (F.BAL_XCTL_NPER k), startAtPcb := d.get (F.BAL_XCTL_START k) == 1
        pcb := BitVec.ofNat 16 (d.get (F.BAL_XCTL_PCB k)), xrunning := false }))

/-- The selection pair of the commanded cell turns on (R404 step 3); a shelf that is not fitted turns on nothing and raises its fault
(R396). -/
def selTurnOn (d : Dev) (k : Nat) : Dev :=
  let w := d.shelf k
  if !w.act || w.phase != .deselecting || decide (d.cycle < w.due) then d
  else if !w.fit then (d.setShelf k (fun w => { w with phase := .selecting, due := d.cycle + 15000 })).post 6 1 0x0A (d.balInfo k)
  else d.setShelf k (fun w => { w with phase := .selecting, sel := some w.cell, due := d.cycle + 15000 })

/-- Bus pacing holds shelf `k`'s transfer now (R411): an excitation never pauses. -/
def paces (d : Dev) (w : Shelf) : Bool := !w.xmode && (if w.dir then d.bal.belowVlo else d.bal.aboveVhi)

/-- A running transfer pauses, and the pause counts (R411). -/
def pauseShelf (d : Dev) (k : Nat) : Dev :=
  let w := d.shelf k
  if !w.act || w.phase != .running || w.paused || !d.paces w then d
  else
    let d := d.setShelf k (fun w => { w with paused := true })
    d.count (if w.dir then F.BAL_BUSSTAT_PLO else F.BAL_BUSSTAT_PHI) 1

/-- The mean of the latest drawer-0 result of a cell against an inferred cell voltage `vc` in codes: more than 0.5 V, 1,600 codes, apart
(R405). The mean in codes is R × 2^SHIFT / N. -/
def implausible (d : Dev) (cell vc : Nat) : Bool :=
  let r := (d.drawer cell 0).vis
  if d.get (F.ACC_DCFG_MODE 0 0) != 1 || !r.valid then false
  else
    let n : Int := sumLength (d.get (F.ACC_DCFG_K 0 0))
    let m : Int := r.a.toInt * (2 ^ min (d.get (F.ACC_DCFG_SHIFT 0 0)) 8 : Nat)
    decide (1600 * n < (m - vc * n).natAbs)

/-- The selection has settled (R404 step 4): the shelf runs and its first cycle starts, with the check of R405 on the cell voltage that
the converter infers; bus pacing may hold it at once (R411). -/
def selSettled (d : Dev) (k vc : Nat) : Dev :=
  let w := d.shelf k
  if !w.act || w.phase != .selecting || !w.fit || decide (d.cycle < w.due) then d
  else
    let d := (d.setShelf k (fun w => { w with phase := .running, due := d.cycle + 1 })).event 21 1
    let d := d.pauseShelf k
    if d.implausible w.cell vc then d.post 6 1 4 (d.balInfo k) else d

/-- The charge counts of a cycle of shelf `k`: `c` pC by the sense integrator, `p` pC by peak and conduction time (R409, R410, R531). -/
def countCharge (d : Dev) (k : Nat) (c p : Int) : Dev :=
  let w := d.shelf k
  let d := d.setShelf k (fun w => { w with qdone := w.qdone + c, qpred := w.qpred + p })
  { d with bal := { d.bal with qcell := upd d.bal.qcell w.cell (fun x =>
      let t := x.2 + c
      (clampInt (-2147483648) 2147483647 (x.1 + t.fdiv 1000000000), t.fmod 1000000000)) } }

/-- The setpoint of the cycle of shelf `k` that ends now after `ticks`, in 100 µA, positive into the cell (R399, R404, R419). -/
def cycleSetpoint (w : Shelf) (ticks : Nat) : Int :=
  let ma : Int :=
    if w.xmode then w.setpointAt ((w.angle + 2 ^ 40 - w.xinc * ticks % 2 ^ 40) % 2 ^ 40)
    else
      let c := max 30 (if w.cycles < 32 then w.current * (w.cycles + 1) / 32 else w.current)
      if w.dir then (c : Int) else -(c : Int)
  ma * 10

/-- The deviation of a cycle average from its setpoint, in 0.01 % of the setpoint, halves away from zero (R582). -/
def loopDeviation (set avg : Int) : Int :=
  if set = 0 then Config.zeroSetpointDeviation avg
  else if set < 0 then roundHalfAway ((set - avg) * 10000) (-set)
  else roundHalfAway ((avg - set) * 10000) set

/-- CAL_QLOOP of shelf `k` (R582, R587): the mean of the last 256 deviations, and the largest in 0.1 % since the last read. -/
def loopFigure (d : Dev) (k : Nat) (dev : Int) : Dev :=
  let l := (d.shelf k).devs ++ [dev]
  let l := l.drop (l.length - 256)
  let d := d.setShelf k (fun w => { w with devs := l })
  let d := d.put (F.CAL_QLOOP_MEAN k) ((clampInt (-32768) 32767 (roundHalfAway l.sum l.length)).emod 65536).toNat
  let m := max (d.get (F.CAL_QLOOP_MAX k)) (min 255 ((dev.natAbs + 5) / 10))
  { (d.put (F.CAL_QLOOP_MAX k) m) with touch := touchAt d.touch (R.CAL_QLOOP k) (d.rd (R.CAL_QLOOP k)) 0 }

/-- A switching cycle of shelf `k` ends (R398 to R401, R404, R406, R431): its average `avg` in 100 µA over `ticks` is counted, a charge
reached or a pending cause ends the work, four overcurrents or 256 cycles of loop error raise their fault. A cycle that ends inside a
quiet window marks the next instant (R414, R415). -/
def cycleEnd (d : Dev) (k : Nat) (avg : Int) (ticks : Nat) (pred : Int) (ilim overcur : Bool) : Dev :=
  let w := d.shelf k
  if !w.act || !(w.phase == .running || w.phase == .stopping) || (w.xmode && !w.xrunning) then d
  else
    let set := cycleSetpoint w ticks
    let off := !ilim && decide (63 ≤ w.cycles) && decide (set.natAbs < 10 * (avg - set).natAbs)
    let d := d.countCharge k (avg * ticks) pred
    let d := if w.xmode then (if avg = 0 then d else d.putB (F.BAL_SHSTAT_DIR k) (decide (0 < avg))) else d.putB (F.BAL_SHSTAT_DIR k) w.dir
    let d := (d.putB (F.BAL_SHSTAT_ILIM k) ilim).put (F.BAL_SHSTAT_FKHZ k) (if ticks = 0 then 0 else min 511 (100000 / ticks))
    let d := d.setShelf k (fun w => { w with
      cycles := w.cycles + 1, lastAvg := avg, avgAt := d.cycle, lastTicks := ticks
      errRun := if off then w.errRun + 1 else 0, overRun := if overcur then w.overRun + 1 else 0 })
    let d := if w.quiet then { d with bal := { d.bal with cut := true } } else d
    let d := d.loopFigure k (loopDeviation set avg)
    let d := if decide (4 ≤ (d.shelf k).overRun) then (d.post 6 1 1 (d.balInfo k)).setShelf k (fun w => { w with overRun := 0 }) else d
    let d := if decide (256 ≤ (d.shelf k).errRun) then (d.post 6 1 2 (d.balInfo k)).setShelf k (fun w => { w with errRun := 0 }) else d
    if !w.xmode && decide (w.q * 1000000000 ≤ ((d.shelf k).qdone).natAbs) then d.finishWork k 1
    else if w.phase == .stopping then d.finishWork k w.endCause
    else if w.paused || w.quiet then d
    else d.event 21 1

/-- The hold of a selection ends (R404 step 8). -/
def selHoldEnd (d : Dev) (k : Nat) : Dev :=
  match (d.shelf k).holdUntil with
  | none => d
  | some t => if d.cycle < t then d else d.selOff k

/-- An excitation starts after its selection, or at its boundary (R422): the generator restarts, its first period boundary falls now, and
its phase source is valid (R163). -/
def excStart (d : Dev) (k : Nat) : Dev :=
  let w := d.shelf k
  if !w.act || !w.xmode || w.xrunning || w.phase != .running || decide (d.cycle < w.due) ||
      (w.startAtPcb && !d.phasePassed (BitVec.ofNat 32 (w.pcb.toNat * 65536))) then d
  else
    (d.setShelf k (fun w => { w with xrunning := true, angle := 0, xperiods := 0 })).phaseBoundary (k + 1) (d.cycle * 32)

/-- The generator reaches a period boundary: at NPER periods the excitation ends with XEND (R424). -/
def excBoundary (d : Dev) (k : Nat) : Dev :=
  let w := d.shelf k
  if w.act && w.xrunning && w.phase == .running && w.nper != 0 && decide (w.nper ≤ w.xperiods) then d.finishWork k 7 else d

/-- The generators advance by one tick (R419), and a pair that another cell's work replaces turns off one tick after its acceptance (R404
step 2). -/
def balTick (d : Dev) : Dev :=
  { d with bal := { d.bal with shelves := d.bal.shelves.map (fun w =>
      let w := if w.xrunning then
          let a := w.angle + w.xinc
          { w with angle := a % 2 ^ 40, xperiods := if a < 2 ^ 40 then w.xperiods else (w.xperiods + 1) % 65536 }
        else w
      if w.phase == .deselecting && w.act && decide (w.due ≤ d.cycle + 1000) then { w with sel := none } else w) } }

/-- Every shelf that honours quiet windows stops at once, but for one that runs an excitation (R415, R423). -/
def quietNow (d : Dev) : Dev :=
  let q := d.get F.BAL_CTL_QWEN
  { d with bal := { d.bal with shelves := (d.bal.shelves.zipIdx).map (fun p =>
      if q.testBit p.2 && !p.1.xrunning then { p.1 with quiet := true } else p.1) } }

/-- A quiet window opens (R414): `cut` names the shelves whose cycle is cut, so that the samples of the instant carry QSHORT. -/
def quietOpen (d : Dev) (cut : Nat) : Dev :=
  let hit := (List.range 4).any (fun k => cut.testBit k && d.bitAt F.BAL_CTL_QWEN k && (d.shelf k).inCycle && !(d.shelf k).xrunning)
  let d := d.quietNow
  if hit then { d with bal := { d.bal with cut := true } } else d

/-- A sampling instant whose quiet window is open, or opens before a cycle of 3.333 µs could end (R414, R416): one in acquisition, the
next of the sweep in flight, or a pending injection. -/
def quietWanted (d : Dev) : Bool :=
  d.conv.instants.any (fun i => decide (d.cycle ≤ i.hold)) || (d.inj.pend && decide (d.cycle ≤ d.inj.hold)) ||
    (d.conv.infl && !d.conv.noMore && decide (d.conv.next < d.cycle + 334 + d.qlead))

/-- The quiet window closes at S + QTRAIL (R414), unless the next one merges with it (R416). -/
def quietClose (d : Dev) : Dev :=
  if decide (d.cycle < d.bal.quietUntil) || d.quietWanted then d
  else { d with bal := { d.bal with cut := false, shelves := d.bal.shelves.map (fun w => { w with quiet := false }) } }

/-- A bus comparator crosses its threshold outward (R411): the transfers of its direction pause. -/
def busPause (d : Dev) (high : Bool) : Dev :=
  let d := { d with bal := if high then { d.bal with aboveVhi := true } else { d.bal with belowVlo := true } }
  (List.range 4).foldl (fun d k => d.pauseShelf k) d

/-- VBUS returns past the threshold and its hysteresis (R411): the paused transfers of that direction resume. VHI − 0.5 V lies below
16.5 V and 18.0 V, so both high conditions have ended too (R412, R500). -/
def busResume (d : Dev) (high : Bool) : Dev :=
  let d := { d with
    bal := if high then { d.bal with aboveVhi := false, busHigh := false } else { d.bal with belowVlo := false }
    power := if high then { d.power with overV := false } else d.power }
  (List.range 4).foldl (fun d k =>
    let w := d.shelf k
    if w.paused && w.dir == !high then (d.setShelf k (fun w => { w with paused := false })).event 21 1 else d) d

/-- VBUS rises through 16.5 V (R412): every transfer toward the bus and every excitation ends with BUSHI. -/
def busHigh (d : Dev) : Dev :=
  let d := { d with bal := { d.bal with busHigh := true } }
  (List.range 4).foldl (fun d k => if (d.shelf k).xmode || !(d.shelf k).dir then d.endWork k 3 else d) d

/-- A discard of balancing work on the shelves of a mask (R48, R49): END = DISCARD. `only` limits it to the work that
the program started. -/
def discardBal (d : Dev) (mask : Nat) (only : Bool) : Dev :=
  (List.range 4).foldl (fun d k =>
    if mask.testBit k && (d.shelf k).act && (!only || (d.shelf k).byHearth) then d.endWork k 6 else d) d

end Dev

end Sys2Proof.Machine
end

