-- ==== Sys2Proof/Machine/TwinOps.lean ====
section
/-!
DEFINITION. The twin link, pairing and the cross-comparison of a pair (11_safety_architecture.md, R454 to R464, R683).
-/

namespace Sys2Proof.Machine

namespace Dev

/-- A message leaves on the twin link, 1 µs per byte with TYPE, LEN and CRC (R454), once the transmitter is on (R65). -/
def sendMsg (d : Dev) (ty : Nat) (payload : List Byte) : Dev :=
  if !d.power.twinTx then d
  else
    let t := max d.cycle d.twin.lastSent + (6 + payload.length) * 100
    ({ d with twin := { d.twin with lastSent := t } }).emit (.message (BitVec.ofNat 8 ty) payload)

/-- The twin link is UP (R456). -/
def linkUp (d : Dev) : Bool := d.get F.TWN_STAT_LINK == 2

/-- The device's address is valid and not tentative (R683). -/
def addrValid (d : Dev) : Bool := d.bit F.CHN_ADDR_VALID && !d.bit F.CHN_ADDR_TENT

/-- HEALTH byte 0: the role straps (R683). -/
def roleByte (d : Dev) : Byte := BitVec.ofNat 8 (d.isHead.toNat + 2 * d.isTwin.toNat)

/-- HEALTH byte 1: the own address (R683). -/
def addrByte (d : Dev) : Byte := BitVec.ofNat 8 (d.addr % 128 + 128 * d.addrValid.toNat)

/-- A four-bit mask over the shelves. -/
def shelfMask (d : Dev) (f : Shelf → Bool) : Nat :=
  (List.range 4).foldl (fun m k => m + (f (d.shelf k)).toNat * 2 ^ k) 0

/-- The FIT bits of the four shelves (R437). -/
def fitMask (d : Dev) : Nat := (List.range 4).foldl (fun m k => m + (d.bit (F.BAL_SHCFG_FIT k)).toNat * 2 ^ k) 0

/-- The payload of a HEALTH message (R683). -/
def healthBytes (d : Dev) : List Byte :=
  [d.roleByte, d.addrByte, BitVec.ofNat 8 (d.pstate % 8 + 8 * (d.bit F.FLT_STAT_LKO).toNat),
   BitVec.ofNat 8 (d.fitMask + 16 * d.get F.BAL_STAT_OWNER), BitVec.ofNat 8 (d.shelfMask (·.faulted) + 16 * d.highFault.toNat), 0]

/-- The payload of a PAIR message (R683). -/
def pairBytes (d : Dev) : List Byte :=
  beBytes 2 (d.get F.TWN_PAIRID_OWN) ++ [d.roleByte, d.addrByte] ++ beBytes 2 (d.get F.CHN_ADDR_KID) ++ beBytes 4 (d.now % 2 ^ 32) ++
    beBytes 4 d.twin.delay

/-- The device sends PAIR (R458): with the link UP and the log mounted, so that the pair ID is known (R457). -/
def sendPair (d : Dev) : Dev := if d.linkUp && decide (2 ≤ d.get F.LOG_STAT_MOUNT) then d.sendMsg 2 d.pairBytes else d

/-- The partner's address as it last reported it. -/
def partnerAddr (d : Dev) : Nat := d.get F.TWN_STAT_PADDR

/-- The pairing record's body (R638). -/
def pairRecord (d : Dev) (tag : BitVec 16) : Dev :=
  d.logHw 0x08 tag (beBytes 2 (d.get F.TWN_PAIRID_OWN) ++ beBytes 2 (d.get F.TWN_PAIRID_PARTNER) ++ [BitVec.ofNat 8 d.partnerAddr, 0] ++
    beBytes 2 (d.get F.CHN_ADDR_KID))

/-- The cross-comparison runs on a primary whose link is UP with PRES = MATCH and CMPEN = 1 (R460, R464); where it stops, every kept
publication is dropped (R463). DEGR holds until the next MATCH. -/
def updateCompare (d : Dev) : Dev :=
  let ok := d.linkUp && d.get F.TWN_STAT_PRES == 1
  let act := ok && !d.isHead && !d.isTwin && d.bit F.TWN_CFG_CMPEN
  let d := d.putB F.TWN_STAT_CMPACT act
  let d := if act then d else { d with twin := { d.twin with kept := [], missRun := 0, missRaised := false } }
  d.putB F.TWN_STAT_DEGR (!ok)

/-- HOAVAIL of a primary (R426): the link is UP with matching IDs, and the twin's last HEALTH shows Measure, no BAL fault, and converters on
every shelf on which the primary has them. -/
def hoAvail (d : Dev) : Bool :=
  match d.twin.health with
  | none => false
  | some h =>
    let b (i : Nat) : Nat := bitsOf h.toNat (40 - 8 * i) 8
    !d.isHead && !d.isTwin && d.linkUp && d.get F.TWN_STAT_PRES == 1 && b 2 % 8 == 2 && b 4 % 16 == 0 &&
      (b 3 % 16) &&& d.fitMask == d.fitMask

/-- The OWNER that the partner's last HEALTH reports. -/
def partnerOwns (d : Dev) : Bool :=
  match d.twin.health with
  | none => false
  | some h => bitsOf h.toNat 20 2 == 1

/-- The primary takes balancing at the pair exchange of its start-up, unless the twin reports that it owns (R429). -/
def takeAtPair (d : Dev) : Dev :=
  if d.isHead || d.isTwin || d.get F.BAL_STAT_OWNER != 0 || d.power.ownDecided then d
  else ({ d with power := { d.power with ownDecided := true } }).setOwner (if d.partnerOwns then 2 else 1)

/-- What the end of the twin link does to ownership (R429, R433): a twin that owns gives balancing up, a primary whose twin owned holds none,
and a handover in progress ends with NOAVAIL. -/
def ownerAlone (d : Dev) : Dev :=
  let d := if d.bal.handing || d.bal.returning then
      ({ d with bal := { d.bal with handing := false, returning := false, hoSent := false } }).put F.BAL_HOCTL_RES 2
    else d
  let d := { d with twin := { d.twin with health := none } }
  if (d.isTwin && d.get F.BAL_STAT_OWNER == 1) || (!d.isTwin && d.get F.BAL_STAT_OWNER == 2) then d.setOwner 0 else d

/-- The link goes DOWN (R37, R429, R433, R456, R464, R472): the change posts line 8, and comparison and ownership follow. -/
def linkLost (d : Dev) : Dev :=
  let d := { d with twin := { d.twin with validRun := 0, failRun := 0 } }
  if !d.linkUp then d
  else
    let d := ((d.put F.TWN_STAT_LINK 0).flag F.TWN_EVT_DOWN).irq 8
    let d := d.updateCompare
    let d := if d.isHead then d.putB F.TWN_CCSTAT_SUSP true else d
    let d := if d.isHead && d.isTwin then d.putB F.SYS_CLKSTAT_SOLO true else d
    d.ownerAlone

/-- The link is lost while the device is awake: its change to DOWN is also an L1 TWIN fault (R456). -/
def linkDown (d : Dev) : Dev :=
  let up := d.linkUp
  let a := d.partnerAddr
  let d := d.linkLost
  if up then d.post 3 1 1 (BitVec.ofNat 32 a) else d

/-- A valid message arrived (R456): the third in a row takes the link UP, and the pair exchange begins (R458). -/
def msgValid (d : Dev) : Dev :=
  let d := { d with twin := { d.twin with validRun := d.twin.validRun + 1, failRun := 0, lastValid := d.cycle } }
  if d.linkUp || d.twin.validRun < 3 then d
  else
    let d := ((d.put F.TWN_STAT_LINK 2).flag F.TWN_EVT_UP).irq 8
    let d := if d.isHead then d.putB F.TWN_CCSTAT_SUSP false else d
    d.sendPair

/-- A message failed its CRC (R456): the fourth in a row takes the link DOWN. -/
def msgFailed (d : Dev) : Dev :=
  let d := { d with twin := { d.twin with failRun := d.twin.failRun + 1, validRun := 0 } }
  if d.twin.failRun < 4 then d else d.linkDown

/-- A message arrives whose CRC gives `ok`; its effect `f` follows when the link is UP after it. -/
def onMsg (d : Dev) (ok : Bool) (f : Dev → Dev) : Dev := if !ok then d.msgFailed else f d.msgValid

/-- The outcome of a pair exchange (R458): 2 UNPAIRED, 3 FOREIGN, 4 ROLE, 5 ADDR, 1 MATCH, 0 while either address is not valid. -/
def pairOutcome (d : Dev) (m : BitVec 112) : Nat :=
  let id := bitsOf m.toNat 96 16
  let role := bitsOf m.toNat 88 8
  let ab := bitsOf m.toNat 80 8
  let own := d.get F.TWN_PAIRID_OWN
  if own = 0 || id = 0 then 2
  else if own ≠ id then 3
  else if role.testBit 1 == d.isTwin then 4
  else if !d.addrValid || ab < 128 then 0
  else if ab % 128 ≠ d.addr then 5
  else 1

/-- FOREIGN clears, and a pairing record follows, once a provisioning key is present and an authenticated GRD_PAIRSET has produced MATCH
(R607). -/
def foreignClears (d : Dev) : Dev :=
  if d.bit F.SYS_PWRSTAT_FOREIGN && d.twin.pairsetDone && d.keys.kp.isSome && d.get F.TWN_STAT_PRES == 1 then
    (({ d with twin := { d.twin with rejoined := false } }).putB F.SYS_PWRSTAT_FOREIGN false).pairRecord 4
  else d

/-- The device becomes a foreign unit (R605). -/
def setForeign (d : Dev) : Dev :=
  if d.bit F.SYS_PWRSTAT_FOREIGN then d
  else ({ d with twin := { d.twin with pairsetDone := false, rejoined := false } }).putB F.SYS_PWRSTAT_FOREIGN true

/-- The partner's PAIR is judged (R458, R605, R607, R429). `echo` is the link delay that the exchange measured, in 1/4096 tick (R459). -/
def judgePair (d : Dev) (m : BitVec 112) (echo : BitVec 16) : Dev :=
  let o := d.pairOutcome m
  let d := { d with twin := { d.twin with delay := echo.toNat } }
  let d := (d.putB F.TWN_DLY_VALID true).put F.TWN_DLY_D ((echo.toNat + 64) / 128)
  let d := (d.put F.TWN_PAIRID_PARTNER (bitsOf m.toNat 96 16)).put F.TWN_STAT_PADDR (bitsOf m.toNat 80 7)
  let d := (d.put F.TWN_STAT_PRES o).flag F.TWN_EVT_PAIR
  let d := d.updateCompare
  let d := d.takeAtPair
  let d := if o = 2 || o = 3 then d.setForeign else d
  let d := d.foreignClears
  if 2 ≤ o then d.post 3 1 o (BitVec.ofNat 32 d.partnerAddr) else d

/-- A PAIR is judged once the own pair ID is known; before, the last one waits for the mount (R457, R458). -/
def takePair (d : Dev) (m : BitVec 112) (echo : BitVec 16) : Dev :=
  if d.get F.LOG_STAT_MOUNT < 2 then { d with twin := { d.twin with held := some (m, echo) } } else d.judgePair m echo

/-- The PAIR that waited for the mount is judged. -/
def judgeHeld (d : Dev) : Dev :=
  match d.twin.held with
  | none => d
  | some (m, e) => ({ d with twin := { d.twin with held := none } }).judgePair m e

/-- The value that RESULT carries for a drawer-0 result: its mean in 1/16 LSB, halves away from zero, limited to 18 bits (R460). -/
def twinValue (d : Dev) (r : Result) : Int :=
  let n : Int := sumLength (d.get (F.ACC_DCFG_K 0 0))
  let s := min (d.get (F.ACC_DCFG_SHIFT 0 0)) 8
  clampInt 0 262143 (roundHalfAway (r.a.toInt * (2 ^ s * 16 : Nat)) n)

/-- The cells of a publication that are compared: in CONV_CHEN, without DIAG (R460). -/
def comparable (d : Dev) (l : List Nat) : List Nat :=
  (List.range 32).filter (fun c => l.contains c && d.bitAt F.CONV_CHEN_CELL c && !(d.drawer c 0).vis.diag)

/-- A drawer-0 publication of the channels `l` on the twin link (R460, R461): the twin sends RESULT, or counts a SKIP while the last one is
being sent; the primary keeps the publication. -/
def twinPublish (d : Dev) (l : List Nat) : Dev :=
  let cells := d.comparable l
  if cells.isEmpty || d.isHead then d
  else
    let r := (d.drawer (cells.headD 0) 0).vis
    let vals := cells.map (fun c => (c, d.twinValue (d.drawer c 0).vis))
    if d.isTwin then
      if !d.linkUp || d.get F.TWN_STAT_PRES != 1 then d
      else if d.cycle < d.twin.txBusy then (d.count F.TWN_CMPCNT_SKIP 1).flag F.TWN_EVT_SKIP
      else
        let mask := cells.foldl (fun m c => m + 2 ^ c) 0
        let d := d.sendMsg 3 (beBytes 1 r.seq.toNat ++ beBytes 4 r.ph0.toNat ++ beBytes 4 mask ++
          (vals.map (fun v => beBytes 3 v.2.toNat)).flatten)
        { d with twin := { d.twin with txBusy := d.twin.lastSent } }
    else if !d.bit F.TWN_STAT_CMPACT then d
    else
      let dl := max 1 (d.get F.TWN_CFG_DL)
      let bal : Word := cells.foldl (fun (m : Word) c => if (d.drawer c 0).vis.balact then m ||| BitVec.ofNat 32 (2 ^ c) else m) 0
      { d with twin := { d.twin with kept := d.twin.kept ++ [⟨r.ph0, d.cycle + dl * 10000, bal, vals⟩] } }

/-- A miss (R461, R463), while comparison is active: MISSMAX of them in a row raise the fault once. -/
def twinMiss (d : Dev) : Dev :=
  if !d.bit F.TWN_STAT_CMPACT then d
  else
    let n := d.twin.missRun + 1
    let d := (d.count F.TWN_CMPCNT_MISS 1).flag F.TWN_EVT_MISS
    let raise := decide (max 1 (d.get F.TWN_CFG_MISSMAX) ≤ n) && !d.twin.missRaised
    let d := { d with twin := { d.twin with missRun := n, missRaised := d.twin.missRaised || raise } }
    if raise then d.post 3 1 7 0 else d

/-- One cell of a compare (R461, R462): a difference beyond the limit is recorded; NDIFF in a row flag the cell once per run. -/
def compareCell (d : Dev) (c : Nat) (vp vt : Int) (bal : Bool) : Dev :=
  let lim := d.get F.TWN_TOL_TOL + (if bal then d.get F.TWN_TOL_BALX else 0)
  let diff := vp - vt
  if diff.natAbs ≤ lim then
    { d with twin := { d.twin with
      diffRun := upd d.twin.diffRun c (fun _ => 0), diffRaised := d.twin.diffRaised &&& ~~~BitVec.ofNat 32 (2 ^ c) } }
  else
    let n := nth d.twin.diffRun c 0 + 1
    let d := { d with twin := { d.twin with diffRun := upd d.twin.diffRun c (fun _ => n) } }
    let d := (d.put F.TWN_LASTD_CELL c).put F.TWN_LASTD_DIFF (diff.emod (2 ^ 24)).toNat
    if n < max 1 (d.get F.TWN_CFG_NDIFF) || d.twin.diffRaised.getLsbD c then d
    else
      let d := { d with twin := { d.twin with diffRaised := d.twin.diffRaised ||| BitVec.ofNat 32 (2 ^ c) } }
      (((d.flagBits F.TWN_DIFF_CELL (2 ^ c)).flag F.TWN_EVT_DIFF).post 3 1 6 (BitVec.ofNat 32 c)).irq 8

/-- A RESULT is compared with the kept publication of its PH0, one of the last four, or counts as a miss (R461). -/
def compareResult (d : Dev) (m : TwinResult) : Dev :=
  if !d.bit F.TWN_STAT_CMPACT then d
  else
    let k := d.twin.kept
    match (k.drop (k.length - 4)).find? (fun p => p.ph0 == m.ph0) with
    | none => d.twinMiss
    | some p =>
      let d := { d with twin := { d.twin with kept := k.erase p, missRun := 0, missRaised := false } }
      let d := d.count F.TWN_CMPCNT_CMP 1
      let cells := (List.range 32).filter (m.mask.getLsbD ·)
      (cells.zip m.vals).foldl (fun d cv =>
        match p.vals.find? (fun v => v.1 == cv.1) with
        | none => d
        | some v => d.compareCell cv.1 v.2 (cv.2.toNat : Int) (p.balact.getLsbD cv.1)) d

/-- The publications whose deadline has passed count as misses (R463). -/
def resultDeadline (d : Dev) : Dev :=
  let due := d.twin.kept.filter (fun p => decide (p.deadline < d.cycle))
  let d := { d with twin := { d.twin with kept := d.twin.kept.filter (fun p => decide (d.cycle ≤ p.deadline)) } }
  due.foldl (fun d _ => d.twinMiss) d

/-- Software clears TWN_DIFF bits: the runs of those cells start again (R462). -/
def clearDiff (d : Dev) (w : Word) : Dev :=
  { d with twin := { d.twin with
    diffRun := (d.twin.diffRun.zipIdx).map (fun p => if w.getLsbD p.2 then 0 else p.1), diffRaised := d.twin.diffRaised &&& ~~~w } }

/-- A handover to the twin begins, by command or after a BAL fault (R427, R428): new work is refused with OWNER, and every shelf ends with
OWNER. -/
def startHandover (d : Dev) (auto : Bool) : Dev :=
  let d := { d with bal := { d.bal with handing := true, handAuto := auto || (d.bal.handing && d.bal.handAuto), hoSent := false } }
  (d.put F.BAL_HOCTL_RES 1).endAll 5

/-- An OWN message of a kind: 1 HANDOVER, 2 ACK, 3 STOP, 4 STOPACK; the second byte says that a handover is automatic (R454). The codes
are the model's own. -/
def sendOwn (d : Dev) (kind : Nat) (auto : Bool) : Dev := d.sendMsg 4 [BitVec.ofNat 8 kind, BitVec.ofNat 8 auto.toNat]

/-- Steps 3 and 4 of a handover: once every shelf has ended, its SEL pins turn off and the message goes (R427); a twin that was asked to stop
acknowledges then (R430). -/
def handoverStep (d : Dev) : Dev :=
  if d.bal.shelves.any (·.act) then d
  else if d.isTwin && d.bal.returning then ({ d with bal := { d.bal with returning := false } }).sendOwn 4 false
  else if !d.bal.handing || d.bal.hoSent then d
  else
    let d := (List.range 4).foldl (fun d k => d.selOff k) d
    ({ d with bal := { d.bal with hoSent := true } }).sendOwn 1 d.bal.handAuto

end Dev

end Sys2Proof.Machine
end

