-- ==== Sys2Proof/Machine/SafeOps.lean ====
section
/-!
DEFINITION. The SAFE demand and outputs of a head, and the fault symbol with the FLT pin (R331, R445 to R447, R471 to R479, R511).
-/

namespace Sys2Proof.Machine

namespace Dev

/-- A SAFE output switches (R476, R477): the readback counts restart. -/
def setOut (d : Dev) (j : Nat) (on : Bool) : Dev :=
  let d := d.putAt F.GRD_SAFESTAT_OUT j on
  { d with safe := { d.safe with outs := upd d.safe.outs j (fun o => { o with changedAt := d.cycle, wrong := 0 }) } }

/-- A source latches the SAFE demand (R473): both switches open and stay open; a pulse in progress goes on to its sample (R479). Each
latching of a source other than REL goes to the partner as the FAULT word (R455). Sources: 0 SYM, 1 REL, 2 FRM, 3 FLT, 4 HOST. -/
def safeDemandBy (d : Dev) (src : Nat) : Dev :=
  if !d.isHead then d
  else
    let new := !d.bitAt F.GRD_SAFESTAT_SRC src
    let d := (d.putAt F.GRD_SAFESTAT_SRC src true).putB F.GRD_SAFESTAT_DEM true
    let d := if src = 1 then { d with safe := { d.safe with partnerDem := true } } else d
    let off (d : Dev) (j : Nat) : Dev :=
      if (nth d.safe.outs j SafeOut.reset).pulse.isSome || !d.bitAt F.GRD_SAFESTAT_OUT j then d.putAt F.GRD_SAFESTAT_OUT j false
      else d.setOut j false
    let d := off (off d 0) 1
    if new && src != 1 then d.emit .faultWord else d

/-- FAULT slots are arriving: one came within the last 64 slots (R331, R475). -/
def faultArriving (d : Dev) (within : Nat) : Bool :=
  match d.safe.faultSlot with
  | none => false
  | some t => decide (d.cycle ≤ t + within)

/-- The guard bits latched (R445). -/
def glatch (d : Dev) : Nat := d.get F.GRD_GLATCH_GUARD

/-- Fireguard's part of the symbol and the FLT pin follow GRD_GLATCH (R445), the fault reaction's part an unacknowledged L2 or L3 (R511);
the symbol starts and ends on both ports as either does, once the transmitters are on (R447, R316, R331). WAKEOUT follows TONE (R598). -/
def updateSymbol (d : Dev) : Dev :=
  let fg := d.glatch != 0
  let fr := d.highFault
  let sym := (fg || fr) && d.power.released
  let pin := d.bit F.GRD_STAT_ARMED && !fg
  let d := ((d.putB F.GRD_STAT_FGSYM fg).putB F.FLT_STAT_FRSYM fr).putB F.GRD_STAT_SYM sym
  let out := d.bit F.SYS_WAKE_TONE && d.bit F.SYS_WAKE_WEN
  let d := ({ d with power := { d.power with fltPin := pin, wakeout := out } }).putB F.GRD_STAT_FLTPIN pin
  let sends := sym && d.chain.txOn
  if sends = d.guard.symbol then d
  else (({ d with guard := { d.guard with symbol := sends } }).emit (.faultSlots .up sends)).emit (.faultSlots .dn sends)

end Dev

end Sys2Proof.Machine
end

