-- ==== Sys2Proof/Machine/FrameOps.lean ====
section
/-!
DEFINITION. Frames (08_tystan_link.md, 16_security.md): their bytes and checks, the queues of a device's own frames, authentication
under the session key, what a device consumes, and its responses.
-/

namespace Sys2Proof.Machine

/-- The four bytes of a frame's header (R336). -/
def frameHeader (f : Frame) : List Byte :=
  [BitVec.ofNat 8 (f.ty.toNat * 16 + f.rev.toNat * 4 + f.seq.toNat), BitVec.ofNat 8 (f.auth.toNat * 128 + f.src.toNat),
   BitVec.ofNat 8 (f.orig.toNat * 128 + f.dest.toNat), BitVec.ofNat 8 (f.payload.length - 1)]

/-- The bytes of a frame without its CRC (R335, R377). -/
def frameBytes (f : Frame) : List Byte := frameHeader f ++ f.payload ++ (if f.auth then wordBytes f.mac else [])

/-- The CRC of a frame (R335): CRC-32, but for safety frames the polynomial of R452. -/
def frameCrc (f : Frame) : Word := if f.ty = 0xA then Crc.crc32c (frameBytes f) else Crc.crc32 (frameBytes f)

/-- The truncated CMAC of a frame under a key with message counter `c` (R615). -/
def frameMac (key : BitVec 128) (f : Frame) (c : Nat) : Word := Aes.cmac32 key (frameHeader f ++ f.payload ++ beBytes 4 c)

/-- The entry of a counter table; an absent entry is 0 (R616). -/
def counterOf (l : List (Nat × Nat)) (a : Nat) : Nat := Store.read (fun _ => 0) l a

/-- Byte `i` of a payload. -/
def byteAt (l : List Byte) (i : Nat) : Nat := (nth l i 0).toNat

/-- The number that `n` bytes of a payload from byte `i` spell. -/
def fieldAt (l : List Byte) (i n : Nat) : Nat := ofBeBytes ((l.drop i).take n)

/-- What the authentication of a frame gives (R617 to R619). -/
inductive AuthRes where
  | absent | pass | fail
  | again (response : Option Frame)
  deriving DecidableEq, Repr

namespace Dev

/-- The receive counter of a stream (R616). -/
def recvCounter (d : Dev) (src : Nat) (bcast : Bool) : Nat := counterOf (if bcast then d.keys.recvB else d.keys.recvU) src

/-- A receive counter set (R617). -/
def setRecv (d : Dev) (src : Nat) (bcast : Bool) (c : Nat) : Dev :=
  if bcast then { d with keys := { d.keys with recvB := Store.write (fun _ => 0) d.keys.recvB src c } }
  else { d with keys := { d.keys with recvU := Store.write (fun _ => 0) d.keys.recvU src c } }

/-- The frame last accepted in a stream, with its response (R618). -/
def lastOf (d : Dev) (src : Nat) (bcast : Bool) : Option LastFrame :=
  d.keys.last.find? (fun l => l.src == src && l.bcast == bcast)

/-- The frame last accepted in a stream is set (R618). -/
def setLast (d : Dev) (f : Frame) (response : Option Frame) : Dev :=
  let b := f.dest == 127
  { d with keys := { d.keys with
    last := ⟨f.src.toNat, b, f, response⟩ :: d.keys.last.filter (fun l => !(l.src == f.src.toNat && l.bcast == b)) } }

/-- The authentication of a received frame under the session key (R615 to R619): the first of the sixteen counters after the last accepted
one whose CMAC matches, a duplicate at the last, or a failure. -/
def authenticate (d : Dev) (f : Frame) : AuthRes × Dev :=
  if !f.auth then (.absent, d)
  else
    match d.keys.ks with
    | none => (.fail, d.authFail)
    | some ks =>
      let src := f.src.toNat
      let b := f.dest == 127
      let l := d.recvCounter src b
      match (List.range 16).find? (fun i => frameMac ks f (l + 1 + i) == f.mac) with
      | some i => (.pass, ((d.setRecv src b (l + 1 + i)).setLast f none).authPass)
      | none =>
        match d.lastOf src b with
        | some x => if x.frame == f && frameMac ks f l == f.mac then (.again x.response, d) else (.fail, d.authFail)
        | none => (.fail, d.authFail)

/-- The CMAC that a frame of this device's own takes with the next send counter of its destination (R615, R616). -/
def sign (d : Dev) (f : Frame) : Frame × Dev :=
  match d.keys.ks with
  | none => ({ f with auth := false, mac := 0 }, d)
  | some ks =>
    let a := f.dest.toNat
    let c := counterOf d.keys.sendC a + 1
    let f := { f with auth := true }
    ({ f with mac := frameMac ks f c }, { d with keys := { d.keys with sendC := Store.write (fun _ => 0) d.keys.sendC a c } })

/-- A frame that this device builds (R336), unsigned. -/
def build (d : Dev) (ty : BitVec 4) (seq : BitVec 2) (orig : Bool) (dest : BitVec 7) (payload : List Byte) : Frame :=
  { ty := ty, rev := BitVec.ofNat 2 d.linkRev, seq := seq, auth := false, src := BitVec.ofNat 7 d.addr, orig := orig, dest := dest,
    payload := payload, mac := 0 }

/-- The low two bits of the frame count, which frames of the hardware carry (R336). -/
def seqBits (d : Dev) : BitVec 2 := d.chain.frameCount.truncate 2

/-- CHN_HEAL.SIDE (R384). -/
def side (d : Dev) : Nat := d.get F.CHN_HEAL_SIDE

/-- A frame of the device's own is queued on the stream that R384 names: the forward stream, or the reverse stream below a break; an
isolated member sends nothing. `first` puts it ahead, as a safety frame goes (R43, R358). The frame tagger decides (R669). -/
def pushOwn (d : Dev) (f : Frame) (sent response first : Bool) : Dev :=
  if d.side = 3 then d
  else
    let (tag, d) := d.tagDecide 3
    let o : Own := ⟨f, sent, response, tag, d.cycle⟩
    let d := if tag then d.tagStart (BitVec.ofNat 32 (ofBeBytes (frameHeader f))) 2 (frameLen f) else d
    let add (l : List Own) : List Own := if first then o :: l else l ++ [o]
    if d.side = 1 then { d with chain := { d.chain with ownRev := add d.chain.ownRev } }
    else { d with chain := { d.chain with ownFwd := add d.chain.ownFwd } }

/-- The record of a frame in the host receive queue: its descriptor and its words (R378). -/
def hostRec (f : Frame) (authOk onUp : Bool) : HostRec :=
  let b := frameBytes f
  ⟨BitVec.ofNat 32 (authOk.toNat * 2 ^ 31 + onUp.toNat * 2 ^ 29 + b.length), b⟩

/-- The bytes that the host receive queue holds: a descriptor word and whole frame words per record (R378). -/
def hostUsed (d : Dev) : Nat := d.chain.hrx.foldl (fun n r => n + 4 + (r.bytes.length + 3) / 4 * 4) 0

/-- A record enters the host receive queue of 16 KiB, or is dropped and counted (R378, R499). -/
def pushHost (d : Dev) (r : HostRec) : Dev :=
  if 16384 < d.hostUsed + 4 + (r.bytes.length + 3) / 4 * 4 then
    ((d.count F.CHN_HQSTAT_RXOVF 1).flag F.CHN_IRQST_RXOVF).post 1 0 6 1
  else { d with chain := { d.chain with hrx := d.chain.hrx ++ [r] } }

/-- A response leaves: a member queues it, a head that consumed its host's frame itself puts it into the host receive queue (R337, R377).
A response to an authenticated request is signed; the stream keeps it for a duplicate (R618). A request that has reset the device is not
answered: what would build the response has been reset (R608). -/
def respond (d : Dev) (f : Frame) (authd : Bool) (payload : List Byte) : Dev :=
  if d.power.releasedAt = d.cycle then d else
  let r := d.build f.ty f.seq true 0 payload
  let (r, d) := if authd then d.sign r else (r, d)
  let d := if authd then d.setLast f (some r) else d
  if d.isHead then d.pushHost (hostRec r authd false) else d.pushOwn r false true false

/-- The frame's revision is the device's own or the one below it (R347). -/
def revOk (d : Dev) (f : Frame) : Bool :=
  f.rev == BitVec.ofNat 2 d.linkRev || f.rev == BitVec.ofNat 2 (d.linkRev + 3)

/-- The port on which requests arrive (R384): DN, above a break UP. -/
def requestPort (d : Dev) : Option Port := if d.side = 3 then none else if d.side = 2 then some .up else some .dn

/-- A frame passes its check: its comparison of CRCs is the row's own condition; the type, if assigned, leaves it standing (R338). The
time-out of R589 restarts. -/
def frameSeen (d : Dev) : Dev := { d with power := { d.power with commAt := d.cycle } }

/-- A member consumes this request (R330, R337, R347, R353, R384): from a head, addressed to it or to all, in a revision it speaks, on the
port its requests come on, with its address valid; while the address is tentative, a register read only (R602). A head consumes what its host
addresses to it (R377). -/
def consumes (d : Dev) (p : Port) (f : Frame) : Bool :=
  if d.isHead then f.src == 0 && f.dest == 0
  else f.src == 0 && (f.dest == BitVec.ofNat 7 d.addr || f.dest == 127) && d.revOk f && d.requestPort == some p &&
    d.bit F.CHN_ADDR_VALID && (!d.bit F.CHN_ADDR_TENT || f.ty == 1)

/-- How a request may depart from R338: whether AUTH is required, whether broadcast is allowed, and the payload lengths. -/
structure ReqSpec where
  needAuth : Bool
  bcast : Bool
  lens : List Nat
  deriving DecidableEq, Repr

/-- A consumed request is judged and acted on (R337 to R339, R517, R606, R618): a broadcast that its type does not allow is dropped; AUTH
absent where it is required, a wrong length and a failed CMAC answer with their STATUS; a duplicate resends its response; Lockout and
FOREIGN refuse. `body` is the response's payload for a STATUS, `act` the effect, with the payload of its own response; `dueAll` says that a
broadcast is answered too (RUN). -/
def onRequest {α : Type} (d : Dev) (m : α) (p : Port) (f : Frame) (spec : ReqSpec) (inLockout inForeign dueAll : Bool)
    (body : Dev → Nat → List Byte) (act : α → Dev → Bool → (α × Dev) × List Byte) : α × Dev :=
  if !d.consumes p f then (m, d)
  else
    let d := (d.event 18 1).frameSeen
    let bc := f.dest == 127
    let due := !bc || dueAll
    let answer (d : Dev) (authd : Bool) (pl : List Byte) : Dev := if due then d.respond f authd pl else d
    if bc && !spec.bcast then (m, d)
    else if spec.needAuth && !f.auth then (m, answer d false (body d 2))
    else if !spec.lens.contains f.payload.length then (m, answer d false (body d 7))
    else
      match d.authenticate f with
      | (.fail, d) => (m, answer d false (body d 2))
      | (.again r, d) =>
        (m, match r with
          | none => d
          | some r => if d.isHead then d.pushHost (hostRec r true false) else d.pushOwn r false true false)
      | (.pass, d) =>
        if d.bit F.FLT_STAT_LKO && !inLockout then
          let d := d.count F.FLT_LKREF_CNT 1
          (m, answer d true (body d 3))
        else if d.bit F.SYS_PWRSTAT_FOREIGN && !inForeign then (m, answer d true (body d 4))
        else
          let ((m, d), pl) := act m d true
          (m, answer d true pl)
      | (.absent, d) =>
        if d.bit F.FLT_STAT_LKO && !inLockout then
          let d := d.count F.FLT_LKREF_CNT 1
          (m, answer d false (body d 3))
        else if d.bit F.SYS_PWRSTAT_FOREIGN && !inForeign then (m, answer d false (body d 4))
        else
          let ((m, d), pl) := act m d false
          (m, answer d false pl)

/-- A frame of the device's own leaves on a port: the line is busy for its slots and a separating one (R323, R328). -/
def leaves (d : Dev) (p : Port) (f : Frame) (crc : Word) : Dev :=
  let t := d.cycle + (frameLen f + 1) * 25
  let d := match p with
    | .up => { d with chain := { d.chain with fwdBusy := t } }
    | .dn => { d with chain := { d.chain with revBusy := t } }
  d.emit (.frame p f crc)

/-- The discard of queued transactions and reports (R48, R49, R383): `keep` says which frames of the device's own stay; the frame tagger
closes the record of one that goes (R671). A response built by the command whose fault discards stays (R49: it enters the queue when it
is ready to leave). A freed entry of the sequencer transmit queue posts line 6 (R245). -/
def dropOwn (d : Dev) (keep : Own → Bool) : Dev :=
  let stays (o : Own) : Bool := keep o || (o.response && o.at_ == d.cycle)
  let gone := (d.chain.ownFwd ++ d.chain.ownRev).filter (fun o => !stays o)
  let d := { d with chain := { d.chain with ownFwd := d.chain.ownFwd.filter stays, ownRev := d.chain.ownRev.filter stays } }
  let d := if gone.any (·.tagged) then d.tagDrop else d
  if gone.any (·.sent) then d.irq 6 else d

/-- A frame that a device holds in its insertion buffers is a report (R48, CHAIN). -/
def isReport (f : Frame) : Bool := f.ty == 9

/-- A readout stream of the log that runs ends so: 2 done, 3 stopped, 4 aborted (R652). -/
def endStream (d : Dev) (st : Nat) : Dev := if d.get F.LOG_RDSTAT_STATE = 1 then d.put F.LOG_RDSTAT_STATE st else d

/-- The CHAIN discard (R48, R383, R652): queued transactions, SENDs and report frames in the insertion buffers; at a head every outstanding
transaction of its chain. -/
def discardChain (d : Dev) : Dev :=
  let d := (d.dropOwn (fun o => o.frame.ty == 0xA || o.frame.ty == 0xC)).endStream 4
  let freed := d.isHead && !d.chain.htx.isEmpty
  let d := { d with chain := { d.chain with
    insFwd := d.chain.insFwd.filter (fun x => !isReport x.1), insRev := d.chain.insRev.filter (fun x => !isReport x.1)
    htx := [], outst := [] } }
  if freed then d.flag F.CHN_IRQST_TXFREE else d

/-- The SEC discard at L1 (R48): authenticated transactions and a program load in progress. -/
def discardAuth (d : Dev) : Dev :=
  let d := (d.dropOwn (fun o => !o.frame.auth)).abortLoad
  { d with chain := { d.chain with htx := d.chain.htx.filter (fun f => !f.auth), outst := d.chain.outst.filter (fun o => !o.frame.auth) } }

/-- The SEQ discard (R48): the running program's queued SENDs. -/
def discardSends (d : Dev) : Dev := d.dropOwn (fun o => !o.sent)

end Dev

end Sys2Proof.Machine
end

