-- ==== Sys2Proof/Machine/BistOps.lean ====
section
/-!
DEFINITION. The self-test steps and the check engine (13_diagnostics_bist_check.md, R533, R535 to R556), and the abort of a diagnostic
run.
-/

namespace Sys2Proof.Machine

namespace Dev

/-- A diagnostic run is in progress (R560). -/
def diagRuns (d : Dev) : Bool := d.get F.BST_DSTAT_STATE == 1

/-- The sources of a run turn off: the samples of its cells carry DIAG for 40 µs more (R526), and a test transfer stops. -/
def diagSourcesOff (d : Dev) : Dev :=
  let kind := d.get F.BST_DSTAT_KIND
  if kind = 3 then d.balStop (d.get F.BST_BTCFG_SH)
  else if kind = 0 then d
  else { d with diag := { d.diag with marked := d.diag.cells, markUntil := d.cycle + 4000 } }

/-- A diagnostic run is aborted with a cause: 8 CAL_RUN, 9 discard, 10 DSTOP, 11 a transfer that did not end DONE (R533). -/
def abortDiag (d : Dev) (cause : Nat) : Dev :=
  if !d.diagRuns then d
  else
    let d := d.diagSourcesOff
    (d.put F.BST_DSTAT_STATE 5).put F.BST_DSTAT_CAUSE cause

/-- The power account in mW (R535): base, converters that switch, a page program, the test DAC, and the BIST steps that run. -/
def powerAccount (d : Dev) : Nat :=
  let sw := (d.bal.shelves.filter (·.inCycle)).length
  let dac := (d.diagRuns && d.get F.BST_DSTAT_KIND == 1) || d.bit F.CONV_TDAC_EN
  381 + 50 * sw + 80 * d.log.programming.isSome.toNat + 8 * dac.toNat +
    40 * (d.bit F.BST_STAT_MBUSY && !d.bit F.BST_STAT_MPAUSE).toNat + 5 * (d.bit F.BST_STAT_CBUSY).toNat +
    50 * (d.bit F.BST_STAT_LBUSY).toNat

/-- A step of `mw` milliwatts fits under the limit (R535). -/
def accountAllows (d : Dev) (mw : Nat) : Bool := decide (d.powerAccount + mw ≤ 661)

/-- A BIST step runs: BIST runs one step at a time (R535). -/
def bistBusy (d : Dev) : Bool := d.bit F.BST_STAT_MBUSY || d.bit F.BST_STAT_CBUSY || d.bit F.BST_STAT_LBUSY

/-- The automatic rotations run in Measure and Lockout (R538, R544). -/
def rotates (d : Dev) : Bool := d.pstate == 2 || d.pstate == 4

/-! ### Memory BIST -/

/-- FIRST of the rotation (R559). -/
def mFirst (d : Dev) : Nat := min (d.get F.BST_MCFG_FIRST) 48

/-- LAST of the rotation (R559). -/
def mLast (d : Dev) : Nat := max (min (d.get F.BST_MCFG_LAST) 48) d.mFirst

/-- The interval of a rotation in cycles: INTV × 10 ms, 0 treated as 1 (R559). -/
def rotationCycles (intv : Nat) : Nat := max 1 intv * 1000000

/-- The backgrounds that a step runs (R541, R559). -/
def backgrounds (d : Dev) : List Nat :=
  let b := d.get F.BST_MCFG_BKG
  let l := (List.range 4).filter (fun i => b.testBit i)
  if l.isEmpty then [0] else l

/-- A step on the next block begins (R539, R540, R544): copy first, but for the spare buffer. -/
def memStepStart (d : Dev) : Dev :=
  let blk := clampNat d.mFirst d.mLast d.bist.memNext
  let d := ((d.putB F.BST_STAT_MBUSY true).put F.BST_STAT_MBLK blk).put F.BST_STAT_MPHASE (if blk = 48 then 1 else 0)
  { d with bist := { d.bist with memAt := d.cycle, bkgs := d.backgrounds, phaseAt := d.cycle, stop := false, failed := false } }

/-- The rotation's step is due (R544): at its interval in Measure and Lockout, or at once while MGO runs; never with the spare in use. -/
def memStepDue (d : Dev) : Bool :=
  !d.bistBusy && !d.bit F.BST_MSTAT_RMV && d.accountAllows 40 && d.rotates &&
    (d.bist.single || (d.bit F.BST_MCFG_AUTO && decide (d.bist.memAt + rotationCycles (d.get F.BST_MCFG_INTV) ≤ d.cycle)))

/-- The step on block MBLK is over: the rotation moves on, and its end counts (R544). -/
def memStepEnd (d : Dev) : Dev :=
  let blk := d.get F.BST_STAT_MBLK
  let ended := decide (d.mLast ≤ blk)
  let d := (((d.putB F.BST_STAT_MBUSY false).putB F.BST_STAT_MPAUSE false).put F.BST_STAT_MPHASE 0).put F.BST_MSTAT_LBLK blk
  let d := if ended then d.put F.BST_MSTAT_ROT (d.get F.BST_MSTAT_ROT + 1) else d
  let single := d.bist.single
  let d := { d with bist := { d.bist with memNext := if ended then d.mFirst else blk + 1, single := single && !ended && !d.bist.stop } }
  if single && ended && !d.bist.stop then d.flag F.BST_EVT_MDONE else d

/-- The test phase of a step is over: a failed block is reported and remapped, or restored (R543). -/
def memTestEnd (d : Dev) : Dev :=
  let blk := d.get F.BST_STAT_MBLK
  let d := if d.bist.failed then
      ((d.count F.BST_MFCNT_BLKS 1).flag F.BST_EVT_MFAIL).post 4 1 5 (BitVec.ofNat 32 blk)
    else d
  if blk = 48 then d.memStepEnd
  else if d.bist.failed && d.bit F.BST_MCFG_REMAP then ((d.putB F.BST_MSTAT_RMV true).put F.BST_MSTAT_RMBLK blk).memStepEnd
  else { (d.put F.BST_STAT_MPHASE 2) with bist := { d.bist with phaseAt := d.cycle } }

/-- The fault of a scrub read of a memory: 0 to 15 program SRAM by block, else data SRAM (R499, R542). -/
def sramFault (d : Dev) (blk : Nat) : Dev :=
  if blk < 16 then d.post 4 2 3 (BitVec.ofNat 32 (blk / 8)) else d.post 4 1 2 0

/-- A phase of the memory BIST step ends (R540 to R543): the copy with an uncorrectable codeword or none, a background with its failing
reads, or the restore. -/
def memPhaseEnd (d : Dev) (fails word bit : Nat) (unc : Bool) : Dev :=
  if !d.bit F.BST_STAT_MBUSY || d.bit F.BST_STAT_MPAUSE then d
  else
    let past (n : Nat) : Bool := decide (d.bist.phaseAt + n ≤ d.cycle)
    let blk := d.get F.BST_STAT_MBLK
    match d.get F.BST_STAT_MPHASE with
    | 0 =>
      if !past 512 && !d.bist.stop then d
      else
        let d := if unc then d.sramFault blk else d
        { (d.put F.BST_STAT_MPHASE (if d.bist.stop then 2 else 1)) with bist := { d.bist with phaseAt := d.cycle } }
    | 1 =>
      if !past 15360 && !d.bist.stop then d
      else
        let d := if fails = 0 then d
          else
            let d := if d.bit F.BST_MFAIL_VALID then d
              else (((d.putB F.BST_MFAIL_VALID true).put F.BST_MFAIL_BIT bit).put F.BST_MFAIL_WORD word).put F.BST_MFAIL_BLK blk
            { (d.count F.BST_MFCNT_CNT fails) with bist := { d.bist with failed := true } }
        let rest := if d.bist.stop then [] else d.bist.bkgs.drop 1
        let d := { d with bist := { d.bist with bkgs := rest, phaseAt := d.cycle } }
        if rest.isEmpty then d.memTestEnd else d
    | _ => if past 512 then d.memStepEnd else d

/-- MSTOP, or a discard of L2 or L3: the step ends at its next element, and a run by MGO ends with it (R544). -/
def memStop (d : Dev) : Dev :=
  if d.bit F.BST_STAT_MBUSY then { (d.putB F.BST_STAT_MPAUSE false) with bist := { d.bist with stop := true } }
  else { d with bist := { d.bist with single := false } }

/-- The account without the memory step leaves it no room: the step pauses, and goes on when room returns (R536). -/
def memPause (d : Dev) : Dev :=
  if !d.bit F.BST_STAT_MBUSY || d.bist.stop || d.bit F.BST_STAT_MPAUSE || d.accountAllows 0 then d else d.putB F.BST_STAT_MPAUSE true

/-- A paused step resumes when room returns; its element continues with a fresh count of its phase (R536). -/
def memResume (d : Dev) : Dev :=
  if !d.bit F.BST_STAT_MPAUSE || !d.accountAllows 40 then d
  else { (d.putB F.BST_STAT_MPAUSE false) with bist := { d.bist with phaseAt := d.cycle } }

/-! ### Converter BIST -/

/-- A channel is enabled for sweeps (R133, R134). -/
def chanEnabled (d : Dev) (ch : Nat) : Bool :=
  if ch < 32 then d.bitAt F.CONV_CHEN_CELL ch else if ch = 32 then d.bit F.CONV_DEVEN_CUR else d.bit F.CONV_DEVEN_AUX

/-- The first enabled channel from `ch` on, in rotation. -/
def nextConverter (d : Dev) (ch : Nat) : Option Nat := ((List.range 34).map (fun i => (ch + i) % 34)).find? d.chanEnabled

/-- The automatic rotation starts a step on the next enabled converter (R535, R538). -/
def convBistStart (d : Dev) : Dev :=
  if d.isHead || d.bistBusy || !d.rotates || !d.accountAllows 5 || !d.bit F.BST_CCFG_AUTO ||
      decide (d.cycle < d.bist.convAt + rotationCycles (d.get F.BST_CCFG_INTV)) then d
  else
    match d.nextConverter d.bist.convNext with
    | none => d
    | some ch =>
      let d := (d.putB F.BST_STAT_CBUSY true).put F.BST_STAT_CCH ch
      { d with bist := { d.bist with convAt := d.cycle } }

/-- The step ends with a verdict (R537, R538). -/
def convBistEnd (d : Dev) (pass : Bool) : Dev :=
  if !d.bit F.BST_STAT_CBUSY then d
  else
    let ch := d.get F.BST_STAT_CCH
    let d := (d.putB F.BST_STAT_CBUSY false).put F.BST_CSTAT_LCH ch
    let wraps := match d.nextConverter (ch + 1) with
      | none => true
      | some n => decide (n ≤ ch)
    let d := if wraps then d.put F.BST_CSTAT_ROT (d.get F.BST_CSTAT_ROT + 1) else d
    let d := { d with bist := { d.bist with convNext := (ch + 1) % 34 } }
    if pass then d
    else
      let d := if ch < 32 then d.flagBits F.BST_CFAIL_CELL (2 ^ ch) else d.flag (if ch = 32 then F.BST_CFAILX_CUR else F.BST_CFAILX_AUX)
      (d.flag F.BST_EVT_CFAIL).post 0 1 4 (BitVec.ofNat 32 ch)

/-! ### Hearth's logic BIST -/

/-- Hearth's logic BIST starts: secrets cleared before it, page programs held (R546, R547). -/
def logicBistStart (d : Dev) : Dev :=
  let d := d.clearSecrets.putB F.BST_STAT_LBUSY true
  { d with bist := { d.bist with lbAt := d.cycle, lbCompared := false } }

/-- The LBH command (R546): refused with HREF and a cause, or started. -/
def logicBistCmd (d : Dev) : Dev :=
  let refuse (c : Nat) : Dev := (d.putB F.BST_LSTAT_HREF true).put F.BST_LSTAT_HCAUSE c
  if d.hearth.run then refuse 1
  else if d.bit F.BST_STAT_LBUSY then refuse 2
  else if d.pstate != 1 && d.pstate != 2 then refuse 3
  else (d.putB F.BST_LSTAT_HREF false).logicBistStart

/-- Hearth's state takes the program-entry values of R233. -/
def hearthEntryState (d : Dev) : Dev :=
  let h := d.hearth
  let d := d.putB F.SEQ_CTL_IEN false
  ({ d with hearth := { h with w := List.replicate 16 0, z := false, n := false, c := false, v := false, user := false, wait := none } }).jump 0

/-- The test of start-up runs from 0.10 ms to 0.34 ms, in whose end both last steps of R546 fall together. -/
def logicBistAuto (d : Dev) : Bool := decide (d.bist.lbAt ≤ d.power.releasedAt + 10000)

/-- Hearth's logic BIST compares its signature and reloads the keys, and ends (R546, R549). -/
def logicBistEnd (d : Dev) (pass : Bool) : Dev :=
  if !d.bit F.BST_STAT_LBUSY then d
  else
    let auto := d.logicBistAuto
    let d := if d.bist.lbCompared || decide (d.cycle < d.bist.lbAt + (if auto then 24000 else 24002)) then d
      else
        let d := (d.putB F.BST_LSTAT_HFAIL (!pass)).hearthEntryState
        let d := ({ d with keys := { d.keys with otp := d.bit F.SEC_STAT_OTPOK && !d.bit F.SEC_STAT_TEST } }).loadKp
        { d with bist := { d.bist with lbCompared := true } }
    if !d.bist.lbCompared || decide (d.cycle < d.bist.lbAt + (if auto then 24000 else 26002)) then d
    else
      let d := ((d.putB F.BST_STAT_LBUSY false).putB F.BST_LSTAT_HRUN true).flag F.BST_EVT_LDONE
      let d := if d.bit F.BST_LSTAT_HFAIL then d.flag F.BST_EVT_LFAIL else d
      if d.bist.enterAfter then ({ d with bist := { d.bist with enterAfter := false } }).enterProgram else d

/-! ### The check engine -/

/-- CHK_CFG.W + 1 of a configuration word; below 8 treated as 8 (R562). -/
def chkWidth (cfg : Word) : Nat := max 8 (bitsOf cfg.toNat 0 5 + 1)

/-- A start and a length that the space allows (R551). -/
def chkRangeOk (space start len : Nat) : Bool :=
  len != 0 &&
    match space with
    | 0 => start % 4 == 0 && len % 4 == 0 && decide (start + len ≤ 0x10000)
    | 1 => decide (start + len ≤ 0x20000)
    | 2 => start % 4 == 0 && len % 4 == 0 && decide (start + len ≤ 0x10000)
    | _ => decide (start + len ≤ 0xF0000000)

/-- A scan starts over CHK_START and CHK_LEN, or is refused: 1 BUSY, 2 RANGE (R551, R553). The code, 0 when it starts. -/
def chkStart (d : Dev) (space : Nat) (res user : Bool) : Nat × Dev :=
  if d.bit F.CHK_STAT_BUSY then (1, d.put F.CHK_STAT_RCAUSE 1)
  else if !chkRangeOk space (d.get F.CHK_START_START) (d.get F.CHK_LEN_LEN) then (2, d.put F.CHK_STAT_RCAUSE 2)
  else
    let cfg := d.rd R.CHK_CFG
    let run := (if res then d.get F.CHK_RUN_RUN else d.get F.CHK_INIT_INIT) % 2 ^ chkWidth cfg
    let d := (((d.putB F.CHK_STAT_BUSY true).put F.CHK_STAT_SPC space).put F.CHK_STAT_RCAUSE 0).put F.CHK_RUN_RUN run
    let d := (d.put F.CHK_POS_POS (d.get F.CHK_START_START)).put F.CHK_REM_REM (d.get F.CHK_LEN_LEN)
    (0, { d with check := { cfg := cfg, poly := d.rd R.CHK_POLY, user := user, groupAt := d.cycle + 1 } })

/-- The bytes of a word in scan order (R551). -/
def scanBytes (cfg w : Word) : List Byte := if cfg.getLsbD 10 then wordBytesLe w else wordBytes w

/-- The bytes of the next group of the scan, and the cycles it takes (R551): `view` reads a register without side effects (R552). -/
def chkGroup (d : Dev) (m : Mems) (view : Nat → Word) : List Byte × Nat :=
  let pos := d.get F.CHK_POS_POS
  let rem := d.get F.CHK_REM_REM
  let n := min rem 8
  let cfg := d.check.cfg
  match d.get F.CHK_STAT_SPC with
  | 0 => (((Store.readAll Mems.progDflt m.prog (pos / 4) (n / 4)).map (scanBytes cfg)).flatten, 1)
  | 1 => (Store.readAll Mems.dataDflt m.data pos n, 1)
  | 2 => (scanBytes cfg (view pos), 3)
  | _ => ((List.range n).map (fun i => if d.inLog (pos + i) then Store.read Mems.nandDflt m.nand (pos + i) else 0xFF), 20)

/-- A group of the scan enters the running value once the port gives it (R550, R551). -/
def chkTick (d : Dev) (m : Mems) (view : Nat → Word) : Dev :=
  if !d.bit F.CHK_STAT_BUSY || d.get F.CHK_REM_REM == 0 || decide (d.cycle < d.check.groupAt) then d
  else
    let (l, t) := d.chkGroup m view
    let crc := l.foldl (Crc.byte (chkWidth d.check.cfg) (d.check.poly.toNat % 2 ^ chkWidth d.check.cfg) (d.check.cfg.getLsbD 7))
      (d.get F.CHK_RUN_RUN)
    let d := ((d.put F.CHK_RUN_RUN crc).put F.CHK_POS_POS (d.get F.CHK_POS_POS + l.length)).put F.CHK_REM_REM
      (d.get F.CHK_REM_REM - l.length)
    { d with check := { d.check with groupAt := d.cycle + t } }

/-- The scan ends with an END code; every end posts line 10 (R554). -/
def chkEnd (d : Dev) (e : Nat) : Dev :=
  if !d.bit F.CHK_STAT_BUSY then d else ((d.putB F.CHK_STAT_BUSY false).put F.CHK_STAT_END e).irq 10

/-- The fault of CHK_FLT, as a RAISE would post it, within the limits of R554. -/
def chkFault (d : Dev) (res : Word) : Dev :=
  let c := d.get F.CHK_FLT_CLS
  let lvl := if d.check.user then min 1 (d.get F.CHK_FLT_LVL) else d.get F.CHK_FLT_LVL
  { d with posted := d.posted ++ [⟨if c = 2 || 9 ≤ c then 8 else c, lvl, d.get F.CHK_FLT_CODE % 128 + 128, res, true⟩] }

/-- A scan that has read all its bytes completes (R554): CHK_RES, the comparison, the fault on a mismatch. -/
def chkComplete (d : Dev) : Dev :=
  if !d.bit F.CHK_STAT_BUSY || d.get F.CHK_REM_REM != 0 then d
  else
    let cfg := d.check.cfg
    let w := chkWidth cfg
    let res : Word := BitVec.ofNat 32 (Crc.finish w (cfg.getLsbD 8) (cfg.getLsbD 9) (d.get F.CHK_RUN_RUN))
    let d := (d.chkEnd 1).wr R.CHK_RES res
    if !cfg.getLsbD 11 then d
    else if res.toNat = d.get F.CHK_EXP_EXP % 2 ^ w then d.putB F.CHK_STAT_MATCH true
    else
      let d := (d.putB F.CHK_STAT_MATCH false).flag F.CHK_STAT_MISM
      if cfg.getLsbD 12 then d.chkFault res else d

/-- An uncorrectable codeword or log page ends the scan with ECC and its fault (R556); registers hold no codewords. -/
def chkEcc (d : Dev) : Dev :=
  if !d.bit F.CHK_STAT_BUSY then d
  else
    match d.get F.CHK_STAT_SPC with
    | 0 => (d.post 4 2 3 (BitVec.ofNat 32 (d.get F.CHK_POS_POS / 0x8000 % 2))).chkEnd 3
    | 1 => (d.post 4 1 2 0).chkEnd 3
    | 3 => (d.post 4 1 6 0).chkEnd 3
    | _ => d

end Dev

end Sys2Proof.Machine
end

