-- ==== Sys2Proof/Machine/Faults.lean ====
section
/-!
DEFINITION. The fault collector (12_fault_handling.md) with the discards of R47 to R54, the reactions and the acknowledgement, and how a
command's effect settles: publications are passed on, posted faults are latched.
-/

namespace Sys2Proof.Machine

/-- A fault as it was latched: its source, and the effective level (R506). -/
structure Latched where
  ev : FaultEvt
  eff : Nat
  deriving DecidableEq, Repr

/-- The source of one class that is latched among those of one cycle: the highest nominal level, a hardware source before a RAISE, then
the first posted (R287, R504, R505). -/
def FaultEvt.pick (a b : FaultEvt) : FaultEvt := if a.lvl < b.lvl || (a.lvl == b.lvl && a.sw && !b.sw) then b else a

/-- The effective level of a fault of nominal level `l` while its class holds the levels of `mask` (R506, R507). -/
def effectiveLevel (l mask : Nat) : Nat :=
  if l = 0 then 0
  else match [1, 2, 3].find? (fun i => mask.testBit i) with
    | none => l
    | some m => max l (min (m + 1) 3)

namespace Collector

/-- The first source of a level that holds one, or takes this fault (R503): `more` says that the class had further sources. -/
def take (f : FirstSrc) (e : FaultEvt) (eff : Nat) (more : Bool) (stamp : BitVec 48) : FirstSrc :=
  if f.valid then { f with ovf := true }
  else { valid := true, ovf := more, esc := decide (e.lvl < eff), sw := e.sw, nlv := e.lvl, cls := e.cls, code := e.code, info := e.info,
         stamp := stamp }

/-- One fault of a class is latched (R503 to R508). -/
def latchOne (c : Collector) (e : FaultEvt) (more : Bool) (stamp : BitVec 48) : Collector × Nat :=
  let eff := effectiveLevel e.lvl (nth c.cls e.cls 0)
  ({ c with
      first := upd c.first eff (fun f => take f e eff more stamp)
      cls := if eff = 0 then c.cls else upd c.cls e.cls (fun m => m ||| 2 ^ eff)
      cnt := upd c.cnt eff (fun n => min (n + 1) 255) }, eff)

/-- The faults of one cycle are latched, class by class (R503 to R508, R53): `scope` is the union of their scopes. -/
def latch (c : Collector) (l : List FaultEvt) (stamp : BitVec 48) (scope : Latched → Nat) : Collector × List Latched :=
  let (c, out) := (List.range 9).foldl (fun (acc : Collector × List Latched) k =>
    match l.filter (·.cls == k) with
    | [] => acc
    | e :: t =>
      let p := t.foldl FaultEvt.pick e
      let (c, eff) := acc.1.latchOne p (!t.isEmpty) stamp
      (c, acc.2 ++ [⟨p, eff⟩])) (c, [])
  let disc := out.filter (fun x => decide (1 ≤ x.eff))
  if disc.isEmpty then (c, out)
  else ({ c with gen := c.gen + 1, dcnt := min (c.dcnt + 1) 255, scope := disc.foldl (fun m x => m ||| scope x) 0 }, out)

/-- An acknowledgement of level `l` (R513). -/
def ack (c : Collector) (l : Nat) : Collector :=
  { c with first := upd c.first l (fun f => { f with valid := false, ovf := false, esc := false })
           cls := c.cls.map (fun m => if m.testBit l then m - 2 ^ l else m) }

/-- The levels with an unacknowledged first source, as a mask (FLT_STAT.UNACK). -/
def unack (c : Collector) : Nat := (c.first.zipIdx).foldl (fun m p => m + p.1.valid.toNat * 2 ^ p.2) 0

/-- The highest unacknowledged level, 0 for L0 or none (FLT_STAT.HLV). -/
def hlv (c : Collector) : Nat := (([3, 2, 1] : List Nat).find? (fun i => c.unack.testBit i)).getD 0

end Collector

/-- The word of FLT_FSRC (R521). -/
def FirstSrc.word (f : FirstSrc) : Word :=
  BitVec.ofNat 32 (f.valid.toNat * 2 ^ 31 + f.ovf.toNat * 2 ^ 30 + f.esc.toNat * 2 ^ 29 + f.sw.toNat * 2 ^ 28 + f.nlv % 4 * 2 ^ 26 +
    f.cls % 16 * 2 ^ 8 + f.code % 256)

namespace Dev

/-- The word of FLT_STAT: UNACK and HLV come from the collector (R521). -/
def fltStat (d : Dev) : Word :=
  putBits (putBits (d.rd R.FLT_STAT) F.FLT_STAT_UNACK d.flt.unack) F.FLT_STAT_HLV d.flt.hlv

/-- The word of FLT_DISCGEN (R53). -/
def discGen (d : Dev) : Word := BitVec.ofNat 32 (d.flt.scope % 32 * 2 ^ 16 + d.flt.dcnt * 2 ^ 8 + d.flt.gen.toNat)

/-- Sweep work is in flight or an accumulation fed by sweeps is open (R383). -/
def sweepWork (d : Dev) : Bool :=
  d.conv.infl || (List.range 136).any (fun i =>
    d.get (F.ACC_DCFG_SWP (groupOf (i / 4)) (i % 4)) == 1 && (nth d.drawers i Drawer.reset).work.isOpen)

/-- The scope bits of a latched fault (R47, R48, R53, R383): 1 SCONV, 2 SCHN, 4 SBAL, 8 SLOG, 16 SSEQ. The MEM scope names the work whose
codeword failed, which ends in its own meaning and leaves none of the kinds of R49. -/
def scopeOf (d : Dev) (x : Latched) : Nat :=
  if 2 ≤ x.eff then 31
  else match x.ev.cls with
    | 0 => 1
    | 1 => if x.ev.code = 2 then 2 + 16 + d.sweepWork.toNat else 2
    | 5 => 4 + 8
    | 6 => 4
    | 7 => 2 + 16
    | 8 => 4 + 8 + 16
    | _ => 0

/-- A fault's shelf stops until it is acknowledged (R432, R510): every BAL fault of L1 and above but the die temperature's. -/
def shelfFault (d : Dev) (x : Latched) : Dev :=
  if x.ev.cls != 6 || x.eff = 0 || (x.ev.code = 7 && !x.ev.sw) then d
  else d.setShelf (if x.ev.code = 6 && !x.ev.sw then x.ev.info.toNat % 4 else bitsOf x.ev.info.toNat 5 2) (fun w => { w with faulted := true })

/-- The shelves whose work a BAL fault of L1 discards (R48). -/
def balScope (x : Latched) : Nat := if x.ev.code = 7 && !x.ev.sw then 15 else 2 ^ bitsOf x.ev.info.toNat 5 2

/-- The discard of everything in flight (R47, R544, R556). -/
def discardAll (d : Dev) : Dev :=
  let d := ((d.discardSweeps.abortDiag 9).discardChain.abortLoad).discardBal 15 false
  let d := (List.range 4).foldl (fun d k => d.selOff k) d
  ((d.discardLog false).chkEnd 4).memStop

/-- The discard that a latched fault makes (R47 to R49), as it finds the device. -/
def discardFor (d : Dev) (x : Latched) : Dev :=
  if 2 ≤ x.eff then d.discardAll
  else if x.eff = 0 then d
  else match x.ev.cls with
    | 0 => d.discardSweeps.abortDiag 9
    | 1 =>
      let conv := x.ev.code = 2 && d.sweepWork
      let d := d.discardChain
      if conv then d.discardSweeps.abortDiag 9 else d
    | 5 => (d.discardBal 15 false).discardLog false
    | 6 =>
      let m := balScope x
      (List.range 4).foldl (fun d k => if m.testBit k then d.selOff k else d) (d.discardBal m false)
    | 7 => d.discardAuth
    | 8 => ((d.discardSends.discardLog true).discardBal 15 true)
    | _ => d

/-- Entry to Lockout (R516, R518). -/
def enterLockout (d : Dev) : Dev :=
  if d.bit F.FLT_STAT_LKO then d
  else
    let (v, d) := d.draw
    let d := { d with keys := { d.keys with chal := v } }
    (((d.putB F.FLT_STAT_LKO true).setState 4).halt 2)

/-- The reaction of a latched fault's level (R253, R428, R509, R510), after the discard. -/
def reactTo (d : Dev) (x : Latched) : Dev :=
  let d := d.shelfFault x
  let memStop := x.ev.cls == 4 && !x.ev.sw && (x.ev.code == 6 || x.ev.code == 8 || (x.ev.code == 4 && x.ev.info == 3))
  let d := if memStop then { d with log := { d.log with memLevels := d.log.memLevels ||| 2 ^ x.eff } } else d
  let d := if x.ev.cls = 8 && 1 ≤ x.eff then d.halt 1 else d
  let d := if 2 ≤ x.eff then (d.cancelRun 8).safeDemandBy 3 else d
  let d := if x.eff = 3 then d.enterLockout else d
  if x.ev.cls = 6 && x.eff = 1 && !d.isTwin && d.get F.BAL_STAT_OWNER == 1 && d.bit F.BAL_CTL_AUTOHO && d.hoAvail then
    d.startHandover true
  else d

/-- The fault record of R512 and R638, and the snapshot. -/
def recordFault (d : Dev) (x : Latched) : Dev :=
  let f := nth d.flt.first x.eff ⟨false, false, false, false, 0, 0, 0, 0, 0⟩
  let src := ({ valid := true, ovf := f.ovf, esc := decide (x.ev.lvl < x.eff), sw := x.ev.sw, nlv := x.ev.lvl, cls := x.ev.cls,
                code := x.ev.code, info := x.ev.info, stamp := d.tb + 1 } : FirstSrc)
  let body := wordBytes src.word ++ wordBytes x.ev.info ++ beBytes 4 (src.stamp.toNat % 2 ^ 32) ++ beBytes 4 (src.stamp.toNat / 2 ^ 32) ++
    wordBytes d.discGen ++ wordBytes d.fltStat
  let n := nth d.log.l0 x.ev.cls 0
  let d :=
    if x.eff = 0 then
      if max 1 (d.get F.FLT_CFG_L0RATE) ≤ n then d
      else ({ d with log := { d.log with l0 := upd d.log.l0 x.ev.cls (· + 1) } }).logHw 5 0 body
    else d.logHw 5 0 body
  if 2 ≤ x.eff || (x.eff = 1 && d.bit F.FLT_CFG_SNAPL1) then
    d.snapTrigger src.word (BitVec.ofNat 32 src.stamp.toNat)
  else d

/-- The faults posted in this cycle are latched, and those that the last posting adds discard and react (R502). -/
def latchFaults (d : Dev) : Dev :=
  if d.posted.isEmpty then d
  else
    let all := d.fltNow ++ d.posted
    let (_, before) := d.fltBase.latch d.fltNow (d.tb + 1) d.scopeOf
    let (c, now) := d.fltBase.latch all (d.tb + 1) d.scopeOf
    let new := now.filter (fun x => !before.contains x)
    let c := if before.any (fun x => decide (1 ≤ x.eff)) then { c with scope := c.scope ||| d.flt.scope } else c
    let d := { d with flt := c, fltNow := all, posted := [] }
    let d := new.foldl discardFor d
    let d := new.foldl reactTo d
    (new.foldl recordFault d).irq 12

/-- An acknowledgement of level `l` acts before the faults of its own cycle (R513, R519): the log controller's faults and the stopped
shelves end with it (R284, R432, R510). -/
def ackLevel (d : Dev) (l : Nat) : Dev :=
  let base := d.fltBase.ack l
  let (c, _) := base.latch d.fltNow (d.tb + 1) d.scopeOf
  let c := { c with scope := d.flt.scope }
  let d := { d with fltBase := base, flt := c, log := { d.log with memLevels := if d.log.memLevels.testBit l then d.log.memLevels - 2 ^ l
                                                                                else d.log.memLevels } }
  let d := if l = 2 || l = 3 then { d with power := { d.power with reraise := true } } else d
  if nth c.cls 6 0 = 0 then { d with bal := { d.bal with shelves := d.bal.shelves.map (fun w => { w with faulted := false }) } } else d

/-- The entry of the snapshot ring for a drawer-0 publication of the channels `l` (R639): PH0 and SEQ of its first channel, the marks of the
published results, and A[31:0] of every channel. -/
def snapEntry (d : Dev) (l : List Nat) : List Byte :=
  let r := (d.drawer (l.headD 0) 0).vis
  let marks := l.foldl (fun m c => m ||| ((d.drawer c 0).vis.status.toNat % 65536 / 8 * 8)) 0
  beBytes 4 r.ph0.toNat ++ beBytes 1 r.seq.toNat ++ beBytes 1 r.dgen.toNat ++ beBytes 2 marks ++
    ((List.range 34).map (fun c => beBytes 4 ((d.drawer c 0).vis.a.toNat % 2 ^ 32))).flatten

/-- The drawer-0 publications of a command go to the snapshot ring and to the twin link (R168, R460, R639). -/
def passPublications (d : Dev) : Dev :=
  if d.pub0.isEmpty then d
  else
    let l := d.pub0
    ((d.twinPublish l).snapPublish (d.snapEntry l)) |> fun d => { d with pub0 := [] }

/-- What follows every command in its cycle: publications are passed on, faults are latched, a handover goes on, the log's queues empty, the
power account may pause a memory step, and the fault symbol follows. -/
def settle (d : Dev) : Dev := (d.passPublications.latchFaults.handoverStep.stageQueues.memPause).updateSymbol

end Dev

/-- A command acts on the device while it is out of reset and not in Banked; otherwise it has no effect (R588, R594). -/
def State.on (s : State) (f : Dev → Dev) : Host.Outcome State Fault Refusal :=
  .next (if s.dev.power.released && !s.dev.banked then { s with dev := (f s.dev).settle } else s)

/-- As `State.on`, for a command that also acts on the memories. -/
def State.onM (s : State) (f : Mems → Dev → Mems × Dev) : Host.Outcome State Fault Refusal :=
  .next (if s.dev.power.released && !s.dev.banked then { s with mems := (f s.mems s.dev).1, dev := (f s.mems s.dev).2.settle } else s)

/-- A command that acts on the device in Banked too: Fireguard, wake events and the ember watch (R32, R594). -/
def State.onAny (s : State) (f : Dev → Dev) : Host.Outcome State Fault Refusal :=
  .next (if s.dev.power.released then { s with dev := (f s.dev).settle } else s)

/-- A command of the device's supply and reset, which also acts while reset is held. -/
def State.onPower (s : State) (f : Mems → Dev → Mems × Dev) : Host.Outcome State Fault Refusal :=
  .next { s with mems := (f s.mems s.dev).1, dev := (f s.mems s.dev).2.settle }

end Sys2Proof.Machine
end

