-- ==== Sys2Proof/Machine/Flags.lean ====
section
/-!
DEFINITION. The results and flags of Imvia arithmetic (R235, R258, R259): every operation is computed exactly over integers and
narrowed once, and carry and overflow are the comparison of the two.
-/

namespace Sys2Proof.Machine

/-- A result with the flags it writes; `none` leaves a flag unchanged (R235). Z and N always follow the result. -/
structure Alu where
  r : Word
  c : Option Bool
  v : Option Bool
  deriving DecidableEq, Repr

namespace Alu

/-- A result that writes Z and N only. -/
def plain (r : Word) : Alu := ⟨r, none, none⟩

/-- a + b + carry: C is the carry out, V the signed overflow (R235). -/
def add (a b : Word) (cin : Nat) : Alu :=
  let s := a.toNat + b.toNat + cin
  let r : Word := BitVec.ofNat 32 s
  ⟨r, some (decide (2 ^ 32 ≤ s)), some (decide (r.toInt ≠ a.toInt + b.toInt + cin))⟩

/-- a − b − borrow: C is 1 when no borrow occurs, V the signed overflow (R235). -/
def sub (a b : Word) (borrow : Nat) : Alu :=
  let r : Word := BitVec.ofInt 32 ((a.toNat : Int) - b.toNat - borrow)
  ⟨r, some (decide (b.toNat + borrow ≤ a.toNat)), some (decide (r.toInt ≠ a.toInt - b.toInt - borrow))⟩

/-- An exact result limited to a range; V says that the limit acted, and C stays (R258). -/
def saturate (lo hi s : Int) : Alu := ⟨BitVec.ofInt 32 (clampInt lo hi s), none, some (decide (s < lo) || decide (hi < s))⟩

/-- Signed saturation. -/
def saturateSigned (s : Int) : Alu := saturate (-2147483648) 2147483647 s

/-- Unsigned saturation. -/
def saturateUnsigned (s : Int) : Alu := saturate 0 4294967295 s

/-- A left shift; C takes the last bit shifted out, and a shift by 0 leaves it (R258). -/
def shl (a : Word) (n : Nat) : Alu := ⟨a <<< n, if n = 0 then none else some (a.getLsbD (32 - n)), none⟩

/-- A logical right shift. -/
def shr (a : Word) (n : Nat) : Alu := ⟨a >>> n, if n = 0 then none else some (a.getLsbD (n - 1)), none⟩

/-- An arithmetic right shift. -/
def sar (a : Word) (n : Nat) : Alu := ⟨a.sshiftRight n, if n = 0 then none else some (a.getLsbD (n - 1)), none⟩

/-- A right rotation. -/
def ror (a : Word) (n : Nat) : Alu := ⟨a.rotateRight n, if n = 0 then none else some (a.getLsbD (n - 1)), none⟩

/-- The number of leading zeros, 0 to 32. -/
def leadingZeros (a : Word) : Nat := ((List.range 32).find? (fun i => a.getMsbD i)).getD 32

end Alu

namespace Dev

/-- The flags of a result; those the operation does not write stay (R235). -/
def aluFlags (d : Dev) (x : Alu) : Dev :=
  d.setFlags (x.r == 0) (x.r.getMsbD 0) (x.c.getD d.hearth.c) (x.v.getD d.hearth.v)

/-- A result written to a register with its flags. -/
def aluWrite (d : Dev) (rd : BitVec 4) (x : Alu) : Dev := (d.setW rd x.r).aluFlags x

/-- The truth of a condition code; 8 is no condition and is refused before (R257). -/
def cond (d : Dev) (c : BitVec 4) : Bool :=
  let h := d.hearth
  let p := match c.toNat % 8 with
    | 0 => true
    | 1 => h.z
    | 2 => h.n
    | 3 => h.c
    | 4 => h.v
    | 5 => h.c && !h.z
    | 6 => h.n != h.v
    | _ => h.z || h.n != h.v
  if 8 ≤ c.toNat then !p else p

end Dev

end Sys2Proof.Machine
end

