-- ==== Sys2Proof/Machine/Operands.lean ====
section
/-!
DEFINITION. How an Imvia instruction issues and what its operand fields give (R237, R239, R240, R254, R304): the wrapper every
instruction runs in, the immediates, and the checks on addresses and grants.
-/

namespace Sys2Proof.Machine

/-- An 18-bit immediate, sign-extended (R259, R261). -/
def imm18s (i : BitVec 18) : Word := i.signExtend 32

/-- An 18-bit immediate, zero-extended (R259). -/
def imm18z (i : BitVec 18) : Word := i.zeroExtend 32

namespace Dev

/-- The instruction at the boundary executes: it issues, and user code fetches it from inside its region (R246, R304). -/
def willRun (d : Dev) : Bool := d.issues && !(d.hearth.user && !d.inUserRegion d.pcOfs)

/-- An instruction issues at the boundary (R246, R304): nothing while Hearth is halted or waits or an interrupt is due; a PRIV exception
when user code fetches outside its region; else its effect `f`, which may be an exception. `cycles` is how long it takes. A wait or a stall
that it begins counts as an instruction when it ends (R661). -/
def issue (d : Dev) (cycles : Nat) (f : Dev → Except Exc Dev) : Dev :=
  if !d.issues then d
  else if d.hearth.user && !d.inUserRegion d.pcOfs then d.exception (Exc.priv (BitVec.ofNat 32 d.pcOfs)) false
  else match f d with
    | .ok d' => if d'.hearth.wait.isSome then d' else { d' with hearth := { d'.hearth with busy := cycles } }.event 2 1
    | .error e => d.exception e false

/-- An instruction whose next is the one after it. -/
def issueNext (d : Dev) (cycles : Nat) (f : Dev → Except Exc Dev) : Dev :=
  d.issue cycles (fun d => (f d).map advance)

/-- User code needs a grant bit for this instruction (R237). -/
def needGrant (d : Dev) (g : Fld) : Except Exc Unit := if d.hearth.user && !d.bit g then .error (Exc.priv 0) else .ok ()

/-- A check that may give an exception. -/
def need (x : Option Exc) : Except Exc Unit :=
  match x with
  | none => .ok ()
  | some e => .error e

/-- The result of an instruction that issues a command: 0 and Z = 1 when accepted, the cause and Z = 0 when refused (R267). -/
def result (d : Dev) (rd : BitVec 4) (cause : Nat) : Dev := (d.setW rd (BitVec.ofNat 32 cause)).setZ (cause == 0)

end Dev

end Sys2Proof.Machine
end

