-- ==== Sys2Proof/Machine/Balancing.lean ====
section
/-!
DEFINITION. The balancing commands (10_settle_balancing.md): BAL and BAL_CMD, excitations, the steps of a transfer, the balancer's own
conditions, bus pacing, quiet windows, and the handover to the twin.
-/

namespace Sys2Proof.Machine

/-- BAL, transfer form (R281, R282): OPND for Q = 0 and a current above 3,000 mA. -/
def execBalTransfer (rd ra : BitVec 4) (sh : Fin 4) (cell : Fin 8) (dir : Bool) (s : State) : Host.Outcome State Fault Refusal :=
  s.on (fun d => d.issueNext 2 (fun d => do
    d.needGrant F.SEQ_GRANT_BAL
    let q := bitsOf (d.w ra).toNat 0 16
    let i := bitsOf (d.w ra).toNat 16 16
    if q = 0 || 3000 < i then .error (Exc.opnd (d.w ra))
    else
      let (c, d) := d.balTransfer sh.val (8 * sh.val + cell.val) dir q i true false
      return d.result rd c))

/-- BAL, stop form of one shelf (R281, R282): always accepted. -/
def execBalStopShelf (rd : BitVec 4) (sh : Fin 4) (s : State) : Host.Outcome State Fault Refusal :=
  s.on (fun d => d.issueNext 2 (fun d => do
    d.needGrant F.SEQ_GRANT_BAL
    return (d.balStop sh.val).result rd 0))

/-- BAL, stop form of every shelf (R281, R282). -/
def execBalStopAll (rd : BitVec 4) (s : State) : Host.Outcome State Fault Refusal :=
  s.on (fun d => d.issueNext 2 (fun d => do
    d.needGrant F.SEQ_GRANT_BAL
    return (d.endAll 2).result rd 0))

namespace Dev

/-- A write to BAL_CMD, BAL_XCTL or BAL_HOCTL takes effect: not on a head, whose BAL block reads 0 and ignores writes (R434), and from the
chain only when it is authenticated (R403). -/
def balWrite (d : Dev) (by_ : By) : Bool := !d.isHead && by_ != .plain

/-- A transfer that BAL_CMD commands, from BAL_CMDQ, with its result in BAL_CMDRES.CAUSE (R402). -/
def cmdTransfer (d : Dev) (by_ : By) (w : Word) : Dev :=
  if !d.balWrite by_ then d
  else
    let sh := bitsOf w.toNat 16 2
    let (c, d) := d.balTransfer sh (8 * sh + bitsOf w.toNat 13 3) (w.getLsbD 12) (d.get F.BAL_CMDQ_QMC) (d.get F.BAL_CMDQ_IMA)
      (by_ == .hearth) true
    d.put F.BAL_CMDRES_CAUSE c

/-- A stop form of BAL_CMD (R402, R406): accepted. -/
def cmdStop (d : Dev) (by_ : By) (l : List Nat) : Dev :=
  if !d.balWrite by_ then d else (l.foldl (fun d k => d.balStop k) d).put F.BAL_CMDRES_CAUSE 0

/-- A write of BAL_CMD by its form (R437): form 3 is ignored. -/
def writeBalCmd (d : Dev) (by_ : By) (w : Word) : Dev :=
  match bitsOf w.toNat 10 2 with
  | 0 => d.cmdTransfer by_ w
  | 1 => d.cmdStop by_ [bitsOf w.toNat 16 2]
  | 2 => d.cmdStop by_ [0, 1, 2, 3]
  | _ => d

/-- The excitation on shelf `k`, if one is in flight, ends with STOP (R406, R438). -/
def stopExcitation (d : Dev) (k : Nat) : Dev := if (d.shelf k).act && (d.shelf k).xmode then d.balStop k else d

/-- A write of BAL_XCTL sets its fields; STOP ends the excitation, GO requests one, with the result in XRES (R421, R438). -/
def writeXctl (d : Dev) (by_ : By) (k : Nat) (w : Word) : Dev :=
  if !d.balWrite by_ then d
  else
    let d := d.writeFields (R.BAL_XCTL k) w false
    let d := if w.getLsbD 1 then d.stopExcitation k else d
    if w.getLsbD 0 then
      let (c, d) := d.excite k (by_ == .hearth)
      d.put F.BAL_CMDRES_XRES c
    else d

/-- BAL_CTL.QCLR clears every BAL_QCELL (R410). -/
def clearQcell (d : Dev) : Dev := { d with bal := { d.bal with qcell := d.bal.qcell.map (fun _ => (0, 0)) } }

/-- The HANDOVER command (R427): a twin answers STATE; NOAVAIL; STATE where the primary does not own. -/
def cmdHandover (d : Dev) : Dev :=
  if d.isHead then d
  else if d.isTwin then d.put F.BAL_HOCTL_RES 3
  else if d.bal.handing then d
  else if !d.hoAvail then d.put F.BAL_HOCTL_RES 2
  else if d.get F.BAL_STAT_OWNER != 1 then d.put F.BAL_HOCTL_RES 3
  else d.startHandover false

/-- The RETURN command (R430). -/
def cmdReturn (d : Dev) : Dev :=
  if d.isHead then d
  else if d.isTwin then d.put F.BAL_HOCTL_RES 3
  else match d.get F.BAL_STAT_OWNER with
    | 2 =>
      if d.bal.returning then d
      else ((({ d with bal := { d.bal with returning := true } }).put F.BAL_HOCTL_RES 1).sendOwn 3 false)
    | 0 => (d.setOwner 1).put F.BAL_HOCTL_RES 0
    | _ => d.put F.BAL_HOCTL_RES 3

/-- A write of BAL_HOCTL by its OP (R437). -/
def writeHoctl (d : Dev) (by_ : By) (w : Word) : Dev :=
  if !d.balWrite by_ then d
  else match bitsOf w.toNat 0 2 with
    | 1 => d.cmdHandover
    | 2 => d.cmdReturn
    | _ => d

/-- The twin takes balancing over and acknowledges; an automatic handover gives the L0 notice (R427, R428). -/
def takeHandover (d : Dev) (auto : Bool) : Dev :=
  if !d.isTwin || d.isHead then d
  else
    let d := (d.setOwner 1).sendOwn 2 false
    if auto then d.post 6 0 8 (BitVec.ofNat 32 d.partnerAddr) else d

/-- The twin's acknowledgement completes the handover (R427, step 5). -/
def handoverDone (d : Dev) : Dev :=
  if !d.bal.handing || d.isTwin then d
  else (({ d with bal := { d.bal with handing := false, handAuto := false, hoSent := false } }).setOwner 2).put F.BAL_HOCTL_RES 0

/-- The twin stops for a RETURN: its work ends with OWNER and it acknowledges once its SEL pins are off (R430). -/
def stopForReturn (d : Dev) : Dev :=
  if !d.isTwin || d.isHead then d
  else ({ d with bal := { d.bal with returning := true } }).setOwner 2

/-- The twin has stopped: the primary owns again (R430). -/
def returnDone (d : Dev) : Dev :=
  if !d.bal.returning || d.isTwin then d
  else (({ d with bal := { d.bal with returning := false } }).setOwner 1).put F.BAL_HOCTL_RES 0

/-- A primary whose link is not UP 1.35 ms after reset release takes balancing (R429). -/
def ownAlone (d : Dev) : Dev :=
  if d.isHead || d.isTwin || d.linkUp || d.power.ownDecided || decide (d.cycle < d.power.releasedAt + 135000) then d
  else ({ d with power := { d.power with ownDecided := true } }).setOwner 1

end Dev

/-- BAL_CMD_TRANSFER (R402). -/
def execBalCmdTransfer (by_ : By) (w : Word) (s : State) : Host.Outcome State Fault Refusal := s.on (·.cmdTransfer by_ w)

/-- BAL_CMD_STOP_SHELF (R402). -/
def execBalCmdStopShelf (by_ : By) (sh : Fin 4) (s : State) : Host.Outcome State Fault Refusal := s.on (·.cmdStop by_ [sh.val])

/-- BAL_CMD_STOP_ALL (R402). -/
def execBalCmdStopAll (by_ : By) (s : State) : Host.Outcome State Fault Refusal := s.on (·.cmdStop by_ [0, 1, 2, 3])

/-- SEL_TURN_ON (R404). -/
def execSelTurnOn (k : Fin 4) (s : State) : Host.Outcome State Fault Refusal := s.on (·.selTurnOn k.val)

/-- SELECTION_SETTLED (R404): `vc` is the cell voltage that the converter infers on its first cycle, in codes. -/
def execSelectionSettled (k : Fin 4) (vc : BitVec 16) (s : State) : Host.Outcome State Fault Refusal := s.on (·.selSettled k.val vc.toNat)

/-- SWITCHING_CYCLE_END (R398): the average in 100 µA, positive into the cell, the cycle's ticks, the charge by the peak comparator in pC,
and whether the peak limit or the overcurrent comparator acted. -/
def execSwitchingCycleEnd (k : Fin 4) (avg ticks : BitVec 16) (pred : BitVec 32) (ilim overcur : Bool) (s : State) :
    Host.Outcome State Fault Refusal :=
  s.on (·.cycleEnd k.val avg.toInt ticks.toNat pred.toInt ilim overcur)

/-- NO_DEMAGNETISATION (R431). -/
def execNoDemagnetisation (k : Fin 4) (s : State) : Host.Outcome State Fault Refusal :=
  s.on (fun d => if (d.shelf k.val).act then d.post 6 1 3 (d.balInfo k.val) else d)

/-- SELECTION_DRIVER_FAULT (R431). -/
def execSelectionDriverFault (cell : Fin 32) (s : State) : Host.Outcome State Fault Refusal :=
  s.on (fun d => if d.isHead then d else d.post 6 1 5 (BitVec.ofNat 32 (cell.val / 8 * 32 + cell.val)))

/-- SELECTION_INTERLOCK (R431). -/
def execSelectionInterlock (k : Fin 4) (s : State) : Host.Outcome State Fault Refusal :=
  s.on (fun d => if d.isHead then d else d.post 6 2 6 (BitVec.ofNat 32 k.val))

/-- SEL_HOLD_EXPIRY (R404). -/
def execSelHoldExpiry (k : Fin 4) (s : State) : Host.Outcome State Fault Refusal := s.on (·.selHoldEnd k.val)

/-- BUS_PAUSE (R411). -/
def execBusPause (high : Bool) (s : State) : Host.Outcome State Fault Refusal := s.on (·.busPause high)

/-- BUS_RESUME (R411). -/
def execBusResume (high : Bool) (s : State) : Host.Outcome State Fault Refusal := s.on (·.busResume high)

/-- BAL_QCLR (R410). -/
def execBalQclr (s : State) : Host.Outcome State Fault Refusal := s.on (fun d => if d.isHead then d else d.clearQcell)

/-- BAL_XCTL_GO (R421). -/
def execBalXctlGo (by_ : By) (k : Fin 4) (w : Word) (s : State) : Host.Outcome State Fault Refusal :=
  s.on (·.writeXctl by_ k.val (w ||| 1))

/-- BAL_XCTL_STOP (R406). -/
def execBalXctlStop (by_ : By) (k : Fin 4) (s : State) : Host.Outcome State Fault Refusal :=
  s.on (fun d => if d.balWrite by_ then d.stopExcitation k.val else d)

/-- EXCITATION_START (R422). -/
def execExcitationStart (k : Fin 4) (s : State) : Host.Outcome State Fault Refusal := s.on (·.excStart k.val)

/-- EXCITATION_BOUNDARY (R424). -/
def execExcitationBoundary (k : Fin 4) (s : State) : Host.Outcome State Fault Refusal := s.on (·.excBoundary k.val)

/-- HANDOVER (R427). -/
def execHandover (s : State) : Host.Outcome State Fault Refusal := s.on Dev.cmdHandover

/-- RETURN (R430). -/
def execReturnOwner (s : State) : Host.Outcome State Fault Refusal := s.on Dev.cmdReturn

/-- OWN_HANDOVER (R427). -/
def execOwnHandover (ok auto : Bool) (s : State) : Host.Outcome State Fault Refusal := s.on (·.onMsg ok (·.takeHandover auto))

/-- OWN_ACK (R427). -/
def execOwnAck (ok : Bool) (s : State) : Host.Outcome State Fault Refusal := s.on (·.onMsg ok Dev.handoverDone)

/-- OWN_STOP (R430). -/
def execOwnStop (ok : Bool) (s : State) : Host.Outcome State Fault Refusal := s.on (·.onMsg ok Dev.stopForReturn)

/-- OWN_STOPACK (R430). -/
def execOwnStopack (ok : Bool) (s : State) : Host.Outcome State Fault Refusal := s.on (·.onMsg ok Dev.returnDone)

/-- OWNERSHIP_TIMEOUT (R429). -/
def execOwnershipTimeout (s : State) : Host.Outcome State Fault Refusal := s.on Dev.ownAlone

/-- QUIET_WINDOW_OPEN (R414): `cut` names the shelves whose cycle is cut short. -/
def execQuietWindowOpen (cut : BitVec 4) (s : State) : Host.Outcome State Fault Refusal := s.on (·.quietOpen cut.toNat)

/-- QUIET_WINDOW_CLOSE (R414). -/
def execQuietWindowClose (s : State) : Host.Outcome State Fault Refusal := s.on Dev.quietClose

end Sys2Proof.Machine
end

