-- ==== Sys2Proof/Machine/Calibration.lean ====
section
/-!
DEFINITION. The calibration commands (14_calibration.md): self-calibration, the three copies of the factor set, background tracking,
and the die temperature.
-/

namespace Sys2Proof.Machine

/-- The CRC of a factor set (R579); a head counts its converter words as 0 (R25). -/
def setCrc (head : Bool) (set : List Word) : Word :=
  Crc.crc32 (((if head then List.replicate 204 (0 : Word) ++ set.drop 204 else set).map wordBytesLe).flatten)

/-- The bits of word `i` of a factor set that exist (R585). -/
def factorMask (i : Nat) : Word :=
  if i < 204 then (match i % 6 with
    | 0 => 0x0000FFFF
    | 1 => 0x0003FFFF
    | 5 => 0x0000FFFF
    | _ => 0xFFFFFFFF)
  else if i = 204 || i = 206 then 0x001F3F3F
  else if i = 208 then 0xFFFFFF00
  else 0xFFFFFFFF

/-- The index in the set of a factor register at an offset of the CAL block (R584). -/
def factorIndex (ofs : Nat) : Option Nat :=
  if ofs < 0x330 then some (ofs / 4)
  else if 0x340 ≤ ofs && ofs < 0x350 then some (204 + (ofs - 0x340) / 4)
  else if ofs = 0x350 then some 208
  else none

namespace Dev

/-- The active set becomes the snapshot, and CAL_SCRC its CRC (R576). -/
def calSnapshot (d : Dev) : Dev :=
  ({ d with cal := { d.cal with snap := d.cal.active } }).wr R.CAL_SCRC (setCrc d.isHead d.cal.active)

/-- The tag of the next calibration record: the slots alternate (R580). -/
def nextCalTag (d : Dev) : BitVec 16 :=
  let staged := d.log.staged.filterMap (fun x => match x with
    | .record r => some r
    | .cut => none)
  match ((staged ++ d.log.hwQ).filter (fun r => r.ty == 0x07)).getLast? with
  | some r => if r.tag = 1 then 2 else 1
  | none =>
    match d.nv.calA, d.nv.calB with
    | none, _ => 1
    | some _, none => 2
    | some a, some b => if a.order < b.order then 1 else 2

/-- The active set and its CRC go to the peat log (R580). -/
def calRecord (d : Dev) : Dev :=
  if !d.bit F.CAL_CTL_LOGW then d
  else d.logHw 0x07 d.nextCalTag ((d.cal.active.map wordBytes).flatten ++ wordBytes (setCrc d.isHead d.cal.active))

/-- New converter factors are in force (R570): the generation, and the base that tracking moves from (R572). -/
def newFactors (d : Dev) : Dev :=
  ({ d with cal := { d.cal with base := d.cal.active, trk := d.cal.trk.map (fun _ => Track.reset) } }).put F.CAL_GEN_GEN
    (d.get F.CAL_GEN_GEN + 1)

/-- CAL_RUN is accepted (R567, steps 1 and 2): a diagnostic run aborts, a converter BIST step is abandoned, and a sweep in flight ends with
the instants already held. -/
def calStart (d : Dev) : Dev :=
  let d := (d.putB F.CAL_STAT_RUN true).abortDiag 8
  let d := d.putB F.BST_STAT_CBUSY false
  let d := { d with cal := { d.cal with taken := none } }
  if !d.conv.infl then d
  else
    let keep := d.conv.instants.filter (fun i => i.injected || decide (i.hold ≤ d.cycle))
    let held := keep.any (fun i => !i.injected)
    let marked := (keep.zipIdx).map (fun p =>
      if !p.1.injected && !(keep.drop (p.2 + 1)).any (fun i => !i.injected) then { p.1 with last := true } else p.1)
    let d := { d with conv := { d.conv with noMore := true, instants := marked } }
    if held then d
    else ({ d with conv := { d.conv with infl := false, stopReq := false, noMore := false } }).irq 4

/-- A CAL_CMD.RUN write (R566): 2 STATE, 3 HEAD, 4 BUSY, or accepted. -/
def calRun (d : Dev) : Dev :=
  if d.pstate != 1 && d.pstate != 2 then d.put F.CAL_STAT_RRES 2
  else if d.isHead then d.put F.CAL_STAT_RRES 3
  else if d.bit F.CAL_STAT_RUN then d.put F.CAL_STAT_RRES 4
  else (d.put F.CAL_STAT_RRES 1).calStart

/-- The start-up CAL_RUN at frequency lock (R55 step 7, R565). -/
def calAuto (d : Dev) : Dev :=
  if d.isHead || !d.power.calPending || !d.bit F.SYS_CLKSTAT_FLOCK || d.pstate != 1 || d.bit F.CAL_STAT_RUN then d
  else ({ d with power := { d.power with calPending := false } }).calStart

/-- The converters are taken once the injection has published and the last instant has entered the drawers (R567, step 3). -/
def calTake (d : Dev) : Dev :=
  if !d.bit F.CAL_STAT_RUN || d.cal.taken.isSome || d.inj.pend || d.inj.run || !d.conv.instants.isEmpty then d
  else { d with cal := { d.cal with taken := some d.cycle } }

/-- The residuals of the channels, in the words of CAL_QRES (R587). -/
def setResiduals (d : Dev) (res : List Byte) : Dev :=
  (List.range 9).foldl (fun d j =>
    d.wr (R.CAL_QRES j) (BitVec.ofNat 32 ((List.range 4).foldl (fun n b =>
      n + (if 4 * j + b < 34 then (nth res (4 * j + b) 0).toNat else 0) * 2 ^ (8 * b)) 0))) d

/-- CAL_RUN makes its factors active (R567 step 6, R569, R570, R573, R580). -/
def calComplete (d : Dev) (factors : List Word) (res : List Byte) : Dev :=
  match d.cal.taken with
  | none => d
  | some t =>
    if !d.bit F.CAL_STAT_RUN || decide (d.cycle < t + 1200000) then d
    else
      let tnow := d.get F.CAL_TREF_TNOW
      let conv := (List.range 204).map (fun i => nth factors i (nth d.cal.active i 0) &&& factorMask i)
      let set := conv ++ (d.cal.active.drop 204).take 4 ++ [BitVec.ofNat 32 (tnow * 65536 + 256)]
      let d := ({ d with cal := { d.cal with active := set, taken := none } }).newFactors.calSnapshot
      let d := ((d.putB F.CAL_STAT_RUN false).put F.CAL_TREF_TREF tnow).putB F.CAL_STAT_TRKPAUSE false
      let d := d.setResiduals res
      let bad := (List.range 34).filter (fun c => decide (d.get F.CAL_QLIM_LIM < (nth res c 0).toNat))
      let d := (d.putB F.CAL_STAT_QFAIL (!bad.isEmpty)).stale 0 31
      let d := match bad.head? with
        | none => d
        | some c => if d.bit F.CAL_CTL_QFEN then d.post 0 1 5 (BitVec.ofNat 32 c) else d
      d.calRecord.irq 15

/-- A write of the key to CAL_UNLOCK (R577). -/
def calUnlock (d : Dev) (w : Word) : Dev :=
  if w != 0x43414C21 then d
  else ({ d with cal := { d.cal with shadow := d.cal.snap, wroteAt := d.cycle } }).putB F.CAL_STAT_LOCKED false

/-- A write of a factor register (R575, R577): into the shadow while the block is unlocked, else the security alarm. -/
def calShadowWrite (d : Dev) (addr : Nat) (w : Word) : Dev :=
  match factorIndex (addr % 4096) with
  | none => d
  | some i =>
    if d.isHead && i < 204 then d
    else if d.bit F.CAL_STAT_LOCKED then d.lockedWrite
    else { d with cal := { d.cal with shadow := upd d.cal.shadow i (fun _ => w &&& factorMask i), wroteAt := d.cycle } }

/-- The block locks 1 s after the last write of the shadow (R577). -/
def calRelock (d : Dev) : Dev :=
  if d.bit F.CAL_STAT_LOCKED || decide (d.cycle < d.cal.wroteAt + 100000000) then d else d.putB F.CAL_STAT_LOCKED true

/-- A commit (R578): the parts of CMASK are copied, or the first refusal of STATE, BUSY, LOCKED, CHECK stands. -/
def calCommit (d : Dev) (mask : Nat) : Dev :=
  if d.pstate != 1 && d.pstate != 2 then d.put F.CAL_STAT_CRES 5
  else if d.bit F.CAL_STAT_RUN then d.put F.CAL_STAT_CRES 4
  else if d.bit F.CAL_STAT_LOCKED then d.put F.CAL_STAT_CRES 3
  else if setCrc d.isHead d.cal.shadow != d.rd R.CAL_CHECK then d.put F.CAL_STAT_CRES 2
  else
    let mask := if mask % 4 = 0 then 3 else mask
    let conv := mask.testBit 0 && !d.isHead
    let sh := d.cal.shadow
    let meta_ : Word := if conv then (nth sh 208 0 &&& 0xFFFF0000) ||| 0x200 else nth d.cal.active 208 0
    let a := (if conv then sh.take 204 else d.cal.active.take 204) ++
      (if mask.testBit 1 then (sh.drop 204).take 4 else (d.cal.active.drop 204).take 4) ++ [meta_]
    let d := { d with cal := { d.cal with active := a } }
    let d := if conv then d.newFactors.stale 0 17 else d
    let d := d.calSnapshot
    let d := if conv then d.setTref (meta_.toNat / 65536) else d
    ((d.putB F.CAL_STAT_LOCKED true).put F.CAL_STAT_CRES 1).calRecord

/-- A LOAD (R580): the newer intact slot, or 3 when neither is intact, or 4 on a locked block. -/
def calLoad (d : Dev) : Dev :=
  if d.bit F.CAL_STAT_LOCKED then d.put F.CAL_STAT_LRES 4
  else
    let good (s : Option CalSlot) : Option CalSlot := s.filter (fun s => d.mounted && s.set.length == 209 && setCrc d.isHead s.set == s.crc)
    let load (s : CalSlot) (n : Nat) : Dev :=
      (({ d with cal := { d.cal with shadow := s.set, wroteAt := d.cycle } }).wr R.CAL_CHECK s.crc).put F.CAL_STAT_LRES n
    match good d.nv.calA, good d.nv.calB with
    | none, none => d.put F.CAL_STAT_LRES 3
    | some a, none => load a 1
    | none, some b => load b 2
    | some a, some b => if a.order < b.order then load b 2 else load a 1

/-- The number by which a tracked factor moves. -/
def moveStep : Move → Int
  | .down => -1
  | .stay => 0
  | .up => 1

/-- The update of one kind of channel `ch` after 64 conversions (R571, R572): one step of its offset or gain, unless it has moved too far
from its base already, which sets TRKLIM. -/
def trackUpdate (d : Dev) (ch : Nat) (gain : Bool) (m : Move) : Dev :=
  let i := ch * 6 + gain.toNat
  let val (l : List Word) : Int := if gain then ((nth l i 0).toNat : Int) else signed 16 (nth l i 0).toNat
  let lim := if gain then d.get F.CAL_TRKLIM_GLIM else d.get F.CAL_TRKLIM_OLIM
  let off (v : Int) : Bool := decide (lim < (v - val d.cal.base).natAbs)
  let v := val d.cal.active
  let new := if off v then v else v + moveStep m
  let w : Word := BitVec.ofInt 32 new &&& factorMask i
  let d := { d with cal := { d.cal with active := upd d.cal.active i (fun _ => w) } }
  let d := d.count F.CAL_TRKCNT_UPD 1
  if off new then d.stale 16 0 else d

/-- A tracking attempt of channel `ch` (R571): made when no acquisition or conversion of it falls within its 100 ticks, which end now. -/
def trackOne (d : Dev) (ch : Nat) (m : Move) : Dev :=
  let t := nth d.cal.trk ch Track.reset
  let put (d : Dev) (t : Track) : Dev := { d with cal := { d.cal with trk := upd d.cal.trk ch (fun _ => t) } }
  if d.cycle < nth d.cal.lastHold ch 0 + 180 && nth d.cal.lastHold ch 0 != 0 then
    let d := put d { t with skips := t.skips + 1 }
    if 500000 ≤ t.skips + 1 then (d.putB F.CAL_STAT_TRKPAUSE true).stale 2 0 else d
  else
    let gain := t.refNext
    let n := (if gain then t.refs else t.zeros) + 1
    let at_ := if gain then t.refAt else t.zeroAt
    let t := { t with refNext := !gain, skips := 0 }
    if 64 ≤ n && decide (at_ + 1000000 ≤ d.cycle) then
      let d := d.trackUpdate ch gain m
      let now := d.cycle
      put d (if gain then { t with refs := 0, refAt := now, refDone := true } else { t with zeros := 0, zeroAt := now, zeroDone := true })
    else put d (if gain then { t with refs := n } else { t with zeros := n })

/-- The tracking attempts of the enabled converters, every 2,000 ticks (R571, R573): `moves` are the directions of the estimates, `res` the
rms residuals of the round that they may complete. -/
def track (d : Dev) (moves : List Move) (res : List Byte) : Dev :=
  if d.isHead || !d.bit F.CAL_CTL_TRKEN || !(d.pstate == 2 || d.pstate == 4) || d.bit F.CAL_STAT_RUN ||
      decide (d.cycle < d.cal.trkAt + 2000) then d
  else
    let chs := (List.range 34).filter d.chanEnabled
    let d := { d with cal := { d.cal with trkAt := d.cycle } }
    let d := chs.foldl (fun d ch => d.trackOne ch (nth moves ch .stay)) d
    let done (d : Dev) (ch : Nat) : Bool := (nth d.cal.trk ch Track.reset).zeroDone && (nth d.cal.trk ch Track.reset).refDone
    if chs.isEmpty || !chs.all (done d) then d
    else
      let d := { d with cal := { d.cal with trk := d.cal.trk.map (fun t : Track => { t with zeroDone := false, refDone := false }) } }
      let d := (d.put F.CAL_TRKCNT_ROUNDS (d.get F.CAL_TRKCNT_ROUNDS + 1)).put F.CAL_TREF_TREF (d.get F.CAL_TREF_TNOW)
      let paused := chs.any (fun ch => decide (500000 ≤ (nth d.cal.trk ch Track.reset).skips))
      let d := if paused then d else d.putB F.CAL_STAT_TRKPAUSE false
      (d.setResiduals res).stale 0 (if paused then 12 else 14)

end Dev

/-- CAL_RUN_AUTO (R565). -/
def execCalRunAuto (s : State) : Host.Outcome State Fault Refusal := s.on Dev.calAuto

/-- CAL_CMD_RUN (R566). -/
def execCalCmdRun (s : State) : Host.Outcome State Fault Refusal := s.on Dev.calRun

/-- CAL_CONVERTERS_TAKEN (R567). -/
def execCalConvertersTaken (s : State) : Host.Outcome State Fault Refusal := s.on Dev.calTake

/-- CAL_RUN_COMPLETE (R567): the 204 converter words measured, and the residual of each channel. -/
def execCalRunComplete (factors : List Word) (residual : List Byte) (s : State) : Host.Outcome State Fault Refusal :=
  s.on (·.calComplete factors residual)

/-- CAL_UNLOCK (R577). -/
def execCalUnlock (w : Word) (s : State) : Host.Outcome State Fault Refusal := s.on (·.calUnlock w)

/-- CAL_SHADOW_WRITE (R575). -/
def execCalShadowWrite (addr : BitVec 16) (w : Word) (s : State) : Host.Outcome State Fault Refusal :=
  s.on (fun d => if addr.toNat / 4096 = 13 then d.calShadowWrite addr.toNat w else d)

/-- CAL_RELOCK (R577). -/
def execCalRelock (s : State) : Host.Outcome State Fault Refusal := s.on Dev.calRelock

/-- CAL_COMMIT (R578). -/
def execCalCommit (mask : BitVec 2) (s : State) : Host.Outcome State Fault Refusal := s.on (·.calCommit mask.toNat)

/-- CAL_LOCK (R577). -/
def execCalLock (s : State) : Host.Outcome State Fault Refusal := s.on (fun d => d.putB F.CAL_STAT_LOCKED true)

/-- CAL_LOAD (R580). -/
def execCalLoad (s : State) : Host.Outcome State Fault Refusal := s.on Dev.calLoad

/-- CAL_SNAP (R576). -/
def execCalSnap (s : State) : Host.Outcome State Fault Refusal := s.on Dev.calSnapshot

/-- TRACKING_ATTEMPT (R571). -/
def execTrackingAttempt (moves : List Move) (residual : List Byte) (s : State) : Host.Outcome State Fault Refusal :=
  s.on (·.track moves residual)

/-- DIE_TEMP_CONVERSION (R574): the temperature in 1/16 °C. -/
def execDieTempConversion (t : BitVec 16) (s : State) : Host.Outcome State Fault Refusal :=
  s.on (·.setTnow t.toInt)

end Sys2Proof.Machine
end

