-- ==== Sys2Proof/Machine/Conversion.lean ====
section
/-!
DEFINITION. The conversion commands (03_conversion.md): the software launch, arming, stopping, injections, the acquisition and the
completion of sampling instants, and the read of the first instant.
-/

namespace Sys2Proof.Machine

namespace Dev

/-- The channels that an injection takes from a scheduled instant: they are removed, counted in CONV_DROP.INJ, and the drawers
that miss the sample count a gap (R126). -/
def loseToInjection (d : Dev) (i : Instant) (j : Injection) : Instant × Dev :=
  let lost := i.cells &&& j.cells
  let cur := i.cur && j.cur
  let aux := i.aux && j.aux
  let n := popcount lost + cur.toNat + aux.toNat
  let chs := (List.range 32).filter (lost.getLsbD ·) ++ (if cur then [32] else []) ++ (if aux then [33] else [])
  let d := if n = 0 then d else d.count F.CONV_DROP_INJ n
  ({ i with cells := i.cells &&& ~~~j.cells, cur := i.cur && !j.cur, aux := i.aux && !j.aux },
   chs.foldl (fun d ch => d.gapDrawers ch i.slot) d)

/-- A request for an injected conversion (R124 to R127): the cause of its refusal, and the device afterwards. A refused request
sets INJ alone. An accepted one fixes its hold edge at max(a + 23, E + 20), takes the sources that stand at acceptance, stops
the shelf converters (R415), and takes the place of an instant already in acquisition on its channels. -/
def requestInjection (d : Dev) (cells : Word) (cur aux : Bool) (slot drawer : Nat) : Option Fld × Dev :=
  if d.inj.pend || d.inj.run || d.bit F.CAL_STAT_RUN || !d.inMeasure then (some F.CONV_MISSC_INJ, d.missTrigger F.CONV_MISSC_INJ)
  else
    let a := d.cycle
    let busy := d.conv.instants.filter (fun i => decide (i.hold ≤ a) && ((i.cells &&& cells) != 0 || (i.cur && cur) || (i.aux && aux)))
    let e := busy.foldl (fun m i => max m (i.hold + 80)) 0
    let hold := max (a + 23) (e + 20)
    let csrc := d.get0 F.CONV_DIAG_CSRC
    let j : Injection :=
      { pend := true, run := false, cells := cells, cur := cur, aux := aux, slot := slot, drawer := drawer,
        diagCells := if csrc = 0 then 0 else BitVec.ofNat 32 (d.get0 F.CONV_DIAGCH_CELL) &&& cells,
        diagCur := cur && d.get0 F.CONV_DIAG_ISRC != 0, hold := hold, fromDiag := false }
    let d := ({ d with inj := j }).quietNow
    let (l, d) := d.conv.instants.foldl (fun (acc : List Instant × Dev) i =>
      if !i.injected && decide (a < i.hold) then
        let (i', d') := acc.2.loseToInjection i j
        (acc.1 ++ [i'], d')
      else (acc.1 ++ [i], acc.2)) ([], d)
    (none, { d with conv := { d.conv with instants := l } })

/-- The converters of an instant are occupied up to 80 ticks after its hold edge, so that no tracking attempt that overlaps it is made
(R119, R571). -/
def occupy (d : Dev) (cells : Word) (cur aux : Bool) (hold : Nat) : Dev :=
  { d with cal := { d.cal with lastHold := (d.cal.lastHold.zipIdx).map (fun p =>
      if (if p.2 < 32 then cells.getLsbD p.2 else if p.2 = 32 then cur else aux) then max p.1 hold else p.1) } }

/-- The acquisition of the pending injection begins: it is running, and its instant joins the converters' work (R125). -/
def startInjection (d : Dev) : Dev :=
  let j := d.inj
  if !j.pend || decide (d.cycle + 20 < j.hold) then d
  else
    let i : Instant :=
      { hold := j.hold, fine := 0, cells := j.cells, cur := j.cur, aux := j.aux, slot := j.slot, diagCells := j.diagCells,
        diagCur := j.diagCur, qshort := true, injected := true, drawer := j.drawer, phaseBased := false, last := false, env := none }
    ({ d with inj := { j with pend := false, run := true }, conv := { d.conv with instants := d.conv.instants ++ [i] } }).occupy
      j.cells j.cur j.aux j.hold

/-- The sweep leaves flight and line 4 posts (R118, step 9; R245). -/
def sweepDone (d : Dev) : Dev :=
  if d.conv.infl then ({ d with conv := { d.conv with infl := false, stopReq := false, noMore := false } }).irq 4 else d

/-- The acquisition of the next instant of the sweep in flight begins, 20 ticks before its hold edge (R118, step 4): the
auxiliary multiplexer takes its slot, an instant less than 100 ticks after the one before is dropped (R112), channels inside an
injection's occupancy are dropped (R126), and the time of the following instant is fixed. -/
def acquire (d : Dev) : Dev :=
  let v := d.conv
  if !v.infl || v.noMore || decide (d.cycle + 20 < v.next) then d
  else
    let c := v.cfg
    let hold := v.next
    let isLast := v.stopReq || (c.count != 0 && decide (c.count ≤ v.idx + 1))
    let (slot, d) := if c.aux then d.nextSlot c else (0, d)
    let dropped := c.unit && (match v.lastHold with
      | some h => decide (hold < h + 100)
      | none => false)
    let diagCells := if c.csrc = 0 then 0 else c.diagch &&& c.cells
    let i : Instant :=
      { hold := hold, fine := v.fine, cells := c.cells, cur := c.cur, aux := c.aux, slot := slot, diagCells := diagCells,
        diagCur := c.cur && c.isrc != 0, qshort := v.late, injected := false, drawer := 0, phaseBased := v.phaseBased,
        last := isLast, env := none }
    let (l, d) :=
      if dropped then
        let d := d.count F.CONV_DROP_RATE 1
        let chs := (List.range 32).filter (c.cells.getLsbD ·) ++ (if c.cur then [32] else []) ++ (if c.aux then [33] else [])
        ([], chs.foldl (fun d ch => d.gapDrawers ch slot) d)
      else if injectionOverlaps d.inj hold then
        let (i, d) := d.loseToInjection i d.inj
        ([i], d)
      else ([i], d)
    let d := l.foldl (fun d i => d.occupy i.cells i.cur i.aux i.hold) d
    let (nxt, fine) := d.instantAt (v.idx + 1) hold
    let old := if dropped && isLast then
        (match d.conv.instants.reverse with
         | [] => []
         | x :: t => ({ x with last := !x.injected }) :: t).reverse
      else d.conv.instants
    let d := { d with conv := { d.conv with
      instants := old ++ l, idx := (v.idx + 1) % 65536, noMore := isLast, next := nxt, fine := fine, late := false,
      lastHold := if dropped then v.lastHold else some hold } }
    if dropped && isLast && old.isEmpty then d.sweepDone else d

/-- What the samples of a hold edge of this cycle take with them (R105, R165, R173, R176, R184). -/
def holdEnv (d : Dev) (i : Instant) : HoldEnv :=
  let frac := if d.bit F.CONV_FADJ_VALID then d.get F.CONV_FADJ_FRAC else 0
  let t := d.now * 32 + i.fine - frac
  { phase := match d.tim.model with
      | none => 0
      | some m => m.phaseAt t
    phaseOk := d.plock
    exc := d.bal.shelves.map (fun w => (w.xrunning, BitVec.ofNat 32 (w.xperiods * 65536 + w.angle / 2 ^ 24 % 65536)))
    cur := d.bal.shelves.map (fun w =>
      (w.act && w.phase == .running && !w.paused && !w.quiet, w.cell, w.lastAvg, d.cycle - w.avgAt))
    cgen := BitVec.ofNat 4 (d.get F.CAL_GEN_GEN)
    stale := d.bit F.CAL_STALE_STALE }

/-- The cells whose scheduled samples carry DIAG because of a diagnostic run: while its test DAC or open-wire source acts, and for
40 µs after (R526). -/
def diagMarked (d : Dev) : Word :=
  let kind := d.get F.BST_DSTAT_KIND
  if (d.get F.BST_DSTAT_STATE == 1 && (kind == 1 || kind == 2)) then d.diag.cells ||| (if d.cycle < d.diag.markUntil then d.diag.marked else 0)
  else if d.cycle < d.diag.markUntil then d.diag.marked
  else 0

/-- The hold edges of this cycle take what their samples will carry; an instant whose quiet window a cycle cut into is marked QSHORT
(R414, R415), and its window lasts QTRAIL more. -/
def captureHolds (d : Dev) : Dev :=
  let due (i : Instant) : Bool := decide (i.hold ≤ d.cycle) && i.env.isNone
  let n := (d.conv.instants.filter due).length
  let m := d.diagMarked
  let cut := d.bal.cut
  if n = 0 then d
  else
    ({ d with
      conv := { d.conv with instants := d.conv.instants.map (fun i =>
        if due i then { i with env := some (d.holdEnv i), diagCells := i.diagCells ||| (m &&& i.cells), qshort := i.qshort || cut } else i) }
      bal := { d.bal with cut := false, quietUntil := d.cycle + d.qtrail } }).event 9 n

/-- The first instant of a kind whose samples are due, and the list without it. -/
def takeInstant (injected : Bool) (now : Nat) : List Instant → Option (Instant × List Instant)
  | [] => none
  | i :: t =>
    if i.injected == injected && decide (i.hold + 82 ≤ now) && i.env.isSome then some (i, t)
    else (takeInstant injected now t).map (fun r => (r.1, i :: r.2))

/-- The samples of an instant enter the drawers and tracker A, 82 ticks after its hold edge (R105, R118, step 7). -/
def enterSamples (d : Dev) (i : Instant) (l : List Sample) : Dev :=
  match i.env with
  | none => d
  | some env =>
    let takes (s : Sample) : Bool :=
      let ch := s.ch.val
      if ch < 32 then i.cells.getLsbD ch else if ch = 32 then i.cur else i.aux
    (l.filter takes).foldl (fun d s => d.enterSample i env s) d

/-- The conversions of the oldest instant that is due complete (R105): its samples enter, results publish, and at the last instant
the sweep leaves flight. -/
def completeConversion (d : Dev) (l : List Sample) : Dev :=
  match takeInstant false d.cycle d.conv.instants with
  | none => d
  | some (i, rest) =>
    let d := ({ d with conv := { d.conv with instants := rest } }).enterSamples i l
    let d := d.publishAllClosed
    if i.last then d.sweepDone else d

/-- The injected sample enters its drawer and publishes what it completes (R125). -/
def completeInjection (d : Dev) (l : List Sample) : Dev :=
  match takeInstant true d.cycle d.conv.instants with
  | none => d
  | some (i, rest) =>
    let d := ({ d with conv := { d.conv with instants := rest }, inj := { d.inj with run := false } }).enterSamples i l
    d.publishAllClosed

end Dev

/-- CONV_GO (R115): a software launch; on a head the write is ignored (R25). -/
def execConvGo (s : State) : Host.Outcome State Fault Refusal := s.on (fun d => if d.isHead then d else d.softwareTrigger.2)

/-- CONV_ARM (R116). -/
def execConvArm (s : State) : Host.Outcome State Fault Refusal :=
  s.on (fun d => if d.isHead then d else { d with conv := { d.conv with armed := true } })

/-- CONV_DISARM (R116). -/
def execConvDisarm (s : State) : Host.Outcome State Fault Refusal :=
  s.on (fun d => if d.isHead then d else { d with conv := { d.conv with armed := false } })

/-- CONV_STOP (R110). -/
def execConvStop (s : State) : Host.Outcome State Fault Refusal := s.on (fun d => if d.isHead then d else d.stopSweep)

/-- A write of CONV_INJ sets its fields, and with REQ = 1 requests an injection with the settings written (R124, R145). -/
def Dev.writeInj (d : Dev) (w : Word) : Dev :=
  let d := d.writeFields R.CONV_INJ w false
  if w.getLsbD 0 then
    (d.requestInjection (BitVec.ofNat 32 (d.get F.CONV_INJCH_CELL)) (d.bit F.CONV_INJ_CUR) (d.bit F.CONV_INJ_AUX)
      (d.get F.CONV_INJ_AUXSLOT) (d.get F.CONV_INJ_DRW)).2
  else d

/-- CONV_INJ_REQ (R124). -/
def execConvInjReq (w : Word) (s : State) : Host.Outcome State Fault Refusal :=
  s.on (fun d => if d.isHead then d else d.writeInj w)

/-- SWEEP_ACQUISITION (R118). -/
def execSweepAcquisition (s : State) : Host.Outcome State Fault Refusal := s.on Dev.acquire

/-- CONVERSION_COMPLETE (R105). -/
def execConversionComplete (l : List Sample) (s : State) : Host.Outcome State Fault Refusal := s.on (·.completeConversion l)

/-- INJECTION_START (R125). -/
def execInjectionStart (s : State) : Host.Outcome State Fault Refusal := s.on Dev.startInjection

/-- INJECTION_COMPLETE (R125). -/
def execInjectionComplete (l : List Sample) (s : State) : Host.Outcome State Fault Refusal := s.on (·.completeInjection l)

/-- A read of CONV_TSL latches the matching high word into CONV_TSH (R147). -/
def Dev.readTsl (d : Dev) : Word × Dev := (d.rd R.CONV_TSL, d.wr R.CONV_TSH d.conv.tsh)

/-- CONV_TSL_READ (R147). -/
def execConvTslRead (s : State) : Host.Outcome State Fault Refusal :=
  s.on (fun d => if d.isHead then d.emit (.value R.CONV_TSL 0) else d.readTsl.2.emit (.value R.CONV_TSL d.readTsl.1))

end Sys2Proof.Machine
end

