-- ==== Sys2Proof/Machine/TimeOps.lean ====
section
/-!
DEFINITION. The operations of time (05_time_and_phase.md): alignment to head time, the installation of phase models, the compare and the
capture units, and the head's phase loop.
-/

namespace Sys2Proof.Machine

namespace Dev

/-! ### Alignment (R198 to R206) -/

/-- PLOCK follows the installed model's LOCKED, the alignment and the missed frames (R217); on a head, whose loop it reports, LOCKED alone.
Its fall gives the L0 notice. -/
def updatePlock (d : Dev) : Dev :=
  let locked := (d.tim.model.map (·.locked)).getD false
  let on := locked && (d.isHead || (d.bit F.SYS_CLKSTAT_ALIGNED && decide (d.tim.missRun < 16)))
  let fell := d.plock && !on
  let d := d.setPlock on
  if fell then d.post 0 0 6 0 else d

/-- ALIGNED falls (R203): ALOST, the L0 notice, and the next frame steps (R201). -/
def alignedFalls (d : Dev) : Dev :=
  let d := { d with tim := { d.tim with stepNext := true, offsets := [], good := 0, bad := 0 } }
  if !d.bit F.SYS_CLKSTAT_ALIGNED then d
  else (((d.setAligned false).flag F.TIM_STAT_ALOST).post 1 0 5 0).updatePlock

/-- The mean of the offsets in 1/32-tick steps, to the nearest with halves up (R201): offsets are in 1/4096 tick. -/
def offsetMean (l : List Int) : Int := roundHalfUp l.sum (128 * l.length)

/-- The timebase moves by `t` ticks (R201, R206). -/
def moveTimebase (d : Dev) (t : Int) : Dev := { d with tb := d.tb + BitVec.ofInt 48 t }

/-- FRAC takes the mean of the average, with one slip where it has left 0 to 31 (R201): every offset follows the slip. -/
def settleFrac (d : Dev) : Dev :=
  let m := offsetMean d.tim.offsets
  let slip (d : Dev) (t : Int) : Dev :=
    (({ d with tim := { d.tim with offsets := d.tim.offsets.map (· + 4096 * t) } }).moveTimebase t).count F.TIM_ALIGN_SLIP 1
  if 32 ≤ m then (slip d (-1)).setFrac (m - 32).toNat
  else if m < 0 then (slip d 1).setFrac (m + 32).toNat
  else d.setFrac m.toNat

/-- An offset `delta` in 1/4096 tick enters the alignment (R200 to R203). -/
def alignBy (d : Dev) (delta : Int) : Dev :=
  let d := d.put F.TIM_ALIGN_DELTA ((clampInt (-32768) 32767 (roundHalfUp delta 128)).emod 65536).toNat
  if d.tim.stepNext then
    let d := d.moveTimebase (-(delta.fdiv 4096))
    let d := { d with tim := { d.tim with stepNext := false, offsets := [delta.fmod 4096], good := 0, bad := 0 } }
    (d.settleFrac).flag F.TIM_STAT_STEP
  else
    let off := (delta - (d.get F.TIM_ALIGN_FRAC * 128 : Nat)).natAbs
    let good := if off ≤ 512 then d.tim.good + 1 else 0
    let bad := if 1024 < off then d.tim.bad + 1 else 0
    let l := d.tim.offsets ++ [delta]
    let d := ({ d with tim := { d.tim with offsets := l.drop (l.length - 16), good := good, bad := bad } }).settleFrac
    if 4 ≤ bad then d.alignedFalls
    else if 16 ≤ good && !d.bit F.SYS_CLKSTAT_ALIGNED then (d.setAligned true).updatePlock
    else d

/-- A phase timing frame has passed its check (R204): the run of misses ends, and the next frame is expected one interval on. -/
def timingFrameSeen (d : Dev) : Dev :=
  let d := { d with tim := { d.tim with everFramed := true, missRun := 0, expected := d.cycle + 102400 } }
  (d.putB F.TIM_PHSTAT_HOLD false).updatePlock

/-- A frame has not passed by half an interval after its expected arrival (R203, R204, R217). -/
def timingFrameMiss (d : Dev) : Dev :=
  if !d.tim.everFramed || decide (d.cycle < d.tim.expected + 51200) then d
  else
    let n := d.tim.missRun + 1
    let d := { d with tim := { d.tim with missRun := n, expected := d.tim.expected + 102400 } }
    let d := if d.isHead then d else d.count F.TIM_PHSTAT_MISS 1
    let d := if n = 4 then (d.flag F.TIM_STAT_TFLOST).putB F.TIM_PHSTAT_HOLD d.tim.model.isSome else d
    if n = 16 then d.alignedFalls.updatePlock else d

/-! ### Phase models (R209 to R211, R217) -/

/-- A model is offered (R211): a repetition of the installed or the waiting one is nothing, one that arrives later than TB − 300 is
rejected, another waits for its TB. -/
def offerModel (d : Dev) (m : PhaseModel) : Dev :=
  let same (x : Option PhaseModel) : Bool := (x.map (·.seq)) == some m.seq
  if same d.tim.model || same d.tim.waiting then d
  else if wrapDiff 53 m.tb (d.now * 32) < 300 * 32 then d.flag F.TIM_PHSTAT_MLATE
  else { d with tim := { d.tim with waiting := some m } }

/-- The waiting model takes effect at its TB (R210, R217). -/
def activateModel (d : Dev) : Dev :=
  match d.tim.waiting with
  | none => d
  | some m =>
    if 0 < wrapDiff 53 (m.tb / 32 * 32) (d.now * 32) then d
    else
      let d := { d with tim := { d.tim with model := some m, waiting := none } }
      let d := ((d.put F.TIM_PHSTAT_SEQ m.seq.toNat).putB F.TIM_PHSTAT_HASM true).putB F.TIM_PHSTAT_LOCKED m.locked
      let d := if m.step then d.flag F.TIM_PHSTAT_STEPM else d
      d.updatePlock

/-- A read of TIM_PMBL latches the other words of the same model (R231). -/
def readPmbl (d : Dev) : Word × Dev :=
  match d.tim.model with
  | none => (0, ((d.wr R.TIM_PMBH 0).wr R.TIM_PMPC 0).wr R.TIM_PINC 0)
  | some m =>
    let t := m.tb / 32
    (BitVec.ofNat 32 t, ((d.wr R.TIM_PMBH (BitVec.ofNat 32 (m.tb % 32 * 65536 + t / 2 ^ 32))).wr R.TIM_PMPC
      (BitVec.ofNat 32 m.pc.toNat)).wr R.TIM_PINC m.pinc)

/-- A read of TIM_TBL latches the high half (R196). -/
def readTbl (d : Dev) : Word × Dev := (d.tb.truncate 32, d.wr R.TIM_TBH (BitVec.ofNat 32 (d.now / 2 ^ 32)))

/-! ### Compares (R219 to R223): units 0 to 3 of the timebase, 4 to 7 of the phase, as in TIM_CMPSTAT -/

/-- A unit arms: its value is known from this cycle. -/
def armUnit (d : Dev) (u : Nat) : Dev :=
  let d := d.putAt F.TIM_CMPSTAT_ARMED u true
  { d with tim := { d.tim with learnt := upd d.tim.learnt u (fun _ => d.cycle), again := d.tim.again &&& ~~~BitVec.ofNat 32 (2 ^ u) } }

/-- A write of TIM_TCMPH commits both words and arms (R219). -/
def writeTcmph (d : Dev) (n : Nat) (w : Word) : Dev :=
  let d := d.writeFields (R.TIM_TCMPH n) w false
  let v := BitVec.ofNat 48 (w.toNat % 65536 * 2 ^ 32 + (nth d.tim.tcmpLow n 0).toNat)
  ({ d with tim := { d.tim with tcmp := upd d.tim.tcmp n (fun _ => v) } }).armUnit n

/-- A write of TIM_TCMPL waits for the high word (R219). -/
def writeTcmpl (d : Dev) (n : Nat) (w : Word) : Dev :=
  { (d.writeFields (R.TIM_TCMPL n) w false) with tim := { d.tim with tcmpLow := upd d.tim.tcmpLow n (fun _ => w) } }

/-- A write of TIM_PCMP arms (R220). -/
def writePcmp (d : Dev) (n : Nat) (w : Word) : Dev := (d.wr (R.TIM_PCMP n) w).armUnit (4 + n)

/-- TIM_CMPCTL.DIS (R223). -/
def disarmUnits (d : Dev) (mask : Nat) : Dev :=
  (List.range 8).foldl (fun d u => if mask.testBit u then d.putAt F.TIM_CMPSTAT_ARMED u false else d) d

/-- A unit has fired (R221): FIRED, its interrupt, and what it drives. -/
def unitFired (d : Dev) (u : Nat) : Dev :=
  let d := d.flagBits F.TIM_CMPSTAT_FIRED (2 ^ u)
  if d.bitAt F.TIM_CMPIE_IE u then d.irq (u / 4) else d

/-- A timebase unit's condition holds (R219). -/
def tcmpDue (d : Dev) (n : Nat) : Bool :=
  d.bitAt F.TIM_CMPSTAT_ARMED n &&
    (decide ((d.now + 2 ^ 48 - (nth d.tim.tcmp n 0).toNat) % 2 ^ 48 < 2 ^ 47) || d.tim.again.getLsbD n)

/-- A timebase compare fires (R219, R221, R222): with an increment it goes on, and an incremented value that has passed is brought ahead and
fires once more. -/
def tcmpFire (d : Dev) (n : Nat) : Dev :=
  if !d.tcmpDue n then d
  else
    let again := d.tim.again.getLsbD n
    let inc := d.get (F.TIM_TCMPINC_INC n)
    let learnt := nth d.tim.learnt n 0
    let d := { d with tim := { d.tim with again := d.tim.again &&& ~~~BitVec.ofNat 32 (2 ^ n) } }
    let d := (d.unitFired n).compareTrigger 1 n 0 learnt
    if again then d
    else if inc = 0 then d.putAt F.TIM_CMPSTAT_ARMED n false
    else
      let inc := max inc 100
      let v := nth d.tim.tcmp n 0 + BitVec.ofNat 48 inc
      let behind := (d.now + 2 ^ 48 - v.toNat) % 2 ^ 48
      let late := decide (behind < 2 ^ 47)
      let v := if late then v + BitVec.ofNat 48 ((behind / inc + 1) * inc) else v
      let d := { d with tim := { d.tim with
        tcmp := upd d.tim.tcmp n (fun _ => v), learnt := upd d.tim.learnt n (fun _ => d.cycle)
        again := if late then d.tim.again ||| BitVec.ofNat 32 (2 ^ n) else d.tim.again } }
      let d := (d.wr (R.TIM_TCMPL n) (v.truncate 32)).wr (R.TIM_TCMPH n) (BitVec.ofNat 32 (v.toNat / 2 ^ 32))
      if late then d.flagBits F.TIM_CMPSTAT_LATE (2 ^ n) else d

/-- A phase unit's condition holds, its last firing lies 100 ticks back, and the device holds a model (R220, R221). -/
def pcmpDue (d : Dev) (n : Nat) : Bool :=
  let far := match nth d.tim.pLast n none with
    | none => true
    | some t => decide (t + 100 ≤ d.cycle)
  d.bitAt F.TIM_CMPSTAT_ARMED (4 + n) && far && d.tim.model.isSome &&
    (d.phasePassed (d.rd (R.TIM_PCMP n)) || d.tim.again.getLsbD (4 + n))

/-- A phase compare fires (R220 to R222): its fine part is the step of t(v) when it fires at t(v) itself. -/
def pcmpFire (d : Dev) (n : Nat) : Dev :=
  if !d.pcmpDue n then d
  else
    let u := 4 + n
    let again := d.tim.again.getLsbD u
    let v := d.rd (R.TIM_PCMP n)
    let t := (d.reached v).getD 0
    let fs := if !again && t / 32 = d.now then t % 32 else 0
    let inc := d.get (F.TIM_PCMPINC_INC n)
    let learnt := nth d.tim.learnt u 0
    let d := { d with tim := { d.tim with
      again := d.tim.again &&& ~~~BitVec.ofNat 32 (2 ^ u), pLast := upd d.tim.pLast n (fun _ => some d.cycle) } }
    let d := (d.unitFired u).compareTrigger 2 n fs learnt
    if again then d
    else if inc = 0 then d.putAt F.TIM_CMPSTAT_ARMED u false
    else
      let v := v + BitVec.ofNat 32 inc
      let late := d.phasePassed v
      let behind := (d.phase - v).toNat
      let v := if late then v + BitVec.ofNat 32 ((behind / inc + 1) * inc) else v
      let d := { (d.wr (R.TIM_PCMP n) v) with tim := { d.tim with
        learnt := upd d.tim.learnt u (fun _ => d.cycle)
        again := if late then d.tim.again ||| BitVec.ofNat 32 (2 ^ u) else d.tim.again } }
      if late then d.flagBits F.TIM_CMPSTAT_LATE (2 ^ u) else d

/-! ### Captures (R224 to R227) -/

/-- The delay of a capture source in 1/32 ticks: 60 ns of the PHSYNC filter, 200 ns of the comparator (R224). -/
def captureDelay (src : Nat) : Nat := if src = 1 || src = 2 then 6 * 32 else if src = 5 || src = 6 then 20 * 32 else 0

/-- A capture source fires (R224, R225): each unit that selects it takes the time. PHSYNC never fires on a member. -/
def capture (d : Dev) (src step : Nat) : Dev :=
  if (src = 1 || src = 2) && !d.isHead then d
  else if src = 0 || src = 7 then d
  else
    let t := (d.now * 32 + step + 2 ^ 53 - captureDelay src) % 2 ^ 53
    (List.range 4).foldl (fun d u =>
      if d.get (F.TIM_CAPCFG_SRC u) != src then d
      else
        let full := d.bitAt F.TIM_CAPSTAT_FULL u
        let d := d.wr (R.TIM_CAPL u) (BitVec.ofNat 32 (t / 32))
        let d := { d with tim := { d.tim with capH := upd d.tim.capH u (fun _ => BitVec.ofNat 32 (t % 32 * 65536 + t / 2 ^ 37)) } }
        let d := if full then d.flagBits F.TIM_CAPSTAT_OVR (2 ^ u) else d.putAt F.TIM_CAPSTAT_FULL u true
        d.irq 7) d

/-- A read of TIM_CAPL clears FULL and latches TIM_CAPH (R225). -/
def readCapl (d : Dev) (u : Nat) : Word × Dev :=
  (d.rd (R.TIM_CAPL u), (d.wr (R.TIM_CAPH u) (nth d.tim.capH u 0)).putAt F.TIM_CAPSTAT_FULL u false)

/-! ### The head's phase loop (R212 to R216). Times are in 1/32 ticks. -/

/-- The period of the reference between two edges divides into DIV + 1 periods (R213). -/
def refDivisor (d : Dev) : Nat := d.get F.TIM_PHCFG_DIV + 1

/-- The head acquires anew from the next edge, and its next model is not locked (R216). -/
def loopLost (d : Dev) : Dev := { d with loop := { d.loop with edges := 0, goodRun := 0, missedRun := 0, locked := false } }

/-- A PHSYNC edge of the selected sense at `e` (R213 to R215): acquisition, tracking, or the loss of an edge that lies off by more than 1 %.
Half of the error enters the next boundary and an eighth the period, each rounded half up to 1/32 tick. -/
def loopEdge (d : Dev) (e : Nat) : Dev :=
  let l := d.loop
  let m := d.refDivisor
  if l.edges = 0 then { d with loop := { l with lastEdge := e, edges := 1, goodRun := 0, missedRun := 0 } }
  else if l.edges = 1 then
    let p := (wrapDiff 53 e l.lastEdge).toNat
    { d with loop := { l with lastEdge := e, edges := 2, period := p, predicted := (e + p) % 2 ^ 53, issue := none
                              periodCount := l.periodCount + BitVec.ofNat 16 m } }
  else
    let err := wrapDiff 53 e l.predicted
    if l.locked && decide ((l.period : Int) < 100 * err.natAbs) then d.loopLost
    else
      let good := if 2000 * err.natAbs ≤ l.period then l.goodRun + 1 else 0
      let p := ((l.period : Int) + roundHalfUp err 8).toNat
      let next := ((l.predicted : Int) + roundHalfUp err 2 + p).emod (2 ^ 53) |>.toNat
      { d with loop := { l with lastEdge := e, edges := l.edges + 1, period := p, predicted := next, goodRun := good, missedRun := 0
                                locked := l.locked || decide (4 ≤ good), periodCount := l.periodCount + BitVec.ofNat 16 m } }

/-- An edge is missing for 1 % of P beyond its predicted boundary (R216). -/
def loopMiss (d : Dev) : Dev :=
  let l := d.loop
  if l.edges < 2 || decide (wrapDiff 53 (d.now * 32) l.predicted * 100 < l.period) then d
  else
    let d := d.count F.TIM_PHSTAT_MISS 1
    if 4 ≤ l.missedRun + 1 then d.loopLost
    else { d with loop := { l with missedRun := l.missedRun + 1, predicted := (l.predicted + l.period) % 2 ^ 53
                                   periodCount := l.periodCount + BitVec.ofNat 16 d.refDivisor } }

/-- The rate of a period of `p` / `m` 1/32 ticks, within the range of R209. -/
def pincOf (p m : Nat) : Word := BitVec.ofNat 32 (clipPinc (if p = 0 then 0 else (2 ^ 45 * m + p / 2) / p))

/-- The first boundary of a grid of period `p` / `m` through `b0` at or after `t`, and its index from `b0` (R211, R213). -/
def gridAfter (b0 p m t : Nat) : Nat × Int :=
  let diff := wrapDiff 53 t b0
  let j : Int := if p = 0 then 0 else -((-(diff * m)).fdiv p)
  (((b0 : Int) + roundHalfUp (j * p) m).emod (2 ^ 53) |>.toNat, j)

/-- The loop's source is software (R212). -/
def softSource (d : Dev) : Bool := d.get F.TIM_PHCFG_SRC == 2

/-- The model that a head carries in a frame that departs at `td` (R210 to R216): the last one until it has taken effect, then a new one,
whose TB is a boundary of the one before, or, after an acquisition, of the reference's own grid. -/
def nextModel (d : Dev) (td : Nat) : Option PhaseModel × Dev :=
  let l := d.loop
  let ahead := match l.issue with
    | none => false
    | some m => decide (0 < wrapDiff 53 m.tb (d.now * 32))
  if ahead then (l.issue, d)
  else
    let from_ := (td + d.get F.TIM_PHTX_LEAD * 32) % 2 ^ 53
    let m := d.refDivisor
    let soft := d.softSource
    if !soft && l.edges < 2 then (l.issue, d)
    else
      let locked := soft || l.locked
      let hold := !soft && l.missedRun != 0
      let seq := l.seq + 1
      let pinc : Word := if soft then BitVec.ofNat 32 (clipPinc (d.get F.TIM_PSWINC_PINC)) else pincOf l.period m
      let model : PhaseModel := match l.issue with
        | none =>
          if soft then ⟨from_, 0, pinc, seq, locked, hold, true⟩
          else
            let b0 := (l.predicted + d.get F.TIM_PHCFG_OFS * l.period / (65536 * m)) % 2 ^ 53
            let (tb, j) := gridAfter b0 l.period m from_
            ⟨tb, BitVec.ofInt 16 (l.periodCount.toNat + j), pinc, seq, locked, hold, true⟩
        | some p =>
          let ph := (p.exact from_).fdiv (2 ^ 29)
          let n := (-((-ph).fdiv 65536)).emod 65536
          ⟨p.reached (BitVec.ofInt 32 (n * 65536)), BitVec.ofInt 16 n, pinc, seq, locked, hold, false⟩
      let d := { d with loop := { l with seq := seq, issue := some model } }
      (some model, { d with tim := { d.tim with waiting := some model } })

end Dev

end Sys2Proof.Machine
end

