-- ==== Sys2Proof/Machine/ChainOps.lean ====
section
/-!
DEFINITION. The operations of the chain (08_tystan_link.md, 09_chain_transactions.md): the frames that hardware builds, kindling, path
delays, phase timing frames, triggers, forwarding, the head's transactions, and breaks.
-/

namespace Sys2Proof.Machine

/-- A delay in 1/4096 tick as TIM_PDLY shows it, in 1/32 tick to the nearest (R352). -/
def shownDelay (x : Nat) : Nat := (x + 64) / 128

/-- A residence time in 1/4096 tick from its measured deviation (R326): 312.5 ns and the deviation. -/
def residence (dev : Int) : Nat := (128000 + dev).toNat

/-- A frame of TYPE 0xC and its kin that hardware builds: SRC as given, ORIG = 1 (R336). -/
def hardFrame (rev ty : Nat) (src dest : Nat) (payload : List Byte) : Frame :=
  { ty := BitVec.ofNat 4 ty, rev := BitVec.ofNat 2 rev, seq := 0, auth := false, src := BitVec.ofNat 7 src, orig := true,
    dest := BitVec.ofNat 7 dest, payload := payload, mac := 0 }

/-- The payload of KINDLE (R348). -/
def kindleBytes (mode first next df drev : Nat) (kid : BitVec 16) (revs nforeign : Nat) : List Byte :=
  [1, BitVec.ofNat 8 mode, BitVec.ofNat 8 first, BitVec.ofNat 8 next] ++ beBytes 4 df ++ beBytes 4 drev ++ beBytes 2 kid.toNat ++
    [BitVec.ofNat 8 revs, BitVec.ofNat 8 nforeign]

/-- The payload of a phase model in PHTIM and MODEL, from TB to MFLAGS (R343); without a model all of it is 0. -/
def modelBytes (m : Option PhaseModel) : List Byte :=
  match m with
  | none => List.replicate 15 0
  | some m =>
    beBytes 6 (m.tb / 32) ++ [BitVec.ofNat 8 (m.tb % 32)] ++ beBytes 2 m.pc.toNat ++ beBytes 4 m.pinc.toNat ++ [m.seq] ++
      [BitVec.ofNat 8 (m.locked.toNat + 2 * m.hold.toNat + 4 * m.step.toNat)]

/-- The phase model in the bytes from TB on (R343); a PINC of 0 is no model. -/
def modelOf (l : List Byte) : Option PhaseModel :=
  let pinc : Word := BitVec.ofNat 32 (fieldAt l 9 4)
  let fl := byteAt l 14
  if pinc = 0 then none
  else some { tb := fieldAt l 0 6 * 32 + byteAt l 6 % 32, pc := BitVec.ofNat 16 (fieldAt l 7 2), pinc := pinc, seq := nth l 13 0,
              locked := fl.testBit 0, hold := fl.testBit 1, step := fl.testBit 2 }

namespace Dev

/-! ### Path delays (R199, R352, R356) -/

/-- TIM_PDLY, TIM_PDLYR and CHN_RTOT show the delays held. -/
def showDelays (d : Dev) : Dev :=
  ((d.put F.TIM_PDLY_DDR (shownDelay d.tim.d)).put F.TIM_PDLYR_DDR (shownDelay (d.tim.rtot - d.tim.sr))).put F.CHN_RTOT_RTOT d.tim.rtot

/-- The path delays become invalid (R203, R352). -/
def dropDelays (d : Dev) : Dev := ((d.putB F.TIM_PDLY_VALID false).putB F.TIM_PDLYR_VALID false).alignedFalls

/-- The delay of the port on which a frame arrives, if it is valid (R199). -/
def pathDelay (d : Dev) (p : Port) : Option Nat :=
  match p with
  | .dn => if d.bit F.TIM_PDLY_VALID then some d.tim.d else none
  | .up => if d.bit F.TIM_PDLYR_VALID then some (d.tim.rtot - d.tim.sr) else none

/-- A path update of a PHTIM frame (R356): kind 1 a hop, 2 a forward and 3 a reverse residence. -/
def updatePath (d : Dev) (kind idx : Nat) (delta : Int) : Dev :=
  let add (x : Nat) : Nat := (x + delta).toNat
  let j := d.addr
  let t := d.tim
  let t := match kind with
    | 1 => if idx ≤ j then { t with d := add t.d, sr := add t.sr, rtot := add t.rtot } else { t with rtot := add t.rtot }
    | 2 => if idx < j then { t with d := add t.d } else t
    | 3 => if idx ≤ j then { t with sr := add t.sr, rtot := add t.rtot } else { t with rtot := add t.rtot }
    | _ => t
  if kind = 0 then d else ({ d with tim := t }).showDelays

/-! ### A member's own control frames -/

/-- A frame of kindling waits for the reverse stream (R351, R381). -/
def pushRev (d : Dev) (f : Frame) : Dev :=
  { d with chain := { d.chain with ownRev := ⟨f, false, false, false, d.cycle⟩ :: d.chain.ownRev } }

/-- A KEND with its cause (1 NOECHO, 2 FULL) and NEXT (R348, R351). -/
def sendKend (d : Dev) (cause next : Nat) (kid : BitVec 16) : Dev :=
  d.pushRev (hardFrame d.linkRev 0xC d.addr 0 ([3, BitVec.ofNat 8 cause, BitVec.ofNat 8 next, 0] ++ beBytes 2 kid.toNat ++ [0, 0]))

/-- A HOPREP with its kind and value, at most one in 100 ms (R355). -/
def sendHoprep (d : Dev) (kind value : Nat) : Dev :=
  let d := { d with chain := { d.chain with lastRep := some d.cycle } }
  d.pushOwn (hardFrame d.linkRev 0xC d.addr 0 ([4, BitVec.ofNat 8 kind, 0, 0] ++ beBytes 4 value)) false false false

/-- A HOPREP may be sent now (R353, R355). -/
def mayReport (d : Dev) : Bool :=
  d.addrValid && (match d.chain.lastRep with
    | none => true
    | some t => decide (t + 10000000 ≤ d.cycle))

/-- A changed hop or residence is reported: at a member to its head, at the head itself into its updates (R355). -/
def reportPath (d : Dev) : Dev :=
  let c := d.chain
  let off (a b : Int) : Bool := decide (3 ≤ (a - b).natAbs)
  if d.isHead then
    if off c.hop c.hopRep && (match c.lastRep with
        | none => true
        | some t => decide (t + 10000000 ≤ d.cycle)) then
      { d with chain := { c with hopRep := c.hop, lastRep := some d.cycle, updates := c.updates ++ [⟨1, 1, (c.hop : Int) - c.hopRep⟩] } }
    else d
  else if !d.mayReport then d
  else if off c.hop c.hopRep then ({ d with chain := { c with hopRep := c.hop } }).sendHoprep 1 c.hop
  else if off c.rhoF c.rhoFRep then ({ d with chain := { c with rhoFRep := c.rhoF } }).sendHoprep 2 (residence c.rhoF)
  else if off c.rhoR c.rhoRRep then ({ d with chain := { c with rhoRRep := c.rhoR } }).sendHoprep 3 (residence c.rhoR)
  else d

/-! ### Kindling (R350 to R354, R59) -/

/-- The average of the echoes begins anew. -/
def restartEcho (d : Dev) : Dev := { d with chain := { d.chain with echoN := 0, echoSum := 0 } }

/-- The member's address and path delays go, with its session key (R352, R602, R614). -/
def dropAddress (d : Dev) : Dev :=
  let d := (d.putB F.CHN_ADDR_VALID false).putB F.CHN_ADDR_TENT false
  let d := { d with chain := { d.chain with pend := none, kin := none } }
  ((d.putB F.SYS_PWRSTAT_TENT false).dropDelays).dropKs

/-- A member takes a KINDLE (R350, R354): NEXT becomes its pending address, its path delays become invalid, and it echoes the hop above;
below FIRST of a partial kindling it keeps its address and its delay D and needs no echo. -/
def takeKindle (d : Dev) (f : Frame) : Dev :=
  let l := f.payload
  let next := byteAt l 3
  let kid : BitVec 16 := BitVec.ofNat 16 (fieldAt l 12 2)
  if 126 < next then d.sendKend 2 next kid
  else
    let keeps := byteAt l 1 == 1 && d.addrValid && decide (d.addr < byteAt l 2)
    let k : Kindling :=
      { next := next + 1, df := fieldAt l 4 4, sr := fieldAt l 8 4 + residence d.chain.rhoR, kid := kid, revs := nth l 14 0,
        nforeign := byteAt l 15, mode := nth l 1 0, first := byteAt l 2, echoed := if keeps then some d.chain.hop else none, went := false }
    let d := { d with chain := { d.chain with
      pend := some (BitVec.ofNat 7 (if keeps then d.addr else next)), pendKid := kid, kin := some k } }
    if keeps then d.putB F.TIM_PDLYR_VALID false
    else
      let d := ((d.putB F.CHN_ADDR_VALID false).putB F.CHN_ADDR_TENT false).putB F.SYS_PWRSTAT_TENT false
      (d.dropDelays.restartEcho).emit (.echoRequest .up)

/-- The updated KINDLE leaves on UP once the hop above is known (R350, R354). -/
def kindleSend (d : Dev) : Dev :=
  match d.chain.kin with
  | none => d
  | some k =>
    match k.echoed with
    | none => d
    | some h =>
      if k.went || d.isHead then d
      else
        let own := d.linkRev
        let revs := max (k.revs.toNat / 16) own * 16 + min (k.revs.toNat % 16) own
        let nf := min 255 (k.nforeign + (d.bit F.SYS_PWRSTAT_FOREIGN).toNat)
        let f := hardFrame own 0xC ((d.chain.pend.map BitVec.toNat).getD 0) 127
          (kindleBytes k.mode.toNat k.first k.next (k.df + residence d.chain.rhoF + h) (k.sr + h) k.kid revs nf)
        let d := { d with chain := { d.chain with kin := some { k with went := true }, hop := h } }
        (d.event 17 1).leaves .up f (frameCrc f)

/-- No echo came back within 2 µs: KEND, and the kindling ends here (R350). The address stays pending for TOPO. -/
def kindleNoEcho (d : Dev) : Dev :=
  match d.chain.kin with
  | none => d
  | some k =>
    if d.isHead || k.echoed.isSome || k.went then d
    else ({ d with chain := { d.chain with kin := some { k with went := true } } }).sendKend 1 k.next k.kid

/-- The words of the 12-byte NONCE (R614, R632). -/
def nonceWords (l : List Byte) : List Word := (wordsOf l).take 3

/-- A session key follows from KP, KID and NONCE; without KP the device holds none (R614). -/
def deriveKs (d : Dev) (kid : BitVec 16) (nonce : List Byte) : Dev :=
  let d := { d with keys := { d.keys with nonce := nonceWords nonce } }
  match d.keys.kp with
  | some kp => d.takeKs (sessionKey kp kid nonce) kid
  | none => d.dropKs.put F.SEC_STAT_KID kid.toNat

/-- The stored token, which CHN_TOKL shows (R352, R390). -/
def setToken (d : Dev) (t : Nat) : Dev :=
  ({ d with chain := { d.chain with token := BitVec.ofNat 48 t } }).wr R.CHN_TOKL (BitVec.ofNat 32 t)

/-- The broadcast revision of the chain (R307, R343). -/
def setBrev (d : Dev) (v : Nat) : Dev := if v % 16 = 0 then d else d.put F.CHN_PSTAT_BREV v

/-- A member receives TOPO (R352): a matching KID validates its address and delays, derives its key and starts the pair exchange; any other
drops its address. -/
def takeTopo (d : Dev) (f : Frame) : Dev :=
  let l := f.payload
  let kid : BitVec 16 := BitVec.ofNat 16 (fieldAt l 2 2)
  let open_ := (byteAt l 19).testBit 0
  match d.chain.pend, d.chain.kin with
  | some a, some k =>
    if d.chain.pendKid != kid then d.dropAddress
    else
      let c := d.chain
      let fresh := !d.bit F.TIM_PDLY_VALID
      let d := { d with
        tim := { d.tim with d := k.df, sr := k.sr, rtot := fieldAt l 10 4, stepNext := d.tim.stepNext || fresh }
        chain := { c with pend := none, kin := none, hopRep := c.hop, rhoFRep := c.rhoF, rhoRRep := c.rhoR } }
      let d := (((d.put F.CHN_ADDR_ADDR a.toNat).putB F.CHN_ADDR_VALID true).putB F.CHN_ADDR_TENT false).put F.CHN_ADDR_KID kid.toNat
      let d := (((d.putB F.TIM_PDLY_VALID true).putB F.TIM_PDLYR_VALID (!open_)).showDelays).put F.CHN_HEAL_SIDE 0
      let d := (((d.setToken (fieldAt l 4 6)).setBrev (byteAt l 18)).put F.CHN_KSTAT_KID kid.toNat).putB F.SYS_PWRSTAT_TENT false
      let d := ((d.put F.CHN_KSTAT_N (byteAt l 1)).putB F.CHN_KSTAT_OPEN open_).put F.CHN_KSTAT_REVS k.revs.toNat
      let d := if d.bit F.SYS_PWRSTAT_FOREIGN && !d.twin.rejoined then
          ({ d with twin := { d.twin with rejoined := true } }).pairRecord 3
        else d
      (d.deriveKs kid (l.drop 20)).sendPair
  | _, _ => d.dropAddress

/-- The head starts a kindling (R59, R350, R391): a new KID, and the echoes of hop 1. -/
def kindleAttempt (d : Dev) : Dev :=
  let kid : BitVec 16 := BitVec.ofNat 16 (d.get F.CHN_KSTAT_KID + 1)
  let own := d.linkRev
  let k : Kindling :=
    { next := 1, df := 0, sr := 0, kid := kid, revs := BitVec.ofNat 8 (own * 17), nforeign := (d.bit F.SYS_PWRSTAT_FOREIGN).toNat
      mode := BitVec.ofNat 8 (d.get F.CHN_KCTL_MODE), first := if d.get F.CHN_KCTL_MODE = 1 then d.get F.CHN_KCTL_FIRST else 1
      echoed := none, went := false }
  let d := (d.put F.CHN_KSTAT_KID kid.toNat).put F.CHN_KSTAT_N 0
  let d := { d with chain := { d.chain with kin := some k }, power := { d.power with kindleAt := d.cycle + 10000000 } }
  d.restartEcho.emit (.echoRequest .up)

/-- A kindling of the head begins. -/
def startKindling (d : Dev) : Dev :=
  let d := { d with chain := { d.chain with kinSince := some d.cycle }, power := { d.power with phtimStart := none } }
  (d.put F.CHN_KCTL_KSTATE 1).kindleAttempt

/-- A kindling runs at the head. -/
def kindling (d : Dev) : Bool := d.isHead && d.get F.CHN_KCTL_KSTATE == 1

/-- The head sends KINDLE once hop 1 is known (R350). -/
def headKindle (d : Dev) (k : Kindling) (h : Nat) : Dev :=
  let f := hardFrame d.linkRev 0xC 0 127 (kindleBytes k.mode.toNat k.first 1 h h k.kid k.revs.toNat k.nforeign)
  let d := { d with chain := { d.chain with kin := some { k with echoed := some h, went := true }, hop := h, hopRep := h } }
  (d.event 17 1).leaves .up f (frameCrc f)

/-- The outcome of a kindling (R350 to R352, R614): a new token and NONCE, the head's own session key, TOPO for all, and PHTIM from then
on. -/
def endKindling (d : Dev) (isOpen : Bool) : Dev :=
  let kid : BitVec 16 := BitVec.ofNat 16 (d.get F.CHN_KSTAT_KID)
  let n := d.get F.CHN_KSTAT_N
  let (r, d) := d.draw
  let (a, d) := d.draw
  let (b, d) := d.draw
  let (c, d) := d.draw
  let nonce := wordBytes a ++ wordBytes b ++ wordBytes c
  let token := kid.toNat * 2 ^ 32 + n * 2 ^ 25 + r.toNat % 2 ^ 25
  let d := (d.setToken token).deriveKs kid nonce
  let d := { d with chain := { d.chain with
    kin := none, kinSince := none, updates := [], reps := [], revs := [], marker := none, noticeAt := none, drop := false
    phtimAt := some (match d.chain.phtimAt with
      | some t => t
      | none => d.cycle + 102400) } }
  let d := (d.put F.CHN_KCTL_KSTATE (if isOpen then 3 else 2)).putB F.CHN_KSTAT_OPEN isOpen
  let d := ((d.put F.CHN_BRK_STATE (if isOpen then 3 else 0)).put F.CHN_BRK_CAUSE 0).flag F.CHN_IRQST_KDONE
  let d := (d.put F.CHN_BRK_BLO (if isOpen then n else 0)).put F.CHN_BRK_BHI (if isOpen then n + 1 else 0)
  let d := { d with
    tim := { d.tim with rtot := d.get F.CHN_RTOT_RTOT }
    twin := { d.twin with pairs := d.twin.pairs.filter (fun p => decide (p.addr ≤ n)) } }
  let f := hardFrame d.linkRev 0xC 0 127 ([2, BitVec.ofNat 8 n] ++ beBytes 2 kid.toNat ++ beBytes 6 token ++
    beBytes 4 (d.get F.CHN_RTOT_RTOT) ++ beBytes 4 (d.get F.CHN_RFWD_RFWD) ++
    [BitVec.ofNat 8 (d.get F.CHN_PSTAT_BREV), BitVec.ofNat 8 isOpen.toNat] ++ nonce)
  (d.event 17 1).leaves .up f (frameCrc f)

/-- The KINDLE returns to the head's DN port (R350, step 6). -/
def kindleReturn (d : Dev) (f : Frame) : Dev :=
  let l := f.payload
  if !d.kindling || f.ty != 0xC || byteAt l 0 != 1 || fieldAt l 12 2 != d.get F.CHN_KSTAT_KID then d
  else
    let revs := byteAt l 14
    let d := ((d.put F.CHN_KSTAT_N (byteAt l 3 - 1)).put F.CHN_KSTAT_REVS revs).put F.CHN_KCTL_NFOREIGN (byteAt l 15)
    ((((d.put F.CHN_RFWD_RFWD (fieldAt l 4 4)).put F.CHN_RTOT_RTOT (fieldAt l 8 4)).setBrev (revs % 16)).frameSeen).endKindling false

/-- The head gives a kindling up after 2 s (R59, R351). -/
def kindlingAbandon (d : Dev) : Dev :=
  match d.chain.kinSince with
  | none => d
  | some t =>
    if !d.kindling || decide (d.cycle < t + 200000000) then d
    else ((d.put F.CHN_RFWD_RFWD 0).put F.CHN_RTOT_RTOT 0).endKindling true

/-- The head repeats a kindling that has not returned, 100 ms after the last attempt (R59). -/
def kindlingRepeat (d : Dev) : Dev :=
  if !d.kindling || decide (d.cycle < d.power.kindleAt) then d else d.kindleAttempt

/-- An ECHO reply with the hop delay it measured (R349, R355): 32 of them make the hop of a kindling, 4,096 the average of the background;
the next request of a kindling follows. -/
def echoReply (d : Dev) (hop : Nat) : Dev :=
  let n := d.chain.echoN + 1
  let s := d.chain.echoSum + hop
  let d := { d with chain := { d.chain with echoN := n, echoSum := s } }
  match d.chain.kin with
  | some k =>
    if k.echoed.isSome || k.went then d
    else if n < 32 then d.emit (.echoRequest .up)
    else
      let h := (s + 16) / 32
      let d := d.restartEcho
      if d.isHead then d.headKindle k h
      else { d with chain := { d.chain with kin := some { k with echoed := some h } } }
  | none =>
    if n < 4096 then d
    else (({ d with chain := { d.chain with hop := (s + 2048) / 4096 } }).restartEcho).reportPath

/-! ### Breaks (R381 to R387) -/

/-- The head's ring is closed (R357). -/
def ringClosed (d : Dev) : Bool :=
  d.isHead && d.get F.CHN_BRK_STATE == 0 && !d.bit F.CHN_KSTAT_OPEN && d.chain.phtimAt.isSome

/-- The head's chain is healed (R385). -/
def healed (d : Dev) : Bool := d.isHead && d.get F.CHN_BRK_STATE == 2

/-- A break indication (R357, R382): a second one is ignored until the chain is healed, and one that comes then begins anew. -/
def breakIndicated (d : Dev) (cause : Nat) (loc : Option (Nat × Nat)) : Dev :=
  if !(d.ringClosed || d.healed) then d
  else
    let was := d.healed
    let d := ((d.put F.CHN_BRK_STATE 1).put F.CHN_BRK_CAUSE cause).flag F.CHN_IRQST_BREAK
    let d := match loc with
      | none => d
      | some (lo, hi) =>
        let lo := if was then min lo (d.get F.CHN_BRK_BLO) else lo
        let hi := if was then max hi (d.get F.CHN_BRK_BHI) else hi
        (d.put F.CHN_BRK_BLO lo).put F.CHN_BRK_BHI hi
    let d := { d with chain := { d.chain with drop := true, marker := none, noticeAt := none } }
    d.post 1 1 1 (BitVec.ofNat 32 cause)

/-- The head sends the break notice on both ports, with the bounds of the KEND, or those that its reads of CHN_ADDR located (R382). -/
def sendNotice (d : Dev) (blo bhi : Nat) : Dev :=
  if !d.isHead || d.get F.CHN_BRK_STATE != 1 || d.chain.noticeAt.isSome then d
  else
    let d := if d.get F.CHN_BRK_CAUSE = 1 then d else (d.put F.CHN_BRK_BLO blo).put F.CHN_BRK_BHI bhi
    let lo := d.get F.CHN_BRK_BLO
    let hi := d.get F.CHN_BRK_BHI
    let f : Frame := { ty := 2, rev := BitVec.ofNat 2 (d.get F.CHN_PSTAT_BREV), seq := d.seqBits, auth := false, src := 0, orig := false,
                       dest := 127, payload := beBytes 2 R.CHN_HEAL ++ [0, 0] ++ beBytes 4 (hi * 65536 + lo * 256), mac := 0 }
    let path := max (d.get F.CHN_RFWD_RFWD) (d.get F.CHN_RTOT_RTOT)
    let d := { d with chain := { d.chain with noticeAt := some (d.cycle + frameLen f * 25 + (path + 4095) / 4096 + 500) } }
    ((d.event 17 2).leaves .up f (frameCrc f)).leaves .dn f (frameCrc f)

/-- The notice has passed: the chain is healed (R382). -/
def chainHealed (d : Dev) : Dev :=
  match d.chain.noticeAt with
  | none => d
  | some t =>
    if d.cycle < t then d
    else (({ d with chain := { d.chain with noticeAt := none, drop := false } }).put F.CHN_BRK_STATE 2).flag F.CHN_IRQST_HEALED

/-- A member takes a break notice (R383, R384): CHN_HEAL, its side, and the L1 fault that discards. -/
def takeNotice (d : Dev) (w : Word) : Dev :=
  let d := d.writeFields R.CHN_HEAL w false
  let lo := bitsOf w.toNat 8 7
  let hi := bitsOf w.toNat 16 7
  if d.isHead || hi ≤ lo then d
  else
    let side := if d.addr ≤ lo then 1 else if hi ≤ d.addr then 2 else 3
    (d.put F.CHN_HEAL_SIDE side).post 1 1 2 (BitVec.ofNat 32 side)

/-- The marker of a PHTIM frame returns at `t` in 1/4096 tick: within 2.5 ns of its time, or displaced (R357). -/
def ringReturn (d : Dev) (t : Nat) : Dev :=
  match d.chain.marker with
  | none => d
  | some m =>
    let d := { d with chain := { d.chain with marker := none } }
    if (wrapDiff 60 t m).natAbs ≤ 1024 then d else d.breakIndicated 3 none

/-- The marker has not returned in time (R357). -/
def ringMissing (d : Dev) : Dev :=
  match d.chain.marker with
  | none => d
  | some m =>
    if wrapDiff 60 (d.now * 4096) m ≤ 1024 then d
    else ({ d with chain := { d.chain with marker := none } }).breakIndicated 2 none

/-- A KEND at the head (R351, R357, R382): in a kindling it counts the devices reached, otherwise it indicates and locates a break. -/
def takeKend (d : Dev) (f : Frame) : Dev :=
  let next := byteAt f.payload 2
  if d.kindling then (if fieldAt f.payload 4 2 = d.get F.CHN_KSTAT_KID then d.put F.CHN_KSTAT_N (next - 1) else d)
  else d.breakIndicated 1 (some (next - 1, next))

/-- The receiver of a port is in a state (R334). -/
def portState (d : Dev) (p : Port) : Nat :=
  match p with
  | .dn => d.get F.CHN_PSTAT_DNST
  | .up => d.get F.CHN_PSTAT_UPST

/-- The state of a port's receiver changes (R334). -/
def setPort (d : Dev) (p : Port) (v : Nat) : Dev :=
  match p with
  | .dn => d.put F.CHN_PSTAT_DNST v
  | .up => d.put F.CHN_PSTAT_UPST v

/-- A port goes DOWN (R334, R381, R382): the head takes it as a break indication; a member whose UP port goes down on a closed ring sends
KEND. -/
def portDown (d : Dev) (p : Port) : Dev :=
  if d.portState p = 0 then d
  else
    let d := (d.setPort p 0).flag (match p with
      | .dn => F.CHN_EFLAG_DNDOWN
      | .up => F.CHN_EFLAG_UPDOWN)
    if d.isHead then d.breakIndicated (match p with
      | .up => 4
      | .dn => 5) none
    else if p == .up && d.addrValid && d.side = 0 && d.bit F.TIM_PDLYR_VALID then
      d.sendKend 1 (d.addr + 1) (BitVec.ofNat 16 (d.get F.CHN_ADDR_KID))
    else d

/-! ### Phase timing frames (R198, R200, R343) -/

/-- B0 carries A0's models while SOLO = 0 (R212). -/
def relaysModels (d : Dev) : Bool := d.isHead && d.isTwin && !d.bit F.SYS_CLKSTAT_SOLO

/-- The head's PHTIM frame leaves, on both ports while the chain is healed, and A0 sends TIME and each new model to B0 (R198, R205, R212,
R356, R385). -/
def sendPhtim (d : Dev) : Dev :=
  match d.chain.phtimAt with
  | none => d
  | some t =>
    if !d.isHead || decide (d.cycle < t) then d
    else
      let last := d.loop.issue
      let (m, d) := if d.relaysModels then (d.loop.issue, d) else d.nextModel (d.now * 32)
      let u := d.chain.updates.head?
      let upd : List Byte := match u with
        | none => [0, 0, 0, 0, 0]
        | some u => [BitVec.ofNat 8 u.kind.toNat, BitVec.ofNat 8 u.idx.toNat, 0] ++ beBytes 2 (u.delta.emod 65536).toNat
      let f := { hardFrame d.linkRev 8 0 127 (beBytes 6 d.now ++ [0] ++ modelBytes m ++ beBytes 6 d.chain.token.toNat ++
        [BitVec.ofNat 8 (d.get F.CHN_PSTAT_BREV)] ++ upd ++ [BitVec.ofNat 8 (d.get F.CHN_KSTAT_N), 0]) with orig := false }
      let closed := d.ringClosed
      let d := { d with chain := { d.chain with
        phtimAt := some (t + 102400), updates := d.chain.updates.drop 1
        marker := if closed then some ((d.now * 4096 + d.get F.CHN_RFWD_RFWD) % 2 ^ 60) else none } }
      let d := match u with
        | none => d
        | some u =>
          let add (d : Dev) (f : Fld) : Dev := d.put f ((d.get f : Int) + u.delta).toNat
          let d := if u.kind = 3 then d else add d F.CHN_RFWD_RFWD
          if u.kind = 2 then d else add d F.CHN_RTOT_RTOT
      let d := d.emit (.frame .up f (frameCrc f))
      let d := if d.healed then d.emit (.frame .dn f (frameCrc f)) else d
      if d.isTwin then d
      else
        let d := d.sendMsg 6 (beBytes 6 d.now ++ [0])
        if m.isSome && m != last then d.sendMsg 7 (modelBytes m) else d

/-- The first PHTIM after a wake judges the stored token (R602). -/
def judgeToken (d : Dev) (token : Nat) : Dev :=
  if token = d.chain.token.toNat then
    ((((d.putB F.CHN_ADDR_TENT false).putB F.SYS_PWRSTAT_TENT false).putB F.TIM_PDLY_VALID true).putB F.TIM_PDLYR_VALID true).sendPair
  else d.dropAddress

/-- A member consumes a PHTIM frame whose marker reached its pins at `ta` in 1/32 ticks (R200 to R204, R211, R343, R352, R356, R602): the
offset is formed with the path delay of the port as it stood before the frame's own update. -/
def takePhtim (d : Dev) (p : Port) (ta : Nat) (f : Frame) : Dev :=
  let l := f.payload
  if d.isHead || l.length != 36 then d
  else
    let d := (d.event 18 1).frameSeen
    let token := fieldAt l 22 6
    let d := if d.bit F.CHN_ADDR_TENT then d.judgeToken token
      else if d.bit F.CHN_ADDR_VALID && token != d.chain.token.toNat then d.post 1 1 4 0
      else d
    let delay := d.pathDelay p
    let d := d.timingFrameSeen
    let d := match delay with
      | none => d
      | some x => d.alignBy (wrapDiff 60 (ta * 128) ((fieldAt l 0 6 * 32 + byteAt l 6 % 32) * 128 + x))
    let d := match modelOf (l.drop 7) with
      | none => d
      | some m => d.offerModel m
    (d.updatePath (byteAt l 29 % 4) (byteAt l 30 % 128) (signed 16 (fieldAt l 32 2))).setBrev (byteAt l 28 % 16)

/-! ### Triggers (R115, R120, R342, R367 to R371, R455) -/

/-- A TRIG frame is consumed by every device that DEST names (R342); one that completes after S − 300 is refused with LATE (R120). -/
def takeTrig (d : Dev) (f : Frame) : Dev :=
  if d.isHead || f.payload.length != 8 || !(f.dest == 127 || f.dest == BitVec.ofNat 7 d.addr) || !d.addrValid then d
  else
    let d := (d.event 18 1).frameSeen
    let t := fieldAt f.payload 0 6
    let fs := byteAt f.payload 6 % 32
    let s := wrapDiff 48 (t + d.delayTo fs) d.now
    if d.get0 F.CONV_TRIG_SRC != 3 then d
    else if s < 300 then d.hwTrigger fs d.cycle 0 false true
    else { d with chain := { d.chain with targets := d.chain.targets ++ [⟨BitVec.ofNat 48 t, BitVec.ofNat 5 fs⟩] } }

/-- The target tick of a consumed TRIG has come: the trigger event (R115, R116). -/
def trigTarget (d : Dev) : Dev :=
  match d.chain.targets.find? (fun x => decide (wrapDiff 48 x.t.toNat d.now ≤ 0)) with
  | none => d
  | some x =>
    let d := { d with chain := { d.chain with targets := d.chain.targets.erase x } }
    if d.get0 F.CONV_TRIG_SRC != 3 then d
    else d.hwTrigger x.fine.toNat 0 (wrapDiff 48 d.now x.t.toNat).toNat false false

/-- A head commits a trigger (R367, R370, R455): it waits for its slot, and A0 sends it to B0, at once or 65,000 ticks before T. -/
def commitTrig (d : Dev) (t : Nat) (fine tid : Nat) : Dev :=
  let r : TrigReq := ⟨BitVec.ofNat 48 t, BitVec.ofNat 5 fine, BitVec.ofNat 8 tid, BitVec.ofNat 7 (d.get F.CHN_TRIGCFG_DEST)⟩
  let d := { d with chain := { d.chain with trigs := d.chain.trigs ++ [r] } }
  if d.isTwin then d
  else if 65000 < wrapDiff 48 t d.now then { d with chain := { d.chain with delayed := d.chain.delayed ++ [r] } }
  else d.emit (.trigWord (BitVec.ofNat 16 t) r.fine r.tid)

/-- A write of CHN_TRIGH commits the written trigger, or counts it (R367, R368, R370). -/
def writeTrigh (d : Dev) (w : Word) : Dev :=
  if !d.isHead then d
  else
    let d := d.writeFields R.CHN_TRIGH w false
    let t := d.get F.CHN_TRIGH_TH * 2 ^ 32 + d.get F.CHN_TRIGL_TL
    if d.relaysModels || wrapDiff 48 t d.now < d.get F.CHN_TRIGCFG_LEAD then d.count F.CHN_TRIGSTAT_LATE 1
    else d.commitTrig t (d.get F.CHN_TRIGH_FINE) (d.get F.CHN_TRIGH_TID)

/-- A PHSYNC edge stamped at `e` in 1/32 ticks triggers (R367). -/
def phsyncTrig (d : Dev) (rising : Bool) (e : Nat) : Dev :=
  let sel := d.get F.CHN_TRIGCFG_PHS
  if d.relaysModels || !(if rising then sel == 1 else sel == 2) then d
  else
    let last := ((d.chain.trigs.getLast?).map (·.tid.toNat)).getD (d.get F.CHN_TRIGSTAT_TID)
    d.commitTrig ((e / 32 + d.get F.CHN_TRIGCFG_LEAD) % 2 ^ 48) (e % 32) ((last + 1) % 256)

/-- A committed TRIG leaves, on both ports while the chain is healed (R369, R385). -/
def sendTrig (d : Dev) : Dev :=
  match d.chain.trigs with
  | [] => d
  | r :: t =>
    let f := { hardFrame d.linkRev 7 0 r.dest.toNat (beBytes 6 r.t.toNat ++ [BitVec.ofNat 8 r.fine.toNat, r.tid]) with orig := false }
    let d := ({ d with chain := { d.chain with trigs := t } }).put F.CHN_TRIGSTAT_TID r.tid.toNat
    let d := d.emit (.frame .up f (frameCrc f))
    if d.healed then d.emit (.frame .dn f (frameCrc f)) else d

/-- The TRIG word of A0 reaches B0, which commits the trigger whose T lies ahead by less than 2^16 ticks (R370, R455). -/
def takeTrigWord (d : Dev) (t fine tid : Nat) : Dev :=
  if !(d.isHead && d.isTwin) then d
  else d.commitTrig ((d.now + (t + 65536 - d.now % 65536) % 65536) % 2 ^ 48) fine tid

/-- A delayed TRIG word starts at T − 65,000 (R455). -/
def delayedTrigWord (d : Dev) : Dev :=
  match d.chain.delayed.find? (fun r => decide (wrapDiff 48 r.t.toNat d.now ≤ 65000)) with
  | none => d
  | some r =>
    ({ d with chain := { d.chain with delayed := d.chain.delayed.erase r } }).emit (.trigWord (r.t.truncate 16) r.fine r.tid)

/-! ### Forwarding (R326 to R330, R338, R347) -/

/-- A frame that hardware of every revision consumes: SAFETY, TRIG, PHTIM and KINDLE have frozen formats (R347). -/
def frozenType (ty : BitVec 4) : Bool := ty == 0xA || ty == 7 || ty == 8 || ty == 0xC

/-- The CRC of a stomped frame: its last byte inverted (R329). -/
def stompCrc (c : Word) : Word := c ^^^ 0xFF

/-- An ordinary frame goes out on the port across, at once or behind others in the insertion buffer (R327, R328). -/
def relay (d : Dev) (p : Port) (f : Frame) (crc : Word) : Dev :=
  match p with
  | .dn =>
    if d.chain.insFwd.isEmpty && decide (d.chain.fwdBusy ≤ d.cycle) then d.leaves .up f crc
    else { d with chain := { d.chain with insFwd := d.chain.insFwd ++ [(f, crc)] } }
  | .up =>
    if d.chain.insRev.isEmpty && decide (d.chain.revBusy ≤ d.cycle) then d.leaves .dn f crc
    else { d with chain := { d.chain with insRev := d.chain.insRev ++ [(f, crc)] } }

/-- A device passes an ordinary frame on and checks it as it passes (R326 to R330, R338, R347). A head forwards nothing (R357), and a KINDLE
goes on only as KINDLE_SEND's own frame. -/
def forward (d : Dev) (p : Port) (f : Frame) (crc : Word) : Dev :=
  let good := frameCrc f
  if f.ty = 7 || f.ty = 8 || (f.ty = 0xC && byteAt f.payload 0 = 1) then d
  else
    let stomped := crc == stompCrc good
    let ok := crc == good && f.ty != 0 && f.ty != 0xF
    let d :=
      if ok then
        let d := d.frameSeen
        let d := if f.ty = 0xD || f.ty = 0xE then d.count F.CHN_FREV_RSVT 1 else d
        if !frozenType f.ty && f.ty != 0xD && f.ty != 0xE && !d.revOk f then (d.count F.CHN_FREV_CNT 1).flag F.CHN_EFLAG_FREV else d
      else if stomped then (d.count F.CHN_UERR_STOMP 1).flag F.CHN_EFLAG_STOMP
      else d.count F.CHN_UERR_FAIL 1
    if d.isHead then d
    else
      let (tag, d) := d.tagDecide (match p with
        | .dn => 1
        | .up => 2)
      let inn := match p with
        | .dn => 0
        | .up => 1
      let d := if tag then
          (d.tagStart (BitVec.ofNat 32 (ofBeBytes (frameHeader f))) inn (frameLen f)).tagLeaves
            (if !ok then 4 else if d.consumes p f then 2 else 1)
        else d
      (d.event 16 1).relay p f (if ok || stomped then crc else stompCrc crc)

/-- The next frame of an insertion buffer leaves as soon as its output is free (R327). -/
def chainTick (d : Dev) : Dev :=
  let d := match d.chain.insFwd with
    | (f, c) :: t =>
      if d.chain.fwdBusy ≤ d.cycle then ({ d with chain := { d.chain with insFwd := t } }).leaves .up f c else d
    | [] => d
  match d.chain.insRev with
  | (f, c) :: t => if d.chain.revBusy ≤ d.cycle then ({ d with chain := { d.chain with insRev := t } }).leaves .dn f c else d
  | [] => d

/-- The oldest of a device's own frames for a port starts, once the insertion buffer is empty and the output free (R328); a freed entry of
the sequencer transmit queue posts line 6 (R245). Transmitters must be on (R316). -/
def ownStart (d : Dev) (p : Port) : Dev :=
  let go (d : Dev) (o : Own) : Dev :=
    let d := (d.event 17 1).leaves p o.frame (frameCrc o.frame)
    let d := if o.tagged then d.tagLeaves 0 else d
    if o.sent then d.irq 6 else d
  if !d.chain.txOn then d
  else match p with
    | .up =>
      (match d.chain.ownFwd with
       | o :: t => if d.chain.insFwd.isEmpty && decide (d.chain.fwdBusy ≤ d.cycle) then
           go { d with chain := { d.chain with ownFwd := t } } o else d
       | [] => d)
    | .dn =>
      (match d.chain.ownRev with
       | o :: t => if d.chain.insRev.isEmpty && decide (d.chain.revBusy ≤ d.cycle) then
           go { d with chain := { d.chain with ownRev := t } } o else d
       | [] => d)

/-! ### Frames for Hearth and the host (R306, R307, R361 to R366, R377) -/

/-- A frame enters the sequencer receive queue of four, or is counted (R280, R365, R499). -/
def pushRx (d : Dev) (f : Frame) (passed : Bool) : Dev :=
  if 4 ≤ d.hearth.rxq.length then ((d.count F.CHN_SQSTAT_OVF 1).flag F.CHN_EFLAG_SQOVF).post 1 0 6 0
  else
    let r : RxFrame := ⟨f, passed⟩
    ({ d with hearth := { d.hearth with rxq := d.hearth.rxq ++ [r] } }).irq 5

/-- The full revision that a head holds for an address (R307, R347). -/
def revOf (d : Dev) (a : Nat) : Nat :=
  ((d.chain.revs.find? (fun x => x.1 == a)).map (fun x : Nat × BitVec 4 => x.2.toNat)).getD (d.get F.CHN_PSTAT_BREV)

/-- A head records the revision of a frame's sender, and sends broadcasts in the lowest that it holds (R307). -/
def noteRev (d : Dev) (f : Frame) : Dev :=
  if !d.isHead || f.src = 0 then d
  else
    let a := f.src.toNat
    let b := d.get F.CHN_PSTAT_BREV
    let v := if f.rev = BitVec.ofNat 2 b then b else if f.rev = BitVec.ofNat 2 (b + 1) then b + 1 else d.revOf a
    let d := { d with chain := { d.chain with revs := (a, BitVec.ofNat 4 v) :: d.chain.revs.filter (fun x => x.1 != a) } }
    let n := d.get F.CHN_KSTAT_N
    if n = 0 then d
    else d.setBrev ((List.range n).foldl (fun m i => min m (d.revOf (i + 1))) (d.revOf 1))

/-- The REV that a request to a destination must carry (R360). -/
def requestRev (d : Dev) (dest : Nat) : BitVec 2 :=
  BitVec.ofNat 2 (if dest = 127 then d.get F.CHN_PSTAT_BREV else if dest = 0 then d.linkRev else d.revOf dest)

/-- A REPORT or LOGX frame that may be consumed here (R330, R347, R365, R366, R382): at a member one of another device, on the port its
requests come on; at a head one addressed to it or to all, unless a break has been indicated. -/
def takesReport (d : Dev) (p : Port) (f : Frame) : Bool :=
  d.revOk f && (if d.isHead then (f.dest == 0 || f.dest == 127) && !d.chain.drop
    else (f.dest == BitVec.ofNat 7 d.addr || f.dest == 127) && f.src != BitVec.ofNat 7 d.addr && d.requestPort == some p && d.addrValid)

/-- A REPORT or LOGX frame is consumed (R280, R365, R366, R378): `queue` says that Hearth may take it. -/
def takeReport (d : Dev) (p : Port) (f : Frame) (queue : Bool) : Dev :=
  let d := d.noteRev f
  if !d.takesReport p f then d
  else
    let d := (d.event 18 1).frameSeen
    let (a, d) := d.authenticate f
    match a with
    | .again _ => d
    | r =>
      let ok := r == AuthRes.pass
      if d.isHead then
        let d := if queue && d.bit F.CHN_HQCTL_SEQCOPY then d.pushRx f ok else d
        d.pushHost (hostRec f ok (p == .up))
      else if queue then d.pushRx f ok else d

/-- The port or ports on which a request leaves (R385). -/
def requestPorts (d : Dev) (dest : Nat) : List Port :=
  if !d.healed then [.up]
  else if dest = 127 then [.up, .dn]
  else if dest ≤ d.get F.CHN_BRK_BLO then [.up]
  else [.dn]

/-- A request to a destination waits while four of its requests are outstanding (R337, R359). -/
def mayRequest (d : Dev) (f : Frame) : Bool := decide ((d.chain.outst.filter (fun o => o.frame.dest == f.dest)).length < 4)

/-- The types of requests that a response answers (R337, R364): a broadcast is answered for RUN only. -/
def expectsResponse (f : Frame) : Bool := decide (f.ty.toNat < 7) && (f.dest != 127 || f.ty == 6)

/-- The next request that may leave the host transmit queue leaves it (R359, R361); a freed entry sets TXFREE. The frame is given back if the
head addresses itself. -/
def sendRequest (d : Dev) : Option Frame × Dev :=
  if !d.isHead then (none, d)
  else
    match d.chain.htx.find? d.mayRequest with
    | none => (none, d)
    | some f =>
      let take (d : Dev) : Dev := ({ d with chain := { d.chain with htx := d.chain.htx.erase f } }).flag F.CHN_IRQST_TXFREE
      if f.dest = 0 then (some f, take d)
      else
        let ports := d.requestPorts f.dest.toNat
        let free (p : Port) : Bool := match p with
          | .up => decide (d.chain.fwdBusy ≤ d.cycle)
          | .dn => decide (d.chain.revBusy ≤ d.cycle)
        if !d.chain.txOn || !ports.all free then (none, d)
        else
          let d := ports.foldl (fun d p => (d.event 17 1).leaves p f (frameCrc f)) (take d)
          let o : Outst := ⟨f, d.cycle + frameLen f * 25, d.get F.CHN_TMO_RETRY, 0⟩
          let d : Dev := if expectsResponse f then { d with chain := { d.chain with outst := d.chain.outst ++ [o] } } else d
          (none, d)

/-- The outstanding request that a response matches (R361). -/
def matchOf (d : Dev) (f : Frame) : Option Outst :=
  d.chain.outst.find? (fun o => o.frame.ty == f.ty && o.frame.seq == f.seq && (o.frame.dest == f.src || o.frame.dest == 127))

/-- A response at the head (R361, R366, R378): delivered with its request gone from the outstanding ones; a broadcast RUN counts it. -/
def takeResponse (d : Dev) (p : Port) (f : Frame) : Dev :=
  if !d.isHead || f.src = 0 || f.dest != 0 then d
  else
    let d := (d.noteRev f).frameSeen
    match d.matchOf f with
    | none => d
    | some o =>
      let d := d.event 18 1
      let (a, d) := d.authenticate f
      let l := if o.frame.dest = 127 then d.chain.outst.map (fun x => if x == o then { x with nresp := x.nresp + 1 } else x)
        else d.chain.outst.erase o
      ({ d with chain := { d.chain with outst := l } }).pushHost (hostRec f (a == AuthRes.pass) (p == Port.up))

/-- The kinds of requests that the head repeats by itself (R364): REGRD, BLKRD and PLOAD DATA. -/
def retries (f : Frame) : Bool := f.ty == 1 || f.ty == 3 || (f.ty == 5 && byteAt f.payload 0 == 2)

/-- The timeout in cycles (R363, R391). -/
def timeout (d : Dev) : Nat := max 50 (d.get F.CHN_TMO_TMO) * 100

/-- The oldest request whose timeout has passed is repeated, or its timeout record is written (R363, R364, R378). -/
def requestTimeout (d : Dev) : Dev :=
  match d.chain.outst.find? (fun o => decide (o.sentAt + d.timeout ≤ d.cycle)) with
  | none => d
  | some o =>
    if retries o.frame && o.retries != 0 then
      let d := (d.requestPorts o.frame.dest.toNat).foldl (fun d p => (d.event 17 1).leaves p o.frame (frameCrc o.frame)) d
      { d with chain := { d.chain with
        outst := d.chain.outst.map (fun x =>
          if x == o then { x with sentAt := d.cycle + frameLen o.frame * 25, retries := x.retries - 1 } else x) } }
    else
      let d := { d with chain := { d.chain with outst := d.chain.outst.erase o } }
      let n := if o.frame.dest = 127 then o.nresp else 0
      (d.pushHost ⟨BitVec.ofNat 32 (2 ^ 30 + n % 256 * 65536 + 4), frameHeader o.frame⟩).flag F.CHN_IRQST_TMO

/-- A HOPREP at the head queues the change for its PHTIM frames (R356). -/
def takeHoprep (d : Dev) (f : Frame) : Dev :=
  if !d.isHead || f.src = 0 then d
  else
    let d := ((d.noteRev f).event 18 1).frameSeen
    let kind := byteAt f.payload 1
    let idx := if kind = 1 then f.src.toNat + 1 else f.src.toNat
    if kind = 0 || 3 < kind then d
    else
      let e := kind * 256 + idx
      let v := fieldAt f.payload 4 4
      let old := ((d.chain.reps.find? (fun x => x.1 == e)).map (fun x : Nat × Nat => x.2)).getD
        (Config.kindled (d.get F.CHN_KSTAT_KID) e)
      { d with chain := { d.chain with
        reps := (e, v) :: d.chain.reps.filter (fun x => x.1 != e)
        updates := d.chain.updates ++ [⟨BitVec.ofNat 2 kind, BitVec.ofNat 7 idx, (v : Int) - old⟩] } }

end Dev

end Sys2Proof.Machine
end

