-- ==== Sys2Proof/Machine/Chain.lean ====
section
/-!
DEFINITION. The chain commands (08_tystan_link.md, 09_chain_transactions.md): forwarding, ports, echoes, kindling, path delays, triggers,
the head's transactions, and breaks.
-/

namespace Sys2Proof.Machine

namespace Dev

/-- The active port factors of a port: CAL_EQ0 and CAL_EQ1 (R575, R581). -/
def portFactors (p : Port) : Nat := match p with
  | .dn => 204
  | .up => 206

/-- A port's number in the CAL block: 0 DN, 1 UP. -/
def portIndex (p : Port) : Nat := match p with
  | .dn => 0
  | .up => 1

/-- Valid transitions at a DOWN port: TRAIN, and its live settings start from the active port factors (R334, R581). -/
def portTrain (d : Dev) (p : Port) : Dev :=
  if d.portState p != 0 then d
  else
    let i := portFactors p
    let k := portIndex p
    ((d.setPort p 1).wr (R.CAL_EQLIVE0 k) (nth d.cal.active i 0)).wr (R.CAL_EQLIVE1 k) (nth d.cal.active (i + 1) 0)

/-- A training port comes UP: its live settings become the active port factors, and its eye width is its quality figure (R334, R581). -/
def portUp (d : Dev) (p : Port) (eye : Nat) : Dev :=
  if d.portState p != 1 || decide (eye < 24) then d
  else
    let i := portFactors p
    let k := portIndex p
    let a := upd (upd d.cal.active i (fun _ => d.rd (R.CAL_EQLIVE0 k))) (i + 1) (fun _ => d.rd (R.CAL_EQLIVE1 k))
    let d := ({ d with cal := { d.cal with active := a } }).setPort p 2
    match p with
    | .dn => d.put F.CAL_QEYE_DN eye
    | .up => d.put F.CAL_QEYE_UP eye

/-- The eye width of a port has stayed below 24 for 1 s (R334, R499). -/
def eyeLow (d : Dev) (p : Port) : Dev :=
  if d.portState p != 2 then d else (d.flag F.CHN_EFLAG_EYELOW).post 1 0 3 (BitVec.ofNat 32 (portIndex p))

/-- A FAULT slot arrives (R332, R473, R475): a member relays it, a head acts on it. -/
def faultSymbol (d : Dev) (p : Port) : Dev :=
  if d.isHead then
    let d := (d.flag F.CHN_IRQST_FAULTSYM).safeDemandBy 0
    { d with safe := { d.safe with faultSlot := some d.cycle } }
  else d.emit (.faultSlots (match p with
    | .dn => .up
    | .up => .dn) true)

/-- The measured residence deviations, in 1/4096 tick (R326, R355). -/
def measureResidence (d : Dev) (fwd rev : Int) : Dev :=
  ({ d with chain := { d.chain with rhoF := fwd, rhoR := rev } }).reportPath

/-- A write of CHN_KCTL sets its fields, and GO starts a kindling (R391). -/
def writeKctl (d : Dev) (w : Word) : Dev :=
  if !d.isHead then d
  else
    let d := d.writeFields R.CHN_KCTL w false
    if w.getLsbD 0 then d.startKindling else d

/-- A background echo starts, while no kindling measures (R355). -/
def backgroundEcho (d : Dev) : Dev := if !d.chain.txOn || d.chain.kin.isSome then d else d.emit (.echoRequest .up)

/-- A KINDLE frame of the member's DN port (R348, R350); the TYPE is checked. -/
def kindleFrame (d : Dev) (p : Port) (f : Frame) (sub len : Nat) : Bool :=
  p == Port.dn && f.ty == 0xC && f.payload.length == len && byteAt f.payload 0 == sub && !d.isHead

end Dev

/-- FRAME_FORWARD (R327). -/
def execFrameForward (p : Port) (f : Frame) (crc : Word) (s : State) : Host.Outcome State Fault Refusal := s.on (·.forward p f crc)

/-- OWN_FRAME_START (R328). -/
def execOwnFrameStart (p : Port) (s : State) : Host.Outcome State Fault Refusal := s.on (·.ownStart p)

/-- FAULT_SYMBOL_RECEIVED (R332). -/
def execFaultSymbolReceived (p : Port) (s : State) : Host.Outcome State Fault Refusal := s.on (·.faultSymbol p)

/-- ECHO_REQUEST (R349): a receiving port of the forward stream answers. -/
def execEchoRequest (p : Port) (s : State) : Host.Outcome State Fault Refusal :=
  s.on (fun d => if d.chain.txOn && p == .dn then d.emit (.echoReply p) else d)

/-- ECHO_REPLY (R349): `hop` is the hop delay measured, in 1/4096 tick. -/
def execEchoReply (p : Port) (hop : BitVec 24) (s : State) : Host.Outcome State Fault Refusal :=
  s.on (fun d => if p == .up then d.echoReply hop.toNat else d)

/-- BACKGROUND_ECHO (R355). -/
def execBackgroundEcho (s : State) : Host.Outcome State Fault Refusal := s.on Dev.backgroundEcho

/-- HOPREP (R356). -/
def execHoprep (_p : Port) (f : Frame) (s : State) : Host.Outcome State Fault Refusal :=
  s.on (fun d => if f.ty == 0xC && f.payload.length == 8 && byteAt f.payload 0 == 4 then d.takeHoprep f else d)

/-- RESIDENCE_MEASURE (R326). -/
def execResidenceMeasure (fwd rev : BitVec 16) (s : State) : Host.Outcome State Fault Refusal :=
  s.on (·.measureResidence fwd.toInt rev.toInt)

/-- PORT_TRAIN (R334). -/
def execPortTrain (p : Port) (s : State) : Host.Outcome State Fault Refusal := s.on (·.portTrain p)

/-- PORT_UP (R334): `eye` is the eye width in 1/64 of a half-bit. -/
def execPortUp (p : Port) (eye : Byte) (s : State) : Host.Outcome State Fault Refusal := s.on (·.portUp p eye.toNat)

/-- PORT_DOWN (R334). -/
def execPortDown (p : Port) (s : State) : Host.Outcome State Fault Refusal := s.on (·.portDown p)

/-- EYE_WIDTH_LOW (R334). -/
def execEyeWidthLow (p : Port) (s : State) : Host.Outcome State Fault Refusal := s.on (·.eyeLow p)

/-- KINDLING_START (R59): a head starts kindling 10 ms after reset release. -/
def execKindlingStart (s : State) : Host.Outcome State Fault Refusal :=
  s.on (fun d => if !d.isHead || d.power.started == false || decide (d.cycle < d.power.releasedAt + 1000000) ||
    d.get F.CHN_KCTL_KSTATE != 0 then d else d.startKindling)

/-- KINDLING_REPEAT (R59). -/
def execKindlingRepeat (s : State) : Host.Outcome State Fault Refusal := s.on Dev.kindlingRepeat

/-- KINDLING_ABANDON (R59). -/
def execKindlingAbandon (s : State) : Host.Outcome State Fault Refusal := s.on Dev.kindlingAbandon

/-- KINDLING_GO (R391). -/
def execKindlingGo (w : Word) (s : State) : Host.Outcome State Fault Refusal := s.on (·.writeKctl (w ||| 1))

/-- KINDLE (R350). -/
def execKindle (p : Port) (f : Frame) (s : State) : Host.Outcome State Fault Refusal :=
  s.on (fun d => if d.kindleFrame p f 1 16 then ((d.event 18 1).frameSeen).takeKindle f else d)

/-- KINDLE_SEND (R350). -/
def execKindleSend (s : State) : Host.Outcome State Fault Refusal := s.on Dev.kindleSend

/-- KINDLE_NO_ECHO (R350). -/
def execKindleNoEcho (s : State) : Host.Outcome State Fault Refusal := s.on Dev.kindleNoEcho

/-- KINDLE_RETURN (R350). -/
def execKindleReturn (f : Frame) (s : State) : Host.Outcome State Fault Refusal := s.on (·.kindleReturn f)

/-- TOPO (R352). -/
def execTopo (p : Port) (f : Frame) (s : State) : Host.Outcome State Fault Refusal :=
  s.on (fun d => if d.kindleFrame p f 2 32 then ((d.event 18 1).frameSeen).takeTopo f else d)

/-- KEND (R351). -/
def execKend (_p : Port) (f : Frame) (s : State) : Host.Outcome State Fault Refusal :=
  s.on (fun d => if d.isHead && f.ty == 0xC && f.payload.length == 8 && byteAt f.payload 0 == 3 then
    ((d.event 18 1).frameSeen).takeKend f else d)

/-- RING_RETURN_CHECK (R357): the marker returned at tick `t`, step `step`. -/
def execRingReturnCheck (t : BitVec 48) (step : BitVec 5) (s : State) : Host.Outcome State Fault Refusal :=
  s.on (·.ringReturn (t.toNat * 4096 + step.toNat * 128))

/-- RING_RETURN_MISSING (R357). -/
def execRingReturnMissing (s : State) : Host.Outcome State Fault Refusal := s.on Dev.ringMissing

/-- TRIG (R342). -/
def execTrig (f : Frame) (s : State) : Host.Outcome State Fault Refusal := s.on (fun d => if f.ty == 7 then d.takeTrig f else d)

/-- REPORT (R365). -/
def execReport (p : Port) (f : Frame) (s : State) : Host.Outcome State Fault Refusal :=
  s.on (fun d => if f.ty == 9 then d.takeReport p f true else d)

/-- LOGX (R346): Hearth takes one of SEND, with ORIG = 0. -/
def execLogx (p : Port) (f : Frame) (s : State) : Host.Outcome State Fault Refusal :=
  s.on (fun d => if f.ty == 0xB && f.dest != 127 then d.takeReport p f (!f.orig) else d)

/-- RESPONSE_RECEIVE (R361). -/
def execResponseReceive (p : Port) (f : Frame) (s : State) : Host.Outcome State Fault Refusal := s.on (·.takeResponse p f)

/-- REQUEST_TIMEOUT (R363). -/
def execRequestTimeout (s : State) : Host.Outcome State Fault Refusal := s.on Dev.requestTimeout

/-- CHN_TRIGH_WRITE (R367). -/
def execChnTrighWrite (w : Word) (s : State) : Host.Outcome State Fault Refusal := s.on (·.writeTrigh w)

/-- TRIG_SEND (R369). -/
def execTrigSend (s : State) : Host.Outcome State Fault Refusal := s.on (fun d => if d.isHead then d.sendTrig else d)

/-- TRIG_WORD (R455). -/
def execTrigWord (t : BitVec 16) (fine : BitVec 5) (tid : Byte) (s : State) : Host.Outcome State Fault Refusal :=
  s.on (·.takeTrigWord t.toNat fine.toNat tid.toNat)

/-- TRIG_WORD_DELAYED_START (R455). -/
def execTrigWordDelayedStart (s : State) : Host.Outcome State Fault Refusal := s.on Dev.delayedTrigWord

/-- BREAK_NOTICE_SEND (R382): `blo` and `bhi` are what the head's reads of CHN_ADDR located. -/
def execBreakNoticeSend (blo bhi : BitVec 7) (s : State) : Host.Outcome State Fault Refusal :=
  s.on (·.sendNotice blo.toNat bhi.toNat)

/-- CHAIN_HEALED (R382). -/
def execChainHealed (s : State) : Host.Outcome State Fault Refusal := s.on Dev.chainHealed

/-- BREAK_NOTICE (R383): the broadcast write of CHN_HEAL; a member accepts it on either port. -/
def execBreakNotice (_p : Port) (f : Frame) (s : State) : Host.Outcome State Fault Refusal :=
  s.on (fun d =>
    if d.isHead || f.ty != 2 || f.src != 0 || f.dest != 127 || f.payload.length != 8 || fieldAt f.payload 0 2 != R.CHN_HEAL || !d.addrValid ||
        !d.revOk f then d
    else ((d.event 18 1).frameSeen).takeNotice (BitVec.ofNat 32 (fieldAt f.payload 4 4)))

/-- TOKEN_READ (R390): CHN_TOKH takes the high half. -/
def Dev.readTokl (d : Dev) : Word × Dev := (d.rd R.CHN_TOKL, d.wr R.CHN_TOKH (BitVec.ofNat 32 (d.chain.token.toNat / 2 ^ 32)))

/-- TOKEN_READ (R390). -/
def execTokenRead (s : State) : Host.Outcome State Fault Refusal := s.on (fun d => d.readTokl.2.emit (.value R.CHN_TOKL d.readTokl.1))

end Sys2Proof.Machine
end

