-- ==== Sys2Proof/Machine/PowerOps.lean ====
section
/-!
DEFINITION. Reset, start-up, Banked sleep and waking (01_architecture.md R32 to R39 and R55 to R65, 15_power_states_sleep.md), and the
installation of a key when its page is programmed.
-/

namespace Sys2Proof.Machine

namespace Dev

/-! ### Reset (R5 to R7, R55, R608) -/

/-- The majority of three strap samples (R5). -/
def majority (a b c : Bool) : Bool := (a && b) || (a && c) || (b && c)

/-- The device at power-on reset or in Off: everything at its reset value but what the NAND die keeps (R608, R633). The cycle count and the
count of draws are the model's own and go on. -/
def cleared (d : Dev) : Dev :=
  let n := { Dev.reset with cycle := d.cycle, draws := d.draws + 2, nv := d.nv }
  { n with keys := { n.keys with dnonce := Config.random d.draws, tch := Config.random (d.draws + 1) }
           power := { n.power with buck := d.power.buck, hvg := d.power.hvg } }

/-- The role straps stand latched (R5 to R7), and what follows from the role alone. -/
def strapAs (d : Dev) (head twin unstable : Bool) : Dev :=
  let d := ((d.putB F.SYS_STRAP_HEADSEL head).putB F.SYS_STRAP_TWINSEL twin).putB F.SYS_STRAP_UNSTABLE unstable
  let d := (d.putB F.TWN_STAT_HEAD head).putB F.TWN_STAT_ROLE twin
  { d with guard := { d.guard with active := Guard.resetConfig head }, power := { d.power with strapped := true } }

/-- POWER_ON_RESET (R5, R608): a count of VBUS_RISE that runs already goes on. -/
def powerOn (d : Dev) (head twin unstable : Bool) : Dev :=
  let rose := if d.power.released then none else d.power.vbusRose
  let d := d.cleared.strapAs head twin unstable
  { d with power := { d.power with vbusRose := rose } }

/-- The device goes Off (R588). -/
def off (d : Dev) : Dev :=
  let d := d.cleared
  { d with power := { d.power with strapped := false } }

/-- Reset is released, by a cold or a warm reset (R32, R39, R55 steps 2 to 8): the oscillator runs, OTP is read, the log mount begins. On a
head the address 0 stands, and A0 is its own master of frequency and time (R36, R38). -/
def release (d : Dev) (otpOk : Bool) : Dev :=
  let t := d.cycle
  let d := { d with power := { d.power with
    released := true, releasedAt := t, started := true, commAt := t, scrubAt := t, scrubPos := 0, calPending := !d.isHead, vbusRose := none } }
  let d := { d with log := { d.log with mountFrom := t, l0At := t }, cal := { d.cal with trkAt := t } }
  let reads := otpOk && !d.bit F.SEC_STAT_TEST
  let d := { d with bist := { d.bist with memAt := t, convAt := t }, keys := { d.keys with otp := reads } }
  let d := ((d.putB F.SYS_CLKSTAT_MAINOK true).put F.LOG_STAT_MOUNT 1).putB F.SEC_STAT_OTPOK otpOk
  let d := if d.isHead then (d.putB F.CHN_ADDR_VALID true).putB F.TWN_CCSTAT_SUSP true else d
  let d := if d.isHead && !d.isTwin then (d.setFlock true).setAligned true else d
  if otpOk then d else d.post 4 3 7 0

/-- RESET_RELEASE (R55, R85): 200 µs after VBUS rose, with the straps latched. -/
def coldRelease (d : Dev) (otpOk : Bool) : Dev :=
  match d.power.vbusRose with
  | none => d
  | some t => if d.power.released || !d.power.strapped || decide (d.cycle < t + 20000) then d else d.release otpOk

/-- The registers of block `b` (bits [15:12] of the address) as `old` holds them. -/
def keepBlock (d : Dev) (old : Regs) (b : Nat) : Dev :=
  (old.filter (fun e => e.1 / 4096 == b)).foldl (fun d e => d.wr e.1 e.2) d

/-- What a warm reset leaves (R517, R608, R625, R627): the straps, CFG, STF and CLK, BAL_QCELL, the supply's state, a locked SEC_POLICY and
test mode, and in Lockout the FLT registers and the challenge. -/
def warmed (d : Dev) : Dev :=
  let lko := d.bit F.FLT_STAT_LKO
  let n := d.cleared.strapAs d.isHead d.isTwin (d.bit F.SYS_STRAP_UNSTABLE)
  let n := (n.put F.GRD_GLATCH_GUARD (d.glatch &&& 0x380)).wr R.SYS_RSTCAUSE (d.rd R.SYS_RSTCAUSE)
  let n := { n with
    bal := { n.bal with qcell := d.bal.qcell, busHigh := d.bal.busHigh, aboveVhi := d.bal.aboveVhi, belowVlo := d.bal.belowVlo }
    power := { n.power with powerFail := d.power.powerFail, overV := d.power.overV, tempStop := d.power.tempStop
                            hot160 := d.power.hot160 } }
  let n := (n.flag F.SYS_RSTCAUSE_WARM).putB F.LOG_STAT_PFW d.power.powerFail
  let n := if d.bit F.SEC_STAT_LOCKED then (n.wr R.SEC_POLICY (d.rd R.SEC_POLICY)).putB F.SEC_STAT_LOCKED true else n
  let n := n.putB F.SEC_STAT_TEST (d.bit F.SEC_STAT_TEST)
  if !lko then n
  else
    let n := ({ n with flt := d.flt, fltBase := d.fltBase, fltNow := d.fltNow, keys := { n.keys with chal := d.keys.chal } }).keepBlock
      d.regs 8
    (n.flag F.SYS_RSTCAUSE_LKOW).setState 4

/-- WARM_RESET (R608): a write of the key to SYS_RSTCMD; any other value is ignored. -/
def warmReset (d : Dev) (w : Word) : Dev := if w != 0x52535421 then d else d.warmed.release true

/-! ### Start-up (R32 to R39, R55, R59, R60, R65) -/

/-- `n` cycles have passed since reset release. -/
def sinceRelease (d : Dev) (n : Nat) : Bool := d.power.started && decide (d.power.releasedAt + n ≤ d.cycle)

/-- Fireguard arms on its reset configuration (R32, R450). -/
def guardArm (d : Dev) : Dev := if !d.sinceRelease 5000 || d.bit F.GRD_STAT_ARMED then d else d.putB F.GRD_STAT_ARMED true

/-- Both chain transmitters turn on and send idle slots (R59, R316, R600, R601). -/
def transmit (d : Dev) : Dev :=
  if d.chain.txOn then d
  else (({ d with chain := { d.chain with txOn := true } }).emit (.idleSlots .up)).emit (.idleSlots .dn)

/-- HEAD_TX_ENABLE (R59, R60): 0.5 ms after reset release, while no wake has followed (R600); on B0 once FLOCK or SOLO stands. -/
def headTransmit (d : Dev) : Dev :=
  if !d.isHead || !d.sinceRelease 50000 || d.get F.SYS_PWRSTAT_WCAUSE != 0 then d
  else if d.isTwin && !d.bit F.SYS_CLKSTAT_FLOCK && !d.bit F.SYS_CLKSTAT_SOLO then d
  else d.transmit

/-- A window of 32 RC cycles is complete (R39): RCOK, and SUPPLY 0x01 when it is 0 while MAINOK is 1. -/
def rcWindow (d : Dev) (inRange : Bool) : Dev :=
  let d := { d with power := { d.power with rcRuns := d.power.rcRuns + 1 } }
  let d := d.putB F.SYS_CLKSTAT_RCOK inRange
  if !inRange && d.bit F.SYS_CLKSTAT_MAINOK then d.post 5 2 1 0 else d

/-- A window of the received bit rate ends (R34, R36, R37): two in a row within ±10 ppm lock the frequency of a member, and of B0 unless it
runs alone; a member's transmitters turn on with it (R316). -/
def freqWindow (d : Dev) (within : Bool) : Dev :=
  if d.isHead && (!d.isTwin || d.bit F.SYS_CLKSTAT_SOLO) then d
  else
    let n := if within then d.power.lockWindows + 1 else 0
    let d := { d with power := { d.power with lockWindows := n } }
    if n < 2 then d
    else
      let d := d.setFlock true
      if d.isHead then d else d.transmit

/-- A member loses line activity on DN (R35). -/
def lineLost (d : Dev) : Dev :=
  if d.isHead then d else ({ d with power := { d.power with lockWindows := 0 } }).setFlock false

/-- SOLO_TIMEOUT (R37). -/
def soloTimeout (d : Dev) : Dev :=
  if !(d.isHead && d.isTwin) || !d.sinceRelease 2000000 || d.linkUp then d else d.putB F.SYS_CLKSTAT_SOLO true

/-- SCRUB_STEP (R43, R45): one codeword of SRAM, program memory first. -/
def scrub (d : Dev) (e : Ecc) : Dev :=
  if decide (d.cycle < d.power.scrubAt + 8138) then d
  else
    let w := d.power.scrubPos
    let d := { d with power := { d.power with scrubAt := d.cycle, scrubPos := (w + 1) % 24576 } }
    match e with
    | .ok => d
    | .corrected => d.post 4 0 1 0
    | .uncorrectable => d.sramFault (w / 512)

/-! ### The supply (R81, R85 to R97, R499) -/

/-- A SAFE output in current limit for 1 ms turns off and is held (R81, R478). -/
def safeTrip (d : Dev) (j : Nat) : Dev :=
  if !d.isHead || !d.bitAt F.GRD_SAFESTAT_OUT j then d
  else ((d.putAt F.GRD_SAFESTAT_RBF j true).setOut j false).post 5 2 6 (BitVec.ofNat 32 j)

/-- VBUS falls below the power-fail warning (R87, R413, R643). -/
def powerFails (d : Dev) : Dev :=
  if d.power.powerFail then d
  else
    let d := ({ d with power := { d.power with powerFail := true } }).putB F.LOG_STAT_PFW true
    if d.banked then d else (d.endAll 4).post 5 0 2 0

/-- VBUS has risen back above 9.75 V (R643). -/
def powerRecovers (d : Dev) : Dev := ({ d with power := { d.power with powerFail := false } }).putB F.LOG_STAT_PFW false

/-- The die reaches 145 °C (R97, R510): the fault's discard stops every shelf. -/
def tempStops (d : Dev) : Dev :=
  if d.isHead then d else ({ d with power := { d.power with tempStop := true } }).post 6 1 7 0

/-- The die has fallen to 135 °C (R97, R500). -/
def tempResumes (d : Dev) : Dev := { d with power := { d.power with tempStop := false, hot160 := false } }

/-- The die reaches 160 °C (R97). -/
def tempSupply (d : Dev) : Dev := ({ d with power := { d.power with hot160 := true } }).post 5 2 4 0

/-! ### Keys whose page has been programmed (R623) -/

/-- The key record of a key frame is programmed: its key takes effect, the session key goes, and ASTOP stands until the next kindling
(R607, R623). -/
def keyInstalled (d : Dev) : Dev :=
  match d.keys.installing with
  | none => d
  | some (kp, kver) =>
    let d := ({ d with keys := { d.keys with installing := none } }).writeKeyRec kp kver
    (d.dropKs.putB F.SEC_STAT_ASTOP true).foreignClears

/-- A segment program is over (R642, R650): a failed block is retired for a spare, and its data programmed again from RAM; the last spare gone,
the log is read-only. -/
def programDone (d : Dev) (ok : Bool) : Dev :=
  if d.log.programming.isNone then d
  else
    let d := ({ d with log := { d.log with programming := none } }).keyInstalled
    if ok then d
    else
      let n := d.nv.spares - 1
      let d := { d with nv := { d.nv with spares := n, rdonly := d.nv.rdonly || d.nv.spares == 0 } }
      (d.put F.LOG_STAT_SPARE n).putB F.LOG_STAT_RDONLY d.nv.rdonly

/-! ### Entry to Banked (R589 to R592) -/

/-- COMM_TIMEOUT in cycles (R589, R611). -/
def commLimit (d : Dev) : Nat := clampNat 10 10000 (d.get F.SYS_COMMTMO_TMO) * 100000

/-- Either SAFE output of a head is on (R589, R590). -/
def safeOnAny (d : Dev) : Bool :=
  d.isHead && (List.range 2).any (fun j => d.bitAt F.GRD_SAFESTAT_OUT j || (nth d.safe.outs j SafeOut.reset).pulse.isSome)

/-- Fireguard has latched in this cycle (R609). -/
def latchedNow (d : Dev) : Bool := d.touch.any (fun t => t.addr == R.GRD_GLATCH && t.mask != 0)

/-- The chain and the sequencer queues are emptied (R591). -/
def emptyQueues (d : Dev) : Dev :=
  let freed := d.isHead && !d.chain.htx.isEmpty
  let d := d.dropOwn (fun _ => false)
  let d := { d with chain := { d.chain with htx := [], outst := [], trigs := [], delayed := [], targets := [] } }
  let d := { d with hearth := { d.hearth with rxq := [] } }
  let d := d.endStream 4
  if freed then d.flag F.CHN_IRQST_TXFREE else d

/-- The bytes of BAL_QCELL (R638). -/
def qcellBytes (d : Dev) : List Byte := (d.bal.qcell.map (fun q => beBytes 4 (q.1.emod (2 ^ 32)).toNat)).flatten

/-- Entry to Banked begins (R591 step 1, R592, R609): `tag` says 1 COMM_TIMEOUT, 2 SLEEP. A guard latch of the same cycle keeps the device
awake. -/
def enterBanked (d : Dev) (tag : BitVec 16) : Dev :=
  if d.power.entering.isSome then d
  else if d.latchedNow then d.frameSeen
  else
    let d := { d with power := { d.power with entering := some d.cycle, wakePending := none } }
    let d := (d.endAll 2).stopSweep
    let d := (List.range 136).foldl (fun d i => d.dropDrawer (i / 4) (i % 4)) d
    let d : Dev := { d with excs := d.excs.map (fun w : Drawer => { w with work := Accum.empty }) }
    let d := ((d.emptyQueues.cancelRun 9).halt 4).ownerAlone
    (d.logHw 0x02 tag (wordBytes d.fltStat ++ d.qcellBytes)).closeSegment

/-- COMM_TIMEOUT (R589): in Start, Measure and Lockout, while no SAFE output of a head is on. -/
def commExpired (d : Dev) : Dev :=
  if d.safeOnAny || decide (d.cycle < d.power.commAt + d.commLimit) then d else d.enterBanked 1

/-- SLEEP (R590): 3 SAFE, 2 STATE, or 1 done. -/
def sleepCmd (d : Dev) : Dev :=
  if d.banked then d.put F.SYS_PWRSTAT_PRES 2
  else if d.safeOnAny then d.put F.SYS_PWRSTAT_PRES 3
  else (d.put F.SYS_PWRSTAT_PRES 1).enterBanked 2

/-- INTV of the ember watch in cycles (R595, R611). -/
def emberInterval (d : Dev) : Nat := clampNat 1 3600 (d.get F.SYS_EMBCFG_INTV) * 100000000

/-- The compares disarm and the phase model is dropped (R591, step 4). -/
def dropTime (d : Dev) : Dev :=
  let d := d.disarmUnits 255
  let t : Tim := { d.tim with model := none, waiting := none, stepNext := true, offsets := [] }
  let t : Tim := { t with good := 0, bad := 0, missRun := 0, everFramed := false }
  let d : Dev := { d with tim := t }
  let d := ((d.putB F.TIM_PHSTAT_HASM false).putB F.TIM_PHSTAT_LOCKED false).putB F.TIM_PHSTAT_HOLD false
  ((d.setAligned false).setPlock false).setFlock false

/-- The ports and transmitters stop, with what was under way on them (R591, step 5). -/
def dropLines (d : Dev) : Dev :=
  let d := ((d.setPort .dn 0).setPort .up 0).linkLost
  let c : Chain := { d.chain with txOn := false, insFwd := [], insRev := [], marker := none, noticeAt := none, phtimAt := none }
  let c : Chain := { c with pend := none, kin := none, kinSince := none, echoN := 0, echoSum := 0 }
  let p : Power := { d.power with twinTx := false, rcRuns := 0, lockWindows := 0, phtimStart := none }
  let d : Dev := { d with chain := c, power := p, safe := { d.safe with faultSlot := none } }
  let d : Dev := { d with twin := { d.twin with pairs := [], held := none } }
  if d.get F.CHN_KCTL_KSTATE = 1 then d.put F.CHN_KCTL_KSTATE 0 else d

/-- What stops with the main oscillator (R591, steps 4 and 5). -/
def stopClocks (d : Dev) : Dev := ((d.dropTime.dropLines).putB F.SYS_CLKSTAT_MAINOK false).putB F.SYS_CLKSTAT_RCOK false

/-- The work that the stopped clocks end where step 1 of R591 has left it. -/
def stopWork (d : Dev) : Dev :=
  let d := (List.range 4).foldl (fun d k => if (d.shelf k).act then d.finishWork k 2 else d) d
  let d := (List.range 4).foldl (fun d k => d.selOff k) d
  let d := (d.abortDiag 9).chkEnd 4
  let d := { d with conv := Sweep.reset, inj := Injection.reset, cal := { d.cal with taken := none } }
  let d := (d.putB F.CAL_STAT_RUN false).putB F.BST_STAT_CBUSY false
  ((d.putB F.BST_STAT_MBUSY false).putB F.BST_STAT_MPAUSE false).put F.BST_STAT_MPHASE 0

/-- The device is Banked (R591, steps 3 to 6): the page program in progress has completed. -/
def goBanked (d : Dev) : Dev :=
  let d := (d.stopWork.stopClocks).programDone true
  let d := (d.setState 3).put F.SYS_SLPT_SEC 0
  { d with power := { d.power with
    entering := none, wakePending := none, slept := 0, emberAt := d.cycle + d.emberInterval, ember := none, wakeIdle := none } }

/-! ### Waking (R599 to R604) -/

/-- The wake event itself (R601 step 1, R604): a member's address becomes tentative and its path delays wait for the token (R602). -/
def wakeNow (d : Dev) (cause : Nat) : Dev :=
  let d := { d with power := { d.power with
    entering := none, wakePending := none, ember := none, wakeIdle := some (d.cycle + 20000), commAt := d.cycle } }
  let d := { d with log := { d.log with l0 := List.replicate 9 0, l0At := d.cycle } }
  let d := ((d.put F.SYS_PWRSTAT_STATE (if d.bit F.FLT_STAT_LKO then 4 else 1)).putB F.SYS_PWRSTAT_WOKE true).put F.SYS_PWRSTAT_WCAUSE cause
  if d.isHead || !d.bit F.CHN_ADDR_VALID then d
  else
    (((d.putB F.CHN_ADDR_TENT true).putB F.SYS_PWRSTAT_TENT true).putB F.TIM_PDLY_VALID false).putB F.TIM_PDLYR_VALID false

/-- The main oscillator runs again, 0.2 ms after the wake (R39, R573, R601 steps 2 to 4): a member sends idle slots on both ports, its
SLEEP cause is judged, and the wake record is made. -/
def wakeClocks (d : Dev) : Dev :=
  let t := d.cycle
  let d := { d with power := { d.power with wakeIdle := none, twinTx := true, scrubAt := t } }
  let d := { d with log := { d.log with mountFrom := t } }
  let d := { d with cal := { d.cal with trkAt := t }, bist := { d.bist with memAt := t, convAt := t } }
  let d := d.putB F.SYS_CLKSTAT_MAINOK true
  let age := d.get F.CAL_MAXAGE_AGE
  let d := if d.isHead then (if d.isTwin then d else (d.setFlock true).setAligned true)
    else
      let old := age != 0 && decide (age * 60 < d.get F.SYS_SLPT_SEC)
      (if old || d.tempMoved then d.stale 8 0 else d).transmit
  d.logHw 0x03 0 (d.rdBytes R.SYS_PWRSTAT ++ d.rdBytes R.SYS_SLPT ++ d.rdBytes R.CAL_STALE)

/-- An ember record that is not committed goes with its check (R609). -/
def dropEmber (d : Dev) : Dev :=
  let isEmber (r : LogRec) : Bool := r.ty == 0x04
  { d with log := { d.log with
    hwQ := d.log.hwQ.filter (fun r => !isEmber r)
    staged := d.log.staged.filter (fun x => match x with
      | .record r => !isEmber r
      | .cut => true) } }

/-- A wake event (R599, R609): it waits for the end of an ember check or of entry; a guard latch abandons the check. -/
def wake (d : Dev) (cause : Nat) : Dev :=
  if d.banked then
    if d.power.ember.isNone then d.wakeNow cause
    else if cause = 3 then d.dropEmber.wakeNow 3
    else { d with power := { d.power with wakePending := some (d.power.wakePending.getD cause) } }
  else if d.power.entering.isSome then { d with power := { d.power with wakePending := some (d.power.wakePending.getD cause) } }
  else d

/-- BANKED_ENTRY_COMPLETE (R591, R609): 2 ms after entry began; a wake event during entry wakes the device without powering down. -/
def bankedComplete (d : Dev) : Dev :=
  match d.power.entering with
  | none => d
  | some b =>
    if d.cycle < b + 200000 then d
    else match d.power.wakePending with
      | some c => (d.wakeNow c).wakeClocks
      | none => d.goBanked

/-- SYS_PWRCTL.WAKE on a woken head (R600): idle slots on both ports, and PHTIM 10 ms later. -/
def wakeChain (d : Dev) : Dev :=
  if !d.isHead || d.get F.SYS_PWRSTAT_WCAUSE = 0 || d.chain.txOn then d
  else ({ d with power := { d.power with phtimStart := some (d.cycle + 1000000) } }.put F.SYS_PWRSTAT_PRES 1).transmit

/-- PHTIM frames with the stored token begin (R600). -/
def wakePhtim (d : Dev) : Dev :=
  match d.power.phtimStart with
  | none => d
  | some t =>
    if !d.isHead || decide (d.cycle < t) then d
    else { d with power := { d.power with phtimStart := none }, chain := { d.chain with phtimAt := some d.cycle } }

/-- SYS_PWRCTL.RELEASE (R605): the pairing record with the release mark. -/
def releaseUnit (d : Dev) : Dev := (d.pairRecord 2).put F.SYS_PWRSTAT_PRES 1

/-! ### The ember watch (R595, R596) -/

/-- The crossings of R596 as SYS_EMBSTAT.CROSS: OV, UV, IMB, HOT, COLD from bit 0 up. -/
def emberCross (d : Dev) (cells aux : List Nat) : Nat :=
  let mx := cells.foldl max 0
  let mn := cells.foldl min mx
  let t := d.get F.SYS_EMBCFG_TMASK
  let auxAny (f : Nat → Bool) : Bool := (List.range 4).any (fun j => t.testBit j && f (nth aux j 0))
  (!cells.isEmpty && decide (d.get F.SYS_EMBTHV_OV < mx)).toNat + 2 * (!cells.isEmpty && decide (mn < d.get F.SYS_EMBTHV_UV)).toNat +
    4 * (decide (d.get F.SYS_EMBTHX_IMB < mx - mn)).toNat +
    8 * (auxAny (fun a => decide (a < d.get F.SYS_EMBTHX_HOT * 64))).toNat +
    16 * (auxAny (fun a => decide (d.get F.SYS_EMBTHX_COLD * 64 < a))).toNat

/-- EMBER_CHECK (R595, R596): `means` holds the mean of each cell by its index, `aux` those of AUX0 to AUX3 and the die temperature. -/
def emberCheck (d : Dev) (means aux : List Nat) : Dev :=
  if d.isHead || !d.banked || !d.bit F.SYS_EMBCFG_EN || d.power.ember.isSome || decide (d.cycle < d.power.emberAt) then d
  else
    let cells := ((List.range 32).filter (fun i => d.bitAt F.CONV_CHEN_CELL i)).map (fun i => nth means i 0)
    let mx := cells.foldl max 0
    let mn := cells.foldl min mx
    let cross := d.emberCross cells aux
    let d := { d with power := { d.power with ember := some d.cycle, emberAt := d.cycle + d.emberInterval, vtref := true } }
    let d := ((d.count F.SYS_EMBSTAT_CHECKS 1).put F.SYS_EMBRES_MAX mx).put F.SYS_EMBRES_MIN mn
    let d := if cross = 0 then d else d.flagBits F.SYS_EMBSTAT_CROSS cross
    let d := if cross = 0 || !d.bit F.SYS_EMBCFG_TONE then d
      else ((d.count F.SYS_EMBSTAT_TONES 1).emit (.tone .dn)).emit (.tone .up)
    let body := (cells.map (fun v => beBytes 2 v)).flatten ++ ((List.range 4).map (fun j => beBytes 2 (nth aux j 0))).flatten ++
      [BitVec.ofNat 8 cross] ++ d.rdBytes R.SYS_SLPT ++ beBytes 2 (nth aux 4 0)
    (d.logHw 0x04 0 body).closeSegment

/-- EMBER_CHECK_END (R595, R609): 3 ms after the expiry, once nothing is left to program, back to Banked, or awake if an event waits. -/
def emberEnd (d : Dev) : Dev :=
  match d.power.ember with
  | none => d
  | some e =>
    if decide (d.cycle < e + 300000) || d.mayProgram || d.log.programming.isSome then d
    else match d.power.wakePending with
      | some c => d.wakeNow c
      | none => { d with power := { d.power with ember := none } }

/-! ### Wake tones (R597, R598) -/

/-- A Banked member relays a tone to its other port (R597). -/
def relayTone (d : Dev) (p : Port) : Dev :=
  if d.isHead || !d.banked then d
  else d.emit (.tone (match p with
    | .dn => .up
    | .up => .dn))

/-- A head wakes by a tone (R598). -/
def headTone (d : Dev) (p : Port) : Dev :=
  if !d.isHead || !(d.banked || d.power.entering.isSome) then d
  else ((d.flag F.SYS_WAKE_TONE).putB F.SYS_WAKE_PORT (p == .up)).wake 4

end Dev

end Sys2Proof.Machine
end

