-- ==== Sys2Proof/Machine/Counters.lean ====
section
/-!
DEFINITION. The commands of the performance counters and the frame tagger (18_performance_counters.md).
-/

namespace Sys2Proof.Machine

/-- PRF_CLR (R675). -/
def execPrfClr (s : State) : Host.Outcome State Fault Refusal := s.on Dev.prfClear

/-- PMC_OVERFLOW (R663). -/
def execPmcOverflow (n : Fin 6) (s : State) : Host.Outcome State Fault Refusal := s.on (·.pmcOverflow n.val)

/-- PMC_READ (R664). -/
def execPmcRead (n : Fin 6) (s : State) : Host.Outcome State Fault Refusal :=
  s.on (fun d => (d.readPmc n.val).2.emit (.value (R.PRF_PMC n.val) (d.readPmc n.val).1))

/-- CYCLE_COUNTER_READ (R659). -/
def execCycleCounterRead (s : State) : Host.Outcome State Fault Refusal :=
  s.on (fun d => d.readCycl.2.emit (.value R.PRF_CYCL d.readCycl.1))

/-- TAG_RECORD_CLOSE (R671): at its last stamp, or dropped by a discard. -/
def execTagRecordClose (dropped : Bool) (s : State) : Host.Outcome State Fault Refusal :=
  s.on (fun d => if dropped then d.tagDrop else d.tagClose)

/-- TAG_RECORD_READ (R671). -/
def execTagRecordRead (r : Fin 8) (s : State) : Host.Outcome State Fault Refusal :=
  s.on (fun d => (d.readTag r.val).2.emit (.value (R.PRF_TAG0 r.val) (d.readTag r.val).1))

end Sys2Proof.Machine
end

