-- ==== Sys2Proof/Machine/Diagnostics.lean ====
section
/-!
DEFINITION. The commands of the diagnostic engine, of self-test and of the check engine (13_diagnostics_bist_check.md).
-/

namespace Sys2Proof.Machine

namespace Dev

/-- The cells that a REF, DAC or OW run tests (R522). -/
def diagCells (d : Dev) : Word := BitVec.ofNat 32 (d.get F.BST_DCELL_CELL &&& d.get F.CONV_CHEN_CELL)

/-- The groups of the channels that a run tests: cells, current, auxiliary. -/
def diagGroups (cells : Word) (cur aux : Bool) : List Nat :=
  (if cells = 0 then [] else [0]) ++ (if cur then [1] else []) ++ (if aux then [2] else [])

/-- The shelves that hold a tested cell. -/
def testedShelves (cells : Word) : List Nat := (List.range 4).filter (fun k => bitsOf cells.toNat (8 * k) 8 != 0)

/-- A run's start of `kind`, with its channels and N, is recorded (R522, R524). -/
def diagBegin (d : Dev) (kind : Nat) (cells : Word) (cur aux : Bool) : Dev :=
  let drw := d.get F.BST_DCFG_DRW
  let n := (diagGroups cells cur aux).foldl (fun m g => max m (sumLength (d.get (F.ACC_DCFG_K g drw)))) 1
  let d := ((d.put F.BST_DSTAT_STATE 1).put F.BST_DSTAT_KIND kind).put F.BST_DSTAT_CAUSE 0
  { d with diag := { d.diag with
      step := 0, start := d.cycle, stepAt := d.cycle, n := n, left := n, issued := false, cells := cells, cur := cur, aux := aux, drw := drw
      dacA := d.get F.BST_DDAC_DACA, dacB := d.get F.BST_DDAC_DACB, means := [], half := 0, btFail := false } }

/-- One half of a BT run is commanded (R530): `dir` 1 into the cell; its cause, 0 when accepted. -/
def btTransfer (d : Dev) (dir : Bool) : Nat × Dev :=
  let sh := d.get F.BST_BTCFG_SH
  d.balTransfer sh (8 * sh + d.get F.BST_BTCFG_CELL) dir (max 1 (d.get F.BST_BTCFG_Q)) (d.get F.BST_BTI_I) false false

/-- BST_CTL.DGO (R522, R523). A GO of kind BT from the chain takes effect only when authenticated. -/
def diagGo (d : Dev) (by_ : By) : Dev :=
  let kind := d.get F.BST_DCFG_KIND
  let cells := d.diagCells
  let cur := kind == 0 && d.bit F.CONV_DEVEN_CUR
  let aux := kind == 0 && d.bit F.CONV_DEVEN_AUX
  let drw := d.get F.BST_DCFG_DRW
  let refuse (c : Nat) : Dev := (d.put F.BST_DSTAT_STATE 4).put F.BST_DSTAT_CAUSE c
  if kind = 3 && by_ == .plain then d
  else if d.diagRuns then d.put F.BST_DSTAT_CAUSE 1
  else if d.inj.pend || d.inj.run then refuse 1
  else if !d.inMeasure then refuse 2
  else if d.isHead then refuse 3
  else if kind != 3 && (diagGroups cells cur aux).any (fun g => d.get (F.ACC_DCFG_MODE g drw) != 1 || d.get (F.ACC_DCFG_SWP g drw) == 1)
    then refuse 4
  else if d.bit F.CAL_STAT_RUN then refuse 5
  else if kind = 2 && (testedShelves cells).any (fun k => (d.shelf k).sel.isSome) then refuse 6
  else if kind = 3 then
    match d.btTransfer true with
    | (0, d) =>
      let d := d.diagBegin 3 0 false false
      { (d.put F.BST_BTSTAT_HALF 1) with diag := { d.diag with half := 1 } }
    | (c, d) => (((d.put F.BST_DSTAT_STATE 4).put F.BST_DSTAT_CAUSE 7).put F.BST_BTSTAT_BALC c)
  else d.diagBegin kind cells cur aux

/-- The length of a step of the run in cycles: 2N µs for REF, 40 µs of settling more for the others (R525). -/
def diagStepLen (d : Dev) : Nat := (if d.get F.BST_DSTAT_KIND = 0 then 0 else 4000) + 200 * d.diag.n

/-- The steps of a run of each kind (R525). -/
def diagSteps (kind : Nat) : Nat := if kind = 2 then 4 else 2

/-- No injection of the engine waits or runs, and the step has issued them all. -/
def diagStepDone (d : Dev) : Bool := d.diag.left == 0 && !d.inj.pend && !d.inj.run

/-- The next injection of the engine, with its own sources, once the step has settled and the last one has published (R524, R525). -/
def diagInject (d : Dev) : Dev :=
  let g := d.diag
  let kind := d.get F.BST_DSTAT_KIND
  if !d.diagRuns || kind = 3 || g.left = 0 || decide (d.cycle < g.stepAt + (if kind = 0 then 0 else 4000)) || d.inj.pend || d.inj.run then d
  else
    let slot := if g.step = 0 then 11 else 13
    match d.requestInjection g.cells g.cur g.aux slot g.drw with
    | (some _, _) => d
    | (none, d) =>
      { d with
        inj := { d.inj with fromDiag := true, diagCells := g.cells, diagCur := g.cur }
        diag := { g with left := g.left - 1, issued := true } }

/-- The tested channels of the run. -/
def diagChannels (d : Dev) : List Nat :=
  (List.range 32).filter (d.diag.cells.getLsbD ·) ++ (if d.diag.cur then [32] else []) ++ (if d.diag.aux then [33] else [])

/-- The means of the step that ends: Σ / N of the published result, from its unshifted sum in word B, to the nearest code (R172, R524). -/
def diagMeans (d : Dev) : List (Nat × Int) :=
  d.diagChannels.map (fun ch =>
    (ch, roundHalfAway (d.drawer ch d.diag.drw).vis.b.toInt (sumLength (d.get (F.ACC_DCFG_K (groupOf ch) d.diag.drw)))))

/-- The verdict on the half of a BT run whose transfer has ended, and whether it ended DONE (R531): its deviation in percent is
recorded. -/
def btHalf (d : Dev) : Bool × Dev :=
  let k := d.get F.BST_BTCFG_SH
  let w := d.shelf k
  let e := d.get (F.BAL_SHSTAT_END k)
  let q : Int := max 1 (d.get F.BST_BTCFG_Q)
  let net : Int := (w.qdone.natAbs : Int) - q * 1000000000
  let bound : Int := (w.current * w.lastTicks * 10 : Nat)
  let dev := w.qpred - w.qdone
  let ok := decide (0 ≤ net) && decide (net ≤ bound) && decide (100 * dev.natAbs ≤ d.get F.BST_BTCFG_TOL * w.qdone.natAbs)
  let pct := if w.qdone = 0 then 0
    else clampInt (-128) 127 (roundHalfAway (100 * (if w.qdone < 0 then -dev else dev)) w.qdone.natAbs)
  let d := (d.put F.BST_BTSTAT_END e).put F.BST_BTSTAT_DEVP (pct.emod 256).toNat
  (e == 1, { d with diag := { d.diag with btFail := d.diag.btFail || !ok } })

/-- A step of the run begins (R525), or the second half of a BT run at the end of the first (R530, R531). -/
def diagStep (d : Dev) : Dev :=
  if !d.diagRuns then d
  else if d.get F.BST_DSTAT_KIND = 3 then
    if d.diag.half != 1 || (d.shelf (d.get F.BST_BTCFG_SH)).act then d
    else
      let (done, d) := d.btHalf
      if !done then d.abortDiag 11
      else match d.btTransfer false with
        | (0, d) => { (d.put F.BST_BTSTAT_HALF 2) with diag := { d.diag with half := 2 } }
        | (c, d) => (d.put F.BST_BTSTAT_BALC c).abortDiag 11
  else
    let g := d.diag
    if diagSteps (d.get F.BST_DSTAT_KIND) ≤ g.step + 1 || !d.diagStepDone || decide (d.cycle < g.start + (g.step + 1) * d.diagStepLen) then d
    else { d with diag := { g with step := g.step + 1, stepAt := d.cycle, left := g.n, issued := false, means := g.means ++ [d.diagMeans] } }

/-- The expected code and the tolerance of a channel in a step of a REF or DAC run (R527). -/
def diagExpect (d : Dev) (kind step ch : Nat) : Int × Nat :=
  if kind = 1 then (((if step = 0 then d.diag.dacA else d.diag.dacB) * 16 : Nat), d.get F.BST_DTOL_TDAC)
  else if step = 1 then (0, d.get F.BST_DTOL_TZ)
  else if ch < 32 then (8000, d.get F.BST_DTOL_TREF)
  else if ch = 32 then (6400, d.get F.BST_DTOL_TREF)
  else (12412, d.get F.BST_DTOL_TAUX)

/-- The largest deviation of a run and its channel or pin, the first of equals (R560). -/
def worst (l : List (Nat × Int)) : Nat × Int :=
  l.foldl (fun (m : Nat × Int) x => if m.2.natAbs < x.2.natAbs then x else m) (l.headD (0, 0))

/-- BST_DLAST (R560). -/
def putDlast (d : Dev) (x : Nat × Int) : Dev :=
  (d.put F.BST_DLAST_CH x.1).put F.BST_DLAST_DEV ((clampInt (-32768) 32767 x.2).emod 65536).toNat

/-- The run ends with a verdict (R532): STATE, the events, and on a failure its one fault. -/
def diagVerdict (d : Dev) (fail : Bool) (cls lvl code : Nat) (info : Word) : Dev :=
  let d := d.diagSourcesOff
  let d := (d.put F.BST_DSTAT_STATE (if fail then 3 else 2)).flag F.BST_EVT_DDONE
  if fail then (d.flag F.BST_EVT_DFAIL).post cls lvl code info else d

/-- The end of a REF or DAC run (R527, R532). -/
def diagEndCodes (d : Dev) (kind : Nat) (means : List (List (Nat × Int))) : Dev :=
  let devs := ((means.zipIdx).map (fun p => p.1.map (fun x => (x.1, x.2 - (d.diagExpect kind p.2 x.1).1, (d.diagExpect kind p.2 x.1).2)))).flatten
  let failed := (List.range 34).filter (fun ch => devs.any (fun x => x.1 == ch && decide (x.2.2 < x.2.1.natAbs)))
  let cells := (failed.filter (· < 32)).foldl (fun m c => m + 2 ^ c) 0
  let d := ((d.put F.BST_DFAIL_CELL cells).putB F.BST_DFAILX_CUR (failed.contains 32)).putB F.BST_DFAILX_AUX (failed.contains 33)
  let d := d.putDlast (worst (devs.map (fun x => (x.1, x.2.1))))
  d.diagVerdict (!failed.isEmpty) 0 1 (kind + 1) (BitVec.ofNat 32 (failed.headD 0))

/-- Twice the deviations D less their expected values of the cells that a pin bounds, with 2 D itself (R528): the cell below it has it as
its upper pin. -/
def pinDeviations (means : List (List (Nat × Int))) (cells : Word) (p : Nat) : List (Int × Int) :=
  let ph := if p % 2 = 0 then 0 else 2
  let mean (s c : Nat) : Int := (((nth means s []).find? (fun x => x.1 == c)).map (·.2)).getD 0
  ([p, p - 1].eraseDups.filter (fun c => cells.getLsbD c && (c == p || decide (1 ≤ p)))).map (fun c =>
    let d2 := mean ph c - mean (ph + 1) c
    (d2, d2 - (if c = p then -640 else 640)))

/-- The end of an OW run: each pin that bounds a tested cell is OK, OPEN or RES (R528, R532). -/
def diagEndWires (d : Dev) (means : List (List (Nat × Int))) : Dev :=
  let pins := (List.range 33).filterMap (fun p =>
    match pinDeviations means d.diag.cells p with
    | [] => none
    | l => some (p, l))
  let isOpen (l : List (Int × Int)) : Bool := l.any (fun x => decide (2 * d.get F.BST_OWCFG_OPEN ≤ x.1.natAbs))
  let isOk (l : List (Int × Int)) : Bool := l.all (fun x => decide (x.2.natAbs ≤ 2 * d.get F.BST_OWCFG_TOL))
  let opened := (pins.filter (fun x => isOpen x.2)).map (·.1)
  let res := (pins.filter (fun x => !isOpen x.2 && !isOk x.2)).map (·.1)
  let mask (l : List Nat) : Nat := (l.filter (· < 32)).foldl (fun m p => m + 2 ^ p) 0
  let d := (d.put F.BST_OWOPEN_PIN (mask opened)).put F.BST_OWRES_PIN (mask res)
  let d := (d.putB F.BST_OWX_OPEN32 (opened.contains 32)).putB F.BST_OWX_RES32 (res.contains 32)
  let d := d.putDlast (worst ((pins.map (fun x => x.2.map (fun y => (x.1, roundHalfAway y.2 2)))).flatten))
  let bad := (List.range 33).filter (fun p => opened.contains p || res.contains p)
  d.diagVerdict (!bad.isEmpty) 0 2 3 (BitVec.ofNat 32 (bad.headD 0))

/-- A diagnostic run ends at its scheduled time, with its last step complete (R525, R532). -/
def diagRunEnd (d : Dev) : Dev :=
  if !d.diagRuns then d
  else
    let kind := d.get F.BST_DSTAT_KIND
    let g := d.diag
    if kind = 3 then
      if g.half != 2 || (d.shelf (d.get F.BST_BTCFG_SH)).act then d
      else
        let (done, d) := d.btHalf
        if !done then d.abortDiag 11
        else
          let k := d.get F.BST_BTCFG_SH
          d.diagVerdict d.diag.btFail 6 1 9 (BitVec.ofNat 32 (k * 32 + 8 * k + d.get F.BST_BTCFG_CELL))
    else if g.step + 1 < diagSteps kind || !d.diagStepDone || decide (d.cycle < g.start + (g.step + 1) * d.diagStepLen) then d
    else
      let means := g.means ++ [d.diagMeans]
      if kind = 2 then d.diagEndWires means else d.diagEndCodes kind means

/-- Fireguard's logic BIST ends (R545): a failure latches STF, which raises GUARD 0x09. -/
def guardLogicBist (d : Dev) (pass : Bool) : Dev :=
  let d := (d.putB F.BST_LSTAT_GRUN true).putB F.BST_LSTAT_GFAIL (!pass)
  if pass then d else (d.flagBits F.GRD_GLATCH_GUARD (2 ^ 8)).post 2 2 9 0

end Dev

/-- DIAG_GO (R522). -/
def execDiagGo (by_ : By) (s : State) : Host.Outcome State Fault Refusal := s.on (·.diagGo by_)

/-- DIAG_STOP (R533). -/
def execDiagStop (s : State) : Host.Outcome State Fault Refusal := s.on (·.abortDiag 10)

/-- DIAG_STEP (R525). -/
def execDiagStep (s : State) : Host.Outcome State Fault Refusal := s.on Dev.diagStep

/-- DIAG_INJECTION (R524). -/
def execDiagInjection (s : State) : Host.Outcome State Fault Refusal := s.on Dev.diagInject

/-- DIAG_RUN_END (R532). -/
def execDiagRunEnd (s : State) : Host.Outcome State Fault Refusal := s.on Dev.diagRunEnd

/-- CONVERTER_BIST_STEP (R538). -/
def execConverterBistStep (s : State) : Host.Outcome State Fault Refusal := s.on Dev.convBistStart

/-- CONVERTER_BIST_END (R537). -/
def execConverterBistEnd (pass : Bool) (s : State) : Host.Outcome State Fault Refusal := s.on (·.convBistEnd pass)

/-- MEMORY_BIST_GO (R544). -/
def execMemoryBistGo (s : State) : Host.Outcome State Fault Refusal :=
  s.on (fun d => { d with bist := { d.bist with single := true, memNext := d.mFirst } })

/-- MEMORY_BIST_STOP (R544). -/
def execMemoryBistStop (s : State) : Host.Outcome State Fault Refusal := s.on Dev.memStop

/-- MEMORY_BIST_STEP (R544). -/
def execMemoryBistStep (s : State) : Host.Outcome State Fault Refusal := s.on (fun d => if d.memStepDue then d.memStepStart else d)

/-- MEMORY_BIST_PHASE_END (R540): the failing reads of a test phase with the first failing word and bit; `unc` an uncorrectable codeword
that the copy read. -/
def execMemoryBistPhaseEnd (fails : BitVec 16) (word : BitVec 9) (bit : Fin 80) (unc : Bool) (s : State) :
    Host.Outcome State Fault Refusal :=
  s.on (·.memPhaseEnd fails.toNat word.toNat bit.val unc)

/-- MEMORY_BIST_RESUME (R536). -/
def execMemoryBistResume (s : State) : Host.Outcome State Fault Refusal := s.on Dev.memResume

/-- HEARTH_LOGIC_BIST (R546): the automatic test, from 0.10 ms after reset release. -/
def execHearthLogicBist (s : State) : Host.Outcome State Fault Refusal :=
  s.on (fun d =>
    if d.bit F.BST_STAT_LBUSY || d.bit F.BST_LSTAT_HRUN || decide (d.cycle < d.power.releasedAt + 10000) || d.pstate != 1 then d
    else d.logicBistStart)

/-- LBH (R546): the authenticated command. -/
def execLbh (s : State) : Host.Outcome State Fault Refusal := s.on Dev.logicBistCmd

/-- HEARTH_LOGIC_BIST_END (R546). -/
def execHearthLogicBistEnd (pass : Bool) (s : State) : Host.Outcome State Fault Refusal := s.on (·.logicBistEnd pass)

/-- CHK_GO (R553): a write of CHK_CMD with GO. -/
def execChkGo (_by : By) (w : Word) (s : State) : Host.Outcome State Fault Refusal :=
  s.on (fun d => (d.chkStart (bitsOf w.toNat 3 2) (w.getLsbD 2) false).2)

/-- CHK_STOP (R555): a scan that has read its last byte completes instead (R557). -/
def execChkStop (s : State) : Host.Outcome State Fault Refusal :=
  s.on (fun d => if d.get F.CHK_REM_REM = 0 then d.chkComplete else d.chkEnd 2)

/-- SCAN_END (R554, R556). -/
def execScanEnd (unc : Bool) (s : State) : Host.Outcome State Fault Refusal :=
  s.on (fun d => if unc then d.chkEcc else d.chkComplete)

/-- FIREGUARD_LOGIC_BIST_END (R545). -/
def execFireguardLogicBistEnd (pass : Bool) (s : State) : Host.Outcome State Fault Refusal := s.on (·.guardLogicBist pass)

end Sys2Proof.Machine
end

