-- ==== Sys2Proof/Machine/Drawers.lean ====
section
/-!
DEFINITION. The drawer and tracker commands (04_drawers_trackers.md).
-/

namespace Sys2Proof.Machine

namespace Dev

/-- The time of the boundary that falls in this cycle, in 1/32 ticks of system cycles: for the phase counter with the fine part of
the phase model (R161), for a generator at the tick. -/
def boundaryTime (d : Dev) (src : Nat) : Nat :=
  if src = 0 then
    match d.tim.model with
    | none => d.cycle * 32
    | some m =>
      let v : Word := m.phaseAt ((d.now + 1) * 32)
      let t := m.reached (BitVec.ofNat 32 (v.toNat / 65536 * 65536))
      ((d.cycle * 32 : Nat) + wrapDiff 53 t (d.now * 32)).toNat
  else d.cycle * 32

/-- A write to a drawer's configuration drops its open accumulations and sets the register (R175). -/
def writeDrawerConfig (d : Dev) (a : Nat) (w : Word) : Dev :=
  let inTable (base : Nat) : Bool := decide (base ≤ a) && decide (a < base + 0x30)
  let chans (g : Nat) : List Nat := if g = 0 then List.range 32 else [31 + g]
  let drop (d : Dev) (g n : Nat) : Dev := (chans g).foldl (fun d ch => d.dropDrawer ch n) d
  let d :=
    if inTable (R.ACC_DCFG 0 0) then drop d ((a - R.ACC_DCFG 0 0) / 16) ((a - R.ACC_DCFG 0 0) / 4 % 4)
    else if inTable (R.ACC_DPAR 0 0) then drop d ((a - R.ACC_DPAR 0 0) / 16) ((a - R.ACC_DPAR 0 0) / 4 % 4)
    else if decide (R.ACC_DCHEN 0 ≤ a) && decide (a < R.ACC_DCHEN 0 + 16) then drop d 0 ((a - R.ACC_DCHEN 0) / 4)
    else d
  d.writeFields a w false

/-- ACC_CMD.RST: drawer n restarts on every channel, for each bit n of the mask (R175, R193). -/
def restartDrawers (d : Dev) (mask : Nat) : Dev :=
  (List.range 136).foldl (fun d i => if mask.testBit (i % 4) then d.dropDrawer (i / 4) (i % 4) else d) d

/-- ACC_CMD.TCLR: every tracker is cleared (R179). -/
def clearTrackers (d : Dev) : Dev := { d with trk := d.trk.map (fun t => { Tracker.reset with bshadow := t.bshadow }) }

/-- ACC_CMD.XRST: the open windows of every excitation accumulator are dropped (R193). -/
def dropExcs (d : Dev) : Dev := { d with excs := d.excs.map (fun w => { w with work := Accum.empty }) }

/-- A read of a result's status word: the status, with the five other words latched, and NEW and LOST cleared; a result
published in this cycle is not seen and keeps NEW = 1, LOST = 0 (R170, R171, R186). -/
def readStatus (w : Drawer) : Word × Drawer :=
  match w.before with
  | some old =>
    (old.status, { w with snap := old, vis := { w.vis with lost := false }, before := some { old with isNew := false, lost := false } })
  | none => (w.vis.status, { w with snap := w.vis, vis := { w.vis with isNew := false, lost := false } })

/-- A read of ACC_RSTAT (r < 136) or of ACC_XSTAT (r = 136 + k). -/
def readResult (d : Dev) (r : Nat) : Word × Dev :=
  if r < 136 then
    let (v, w) := readStatus (nth d.drawers r Drawer.reset)
    (v, { d with drawers := upd d.drawers r (fun _ => w) })
  else
    let (v, w) := readStatus (d.exc (r - 136))
    (v, d.setExc (r - 136) w)

/-- The address of status register `r`. -/
def statusAddr (r : Nat) : Nat := if r < 136 then R.ACC_RSTAT (r / 4) (r % 4) else R.ACC_XSTAT (r - 136)

/-- A read of ACC_TRKA returns both extremes and clears the tracker (R179). -/
def readTrackerA (d : Dev) (ch : Nat) : Word × Dev :=
  let t := nth d.trk ch Tracker.reset
  let w : Word := (BitVec.ofInt 16 t.amax).append (BitVec.ofInt 16 t.amin)
  (w, { d with trk := upd d.trk ch (fun t => { t with amin := 0, amax := 0, acnt := 0 }) })

/-- A read of ACC_TRKBL returns the minimum, latches the maximum and clears the tracker (R179). -/
def readTrackerB (d : Dev) (ch : Nat) : Word × Dev :=
  let t := nth d.trk ch Tracker.reset
  (BitVec.ofInt 32 t.bmin, { d with trk := upd d.trk ch (fun t => { t with bmin := 0, bmax := 0, bcnt := 0, bshadow := t.bmax }) })

end Dev

/-- WINDOW_BOUNDARY (R161): a period boundary of a phase source falls in this cycle. -/
def execWindowBoundary (src : Fin 5) (s : State) : Host.Outcome State Fault Refusal :=
  s.on (fun d => d.phaseBoundary src.val (d.boundaryTime src.val))

/-- DRAWER_CONFIG_WRITE (R175). -/
def execDrawerConfigWrite (addr : BitVec 16) (w : Word) (s : State) : Host.Outcome State Fault Refusal :=
  s.on (fun d => if d.isHead then d else d.writeDrawerConfig addr.toNat w)

/-- ACC_CMD_RST (R175). -/
def execAccCmdRst (mask : BitVec 4) (s : State) : Host.Outcome State Fault Refusal :=
  s.on (fun d => if d.isHead then d else d.restartDrawers mask.toNat)

/-- ACC_CMD_TCLR (R179). -/
def execAccCmdTclr (s : State) : Host.Outcome State Fault Refusal := s.on (fun d => if d.isHead then d else d.clearTrackers)

/-- ACC_CMD_XRST (R193). -/
def execAccCmdXrst (s : State) : Host.Outcome State Fault Refusal := s.on (fun d => if d.isHead then d else d.dropExcs)

/-- RESULT_STATUS_READ (R170). -/
def execResultStatusRead (r : Fin 140) (s : State) : Host.Outcome State Fault Refusal :=
  s.on (fun d =>
    if d.isHead then d.emit (.value (Dev.statusAddr r.val) 0)
    else (d.readResult r.val).2.emit (.value (Dev.statusAddr r.val) (d.readResult r.val).1))

/-- TRACKER_A_READ (R179). -/
def execTrackerARead (ch : Fin 34) (s : State) : Host.Outcome State Fault Refusal :=
  s.on (fun d =>
    if d.isHead then d.emit (.value (R.ACC_TRKA ch.val) 0)
    else (d.readTrackerA ch.val).2.emit (.value (R.ACC_TRKA ch.val) (d.readTrackerA ch.val).1))

/-- TRACKER_B_READ (R179). -/
def execTrackerBRead (ch : Fin 34) (s : State) : Host.Outcome State Fault Refusal :=
  s.on (fun d =>
    if d.isHead then d.emit (.value (R.ACC_TRKBL ch.val) 0)
    else (d.readTrackerB ch.val).2.emit (.value (R.ACC_TRKBL ch.val) (d.readTrackerB ch.val).1))

end Sys2Proof.Machine
end

