-- ==== Sys2Proof/Machine/FaultCommands.lean ====
section
/-!
DEFINITION. The commands of the fault collector (12_fault_handling.md R512 to R521): acknowledgement, unlock, the window of L0 records, and
the read of a stamp.
-/

namespace Sys2Proof.Machine

namespace Dev

/-- A window of 100,000,000 cycles ends: every class may write L0 records again (R512). -/
def l0Window (d : Dev) : Dev :=
  if d.cycle < d.log.l0At + 100000000 then d
  else { d with log := { d.log with l0 := List.replicate 9 0, l0At := d.log.l0At + 100000000 } }

/-- A write of FLT_ACK (R513, R514): L2 is acknowledged by an authenticated write only. -/
def fltAckCmd (d : Dev) (by_ : By) (w : Word) : Dev :=
  let d := if w.getLsbD 0 then d.ackLevel 0 else d
  let d := if w.getLsbD 1 then d.ackLevel 1 else d
  if !w.getLsbD 2 then d
  else if by_ = By.auth then d.ackLevel 2
  else d.flag F.FLT_STAT_ACKREF

/-- A new unlock challenge is drawn (R518). -/
def drawChal (d : Dev) : Dev :=
  let (v, d) := d.draw
  { d with keys := { d.keys with chal := v } }

/-- The low word of the stamp of level `l` (R503). -/
def stampLow (d : Dev) (l : Nat) : Word := (nth d.flt.first l ⟨false, false, false, false, 0, 0, 0, 0, 0⟩).stamp.truncate 32

/-- The unlock value (R518): under KS over SYS_ID, FLT_UNLCH and FLT_FSTL[3]. -/
def unlockValue (d : Dev) (ks : BitVec 128) : Word :=
  Aes.cmac32 ks (wordBytes (d.rd R.SYS_ID) ++ wordBytes d.keys.chal ++ wordBytes (d.stampLow 3))

/-- A fault took L3 in this cycle (R519). -/
def l3Now (d : Dev) : Bool := (d.fltBase.latch d.fltNow (d.tb + 1) d.scopeOf).2.any (fun x => x.eff == 3)

/-- Lockout is left (R518): every level is acknowledged, and the device returns to Measure with Hearth halted. -/
def unlocked (d : Dev) : Dev :=
  let d := (List.range 4).foldl (fun d l => d.ackLevel l) d
  ((d.putB F.FLT_STAT_LKO false).setState 2).drawChal

/-- A write of FLT_UNLOCK (R518, R519): ignored outside Lockout; a wrong value, or any without a session key, is refused and counted. -/
def fltUnlockCmd (d : Dev) (w : Word) : Dev :=
  if !d.bit F.FLT_STAT_LKO then d
  else
    let right := (d.keys.ks.map (fun ks => d.unlockValue ks == w)).getD false
    let refused := d.post 7 0 4 0
    if !right then refused.cmacFail.drawChal
    else if d.l3Now then refused.drawChal
    else d.unlocked

/-- A read of FLT_FSTL[l] latches FLT_FSTH[l] (R521). -/
def readFstl (d : Dev) (l : Nat) : Word × Dev :=
  let s := (nth d.flt.first l ⟨false, false, false, false, 0, 0, 0, 0, 0⟩).stamp
  (s.truncate 32, d.wr (R.FLT_FSTH l) (BitVec.ofNat 32 (s.toNat / 2 ^ 32)))

end Dev

/-- L0_RATE_WINDOW (R512). -/
def execL0RateWindow (s : State) : Host.Outcome State Fault Refusal := s.on Dev.l0Window

/-- FLT_ACK (R513). -/
def execFltAck (by_ : By) (w : Word) (s : State) : Host.Outcome State Fault Refusal := s.on (·.fltAckCmd by_ w)

/-- FLT_UNLOCK (R518). -/
def execFltUnlock (w : Word) (s : State) : Host.Outcome State Fault Refusal := s.on (·.fltUnlockCmd w)

/-- FAULT_STAMP_READ (R521). -/
def execFaultStampRead (l : Fin 4) (s : State) : Host.Outcome State Fault Refusal :=
  s.on (fun d => (d.readFstl l.val).2.emit (.value (R.FLT_FSTL l.val) (d.readFstl l.val).1))

end Sys2Proof.Machine
end

