-- ==== Sys2Proof/Machine/Fireguard.lean ====
section
/-!
DEFINITION. Fireguard (11_safety_architecture.md R440 to R453): its strobe, its self-tests, and the configuration lock.
-/

namespace Sys2Proof.Machine

/-- The CRC of a configuration (R452): each word least significant byte first. -/
def Guard.crc (l : List Word) : Word := Crc.crc32c (l.map wordBytesLe).flatten

/-- The guard bit of comparator `i` (R440, R443, R466). -/
def Guard.bitOf (i : Nat) : Nat :=
  if i < 32 then 0 else if i < 64 then 1 else if i < 68 then 2 else if i < 72 then 3 else if i = 72 then 4 else if i = 73 then 5 else 6

/-- The information of a latch: the cell or AUX index (R499). -/
def Guard.infoOf (i : Nat) : Nat := if i < 64 then i % 32 else if i < 72 then i % 4 else 0

namespace Dev

/-- A word of the active configuration, by its place from GRD offset 0x000. -/
def guardWord (d : Dev) (i : Nat) : Nat := (nth d.guard.active i 0).toNat

/-- The deglitch count n (R441). -/
def deglitch (d : Dev) : Nat := bitsOf (d.guardWord 9) 0 6 + 1

/-- Comparator `i` is enabled (R443, R493); a head's are powered down (R449). -/
def comparatorOn (d : Dev) (i : Nat) : Bool :=
  if d.isHead then false
  else if i < 32 then (d.guardWord 0).testBit i
  else if i < 64 then (d.guardWord 1).testBit (i - 32)
  else if i < 68 then (d.guardWord 3).testBit (i - 64)
  else if i < 72 then (d.guardWord 3).testBit (i - 68 + 4)
  else if i = 72 then (d.guardWord 9).testBit 8
  else if i = 73 then (d.guardWord 9).testBit 9
  else (d.guardWord 9).testBit 10

/-- GRD_GLIVE: the guard bits with a comparator counting (R494). -/
def glive (d : Dev) : Nat :=
  (List.range 7).foldl (fun m b =>
    if (List.range 76).any (fun i => Guard.bitOf i == b && nth d.guard.counts i 0 != 0) then m + 2 ^ b else m) 0

/-- GRD_GLIVE follows the counts. -/
def showLive (d : Dev) : Dev := d.put F.GRD_GLIVE_GUARD d.glive

/-- A guard bit latches (R445): a bit that goes from 0 to 1 raises its fault. -/
def latchBit (d : Dev) (b info : Nat) : Dev :=
  let new := !d.glatch.testBit b
  let d := d.flagBits F.GRD_GLATCH_GUARD (2 ^ b)
  if new then d.post 2 2 (b + 1) (BitVec.ofNat 32 info) else d

/-- The bit of the cell or of the temperature comparator is set beside its guard bit (R445). -/
def latchIndex (d : Dev) (i : Nat) : Dev :=
  if i < 32 then d.putAt F.GRD_COVL_CELL i true
  else if i < 64 then d.putAt F.GRD_CUVL_CELL (i - 32) true
  else if i < 68 then d.putAt F.GRD_TLAT_HOT (i - 64) true
  else if i < 72 then d.putAt F.GRD_TLAT_COLD (i - 68) true
  else d

/-- A new latch in Banked, or during entry, is a wake event (R448, R599). -/
def guardWake (d : Dev) (new : Bool) : Dev :=
  if new && (d.banked || d.power.entering.isSome) then d.wake 3 else d

/-- A strobe (R441, R445): each comparator's count advances or restarts, and a condition that reaches n latches. -/
def strobe (d : Dev) (tripped : Nat) : Dev :=
  if d.isHead || !d.bit F.GRD_STAT_ARMED then d
  else
    let n := d.deglitch
    let old := d.guard.counts
    let counts := (List.range 76).map (fun i => if d.comparatorOn i && tripped.testBit i then min n (nth old i 0 + 1) else 0)
    let reached := (List.range 76).filter (fun i => nth counts i 0 == n)
    let new := reached.any (fun i => nth old i 0 != n)
    let d := ({ d with guard := { d.guard with counts := counts } }).guardWake new
    (reached.foldl (fun d i => (d.latchBit (Guard.bitOf i) (Guard.infoOf i)).latchIndex i) d).showLive

/-- A self-test of the next enabled comparator (R443): two failures in a row of its own latch STF; the last enabled one ends a rotation. -/
def selfTest (d : Dev) (pass : Bool) : Dev :=
  let on := (List.range 76).filter (d.comparatorOn ·)
  if !d.bit F.GRD_STAT_ARMED then d
  else
    match on.find? (fun i => decide (d.guard.testNext ≤ i)) with
    | none => d
    | some i =>
      let last := on.getLast? == some i
      let fails := if pass then 0 else nth d.guard.testFails i 0 + 1
      let g := { d.guard with testNext := if last then 0 else i + 1, testFails := upd d.guard.testFails i (fun _ => fails) }
      let d := { d with guard := g }
      let d := if last then d.put F.GRD_STEST_ROT (d.get F.GRD_STEST_ROT + 1) else d
      if pass then d
      else
        let d := (d.put F.GRD_STEST_FAILS (min 255 (d.get F.GRD_STEST_FAILS + 1))).put F.GRD_STEST_FIDX i
        if fails < 2 then d else (d.guardWake (!d.glatch.testBit 8)).latchBit 8 0

/-- The fixed CRC of the reset set, or the locked one (R452). -/
def expectedCrc (d : Dev) : Word :=
  if d.bit F.GRD_STAT_LOCKED then d.rd R.GRD_CFGCRC else Guard.crc (Guard.resetConfig d.isHead)

/-- The configuration check (R452). -/
def configCheck (d : Dev) : Dev :=
  if !d.bit F.GRD_STAT_ARMED then d
  else
    let c := Guard.crc d.guard.active
    let ok := c == d.expectedCrc
    let d := (d.wr R.GRD_ACTCRC c).putB F.GRD_STAT_CRCOK ok
    if ok then d else (d.guardWake (!d.glatch.testBit 7)).latchBit 7 0

/-- Software clears guard bits (R446): not CFG, STF and CLK, not a bit with a comparator counting, not one that hardware sets in this
cycle (R13). -/
def clearGuard (d : Dev) (w : Word) : Dev :=
  let hw := ((d.touch.find? (fun t => t.addr == R.GRD_GLATCH)).map (·.mask)).getD 0
  let m := (w &&& 0x7F &&& ~~~hw).toNat
  let clears := (List.range 7).filter (fun b => m.testBit b && d.glatch.testBit b && !d.glive.testBit b)
  clears.foldl (fun d b =>
    let d := d.putAt F.GRD_GLATCH_GUARD b false
    if b = 0 then d.wr R.GRD_COVL 0
    else if b = 1 then d.wr R.GRD_CUVL 0
    else if b = 2 then d.put F.GRD_TLAT_HOT 0
    else if b = 3 then d.put F.GRD_TLAT_COLD 0
    else d) d

/-- The shadow configuration (R451, R452): GRD_SAFECFG is 0 on a member. -/
def shadowConfig (d : Dev) : List Word :=
  (List.range 10).map (fun i => d.rd (R.GRD_OVEN + 4 * i)) ++ [if d.isHead then d.rd R.GRD_SAFECFG else 0]

/-- GRD_CTL.LOCK (R451). -/
def lockGuard (d : Dev) : Dev :=
  if d.bit F.GRD_STAT_LOCKED then d
  else if Guard.crc d.shadowConfig != d.rd R.GRD_CFGCRC then d.put F.GRD_STAT_LRES 2
  else
    let d := { d with guard := { d.guard with active := d.shadowConfig, counts := List.replicate 76 0 } }
    ((d.putB F.GRD_STAT_LOCKED true).put F.GRD_STAT_LRES 1).showLive

end Dev

/-- FIREGUARD_STROBE (R441): the comparators that stand tripped, by the index of R443. -/
def execFireguardStrobe (tripped : BitVec 76) (s : State) : Host.Outcome State Fault Refusal := s.onAny (·.strobe tripped.toNat)

/-- COMPARATOR_SELF_TEST (R443). -/
def execComparatorSelfTest (pass : Bool) (s : State) : Host.Outcome State Fault Refusal := s.onAny (·.selfTest pass)

/-- CLOCK_HEARTBEAT_FAIL (R444): the main oscillator is off in Banked, and not judged (R39). -/
def execClockHeartbeatFail (s : State) : Host.Outcome State Fault Refusal := s.on (·.latchBit 9 0)

/-- CONFIG_CRC_CHECK (R452). -/
def execConfigCrcCheck (s : State) : Host.Outcome State Fault Refusal := s.onAny Dev.configCheck

/-- GUARD_LATCH_CLEAR (R446): an authenticated write. -/
def execGuardLatchClear (w : Word) (s : State) : Host.Outcome State Fault Refusal := s.on (·.clearGuard w)

/-- GRD_LOCK (R451): an authenticated write. -/
def execGrdLock (s : State) : Host.Outcome State Fault Refusal := s.on Dev.lockGuard

end Sys2Proof.Machine
end

