-- ==== Sys2Proof/Machine/ImviaAlu.lean ====
section
/-!
DEFINITION. The arithmetic and logic instructions of Imvia (R258, R259, R260).
-/

namespace Sys2Proof.Machine

/-- A register operation: rd takes the result of ra and rb, with its flags, in `cycles`. -/
def Dev.alu3 (d : Dev) (cycles : Nat) (rd ra rb : BitVec 4) (f : Dev → Word → Word → Alu) : Dev :=
  d.issueNext cycles (fun d => .ok (d.aluWrite rd (f d (d.w ra) (d.w rb))))

/-- A comparison: the flags of a result that is not written. -/
def Dev.aluTest (d : Dev) (x : Dev → Alu) : Dev := d.issueNext 1 (fun d => .ok (d.aluFlags (x d)))

/-- ADD (R258). -/
def execAdd (rd ra rb : BitVec 4) (s : State) : Host.Outcome State Fault Refusal :=
  s.on (fun d => d.alu3 1 rd ra rb (fun _ a b => Alu.add a b 0))

/-- SUB (R258). -/
def execSub (rd ra rb : BitVec 4) (s : State) : Host.Outcome State Fault Refusal :=
  s.on (fun d => d.alu3 1 rd ra rb (fun _ a b => Alu.sub a b 0))

/-- ADC (R258). -/
def execAdc (rd ra rb : BitVec 4) (s : State) : Host.Outcome State Fault Refusal :=
  s.on (fun d => d.alu3 1 rd ra rb (fun d a b => Alu.add a b d.hearth.c.toNat))

/-- SBC (R258). -/
def execSbc (rd ra rb : BitVec 4) (s : State) : Host.Outcome State Fault Refusal :=
  s.on (fun d => d.alu3 1 rd ra rb (fun d a b => Alu.sub a b (1 - d.hearth.c.toNat)))

/-- ADDSS (R258). -/
def execAddss (rd ra rb : BitVec 4) (s : State) : Host.Outcome State Fault Refusal :=
  s.on (fun d => d.alu3 1 rd ra rb (fun _ a b => Alu.saturateSigned (a.toInt + b.toInt)))

/-- SUBSS (R258). -/
def execSubss (rd ra rb : BitVec 4) (s : State) : Host.Outcome State Fault Refusal :=
  s.on (fun d => d.alu3 1 rd ra rb (fun _ a b => Alu.saturateSigned (a.toInt - b.toInt)))

/-- ADDUS (R258). -/
def execAddus (rd ra rb : BitVec 4) (s : State) : Host.Outcome State Fault Refusal :=
  s.on (fun d => d.alu3 1 rd ra rb (fun _ a b => Alu.saturateUnsigned ((a.toNat : Int) + b.toNat)))

/-- SUBUS (R258). -/
def execSubus (rd ra rb : BitVec 4) (s : State) : Host.Outcome State Fault Refusal :=
  s.on (fun d => d.alu3 1 rd ra rb (fun _ a b => Alu.saturateUnsigned ((a.toNat : Int) - b.toNat)))

/-- AND (R258). -/
def execAnd (rd ra rb : BitVec 4) (s : State) : Host.Outcome State Fault Refusal :=
  s.on (fun d => d.alu3 1 rd ra rb (fun _ a b => Alu.plain (a &&& b)))

/-- OR (R258). -/
def execOr (rd ra rb : BitVec 4) (s : State) : Host.Outcome State Fault Refusal :=
  s.on (fun d => d.alu3 1 rd ra rb (fun _ a b => Alu.plain (a ||| b)))

/-- XOR (R258). -/
def execXor (rd ra rb : BitVec 4) (s : State) : Host.Outcome State Fault Refusal :=
  s.on (fun d => d.alu3 1 rd ra rb (fun _ a b => Alu.plain (a ^^^ b)))

/-- BIC (R258). -/
def execBic (rd ra rb : BitVec 4) (s : State) : Host.Outcome State Fault Refusal :=
  s.on (fun d => d.alu3 1 rd ra rb (fun _ a b => Alu.plain (a &&& ~~~b)))

/-- SHL (R258). -/
def execShl (rd ra rb : BitVec 4) (s : State) : Host.Outcome State Fault Refusal :=
  s.on (fun d => d.alu3 1 rd ra rb (fun _ a b => Alu.shl a (b.toNat % 32)))

/-- SHR (R258). -/
def execShr (rd ra rb : BitVec 4) (s : State) : Host.Outcome State Fault Refusal :=
  s.on (fun d => d.alu3 1 rd ra rb (fun _ a b => Alu.shr a (b.toNat % 32)))

/-- SAR (R258). -/
def execSar (rd ra rb : BitVec 4) (s : State) : Host.Outcome State Fault Refusal :=
  s.on (fun d => d.alu3 1 rd ra rb (fun _ a b => Alu.sar a (b.toNat % 32)))

/-- ROR (R258). -/
def execRor (rd ra rb : BitVec 4) (s : State) : Host.Outcome State Fault Refusal :=
  s.on (fun d => d.alu3 1 rd ra rb (fun _ a b => Alu.ror a (b.toNat % 32)))

/-- MUL (R258). -/
def execMul (rd ra rb : BitVec 4) (s : State) : Host.Outcome State Fault Refusal :=
  s.on (fun d => d.alu3 2 rd ra rb (fun _ a b => Alu.plain (a * b)))

/-- MULH (R258). -/
def execMulh (rd ra rb : BitVec 4) (s : State) : Host.Outcome State Fault Refusal :=
  s.on (fun d => d.alu3 2 rd ra rb (fun _ a b => Alu.plain (BitVec.ofInt 32 ((a.toInt * b.toInt) / 2 ^ 32))))

/-- MULHU (R258). -/
def execMulhu (rd ra rb : BitVec 4) (s : State) : Host.Outcome State Fault Refusal :=
  s.on (fun d => d.alu3 2 rd ra rb (fun _ a b => Alu.plain (BitVec.ofNat 32 (a.toNat * b.toNat / 2 ^ 32))))

/-- MIN (R258). -/
def execMin (rd ra rb : BitVec 4) (s : State) : Host.Outcome State Fault Refusal :=
  s.on (fun d => d.alu3 1 rd ra rb (fun _ a b => Alu.plain (if a.toInt ≤ b.toInt then a else b)))

/-- MAX (R258). -/
def execMax (rd ra rb : BitVec 4) (s : State) : Host.Outcome State Fault Refusal :=
  s.on (fun d => d.alu3 1 rd ra rb (fun _ a b => Alu.plain (if a.toInt ≤ b.toInt then b else a)))

/-- MINU (R258). -/
def execMinu (rd ra rb : BitVec 4) (s : State) : Host.Outcome State Fault Refusal :=
  s.on (fun d => d.alu3 1 rd ra rb (fun _ a b => Alu.plain (if a.toNat ≤ b.toNat then a else b)))

/-- MAXU (R258). -/
def execMaxu (rd ra rb : BitVec 4) (s : State) : Host.Outcome State Fault Refusal :=
  s.on (fun d => d.alu3 1 rd ra rb (fun _ a b => Alu.plain (if a.toNat ≤ b.toNat then b else a)))

/-- CMP (R258): the flags of ra − rb. -/
def execCmp (ra rb : BitVec 4) (s : State) : Host.Outcome State Fault Refusal :=
  s.on (fun d => d.aluTest (fun d => Alu.sub (d.w ra) (d.w rb) 0))

/-- TST (R258): the flags of ra AND rb. -/
def execTst (ra rb : BitVec 4) (s : State) : Host.Outcome State Fault Refusal :=
  s.on (fun d => d.aluTest (fun d => Alu.plain (d.w ra &&& d.w rb)))

/-- MOV (R258): no flag is written. -/
def execMov (rd ra : BitVec 4) (s : State) : Host.Outcome State Fault Refusal :=
  s.on (fun d => d.issueNext 1 (fun d => .ok (d.setW rd (d.w ra))))

/-- CLZ (R258). -/
def execClz (rd ra : BitVec 4) (s : State) : Host.Outcome State Fault Refusal :=
  s.on (fun d => d.issueNext 1 (fun d => .ok (d.aluWrite rd (Alu.plain (BitVec.ofNat 32 (Alu.leadingZeros (d.w ra)))))))

/-- ABSS (R258). -/
def execAbss (rd ra : BitVec 4) (s : State) : Host.Outcome State Fault Refusal :=
  s.on (fun d => d.issueNext 1 (fun d => .ok (d.aluWrite rd (Alu.saturateSigned ((d.w ra).toInt.natAbs : Int)))))

/-- ADDI (R259). -/
def execAddi (rd ra : BitVec 4) (imm : BitVec 18) (s : State) : Host.Outcome State Fault Refusal :=
  s.on (fun d => d.issueNext 1 (fun d => .ok (d.aluWrite rd (Alu.add (d.w ra) (imm18s imm) 0))))

/-- ANDI (R259). -/
def execAndi (rd ra : BitVec 4) (imm : BitVec 18) (s : State) : Host.Outcome State Fault Refusal :=
  s.on (fun d => d.issueNext 1 (fun d => .ok (d.aluWrite rd (Alu.plain (d.w ra &&& imm18z imm)))))

/-- ORI (R259). -/
def execOri (rd ra : BitVec 4) (imm : BitVec 18) (s : State) : Host.Outcome State Fault Refusal :=
  s.on (fun d => d.issueNext 1 (fun d => .ok (d.aluWrite rd (Alu.plain (d.w ra ||| imm18z imm)))))

/-- XORI (R259). -/
def execXori (rd ra : BitVec 4) (imm : BitVec 18) (s : State) : Host.Outcome State Fault Refusal :=
  s.on (fun d => d.issueNext 1 (fun d => .ok (d.aluWrite rd (Alu.plain (d.w ra ^^^ imm18z imm)))))

/-- SHI (R259): imm[6:5] selects SHL, SHR, SAR or ROR by imm[4:0]; imm[17:7] is reserved (R255). -/
def execShi (rd ra : BitVec 4) (imm : BitVec 18) (s : State) : Host.Outcome State Fault Refusal :=
  s.on (fun d => d.issueNext 1 (fun d =>
    let n := imm.toNat % 32
    if imm.toNat / 128 ≠ 0 then .error (Exc.ill (BitVec.ofNat 32 d.pcOfs))
    else .ok (d.aluWrite rd (match imm.toNat / 32 % 4 with
      | 0 => Alu.shl (d.w ra) n
      | 1 => Alu.shr (d.w ra) n
      | 2 => Alu.sar (d.w ra) n
      | _ => Alu.ror (d.w ra) n))))

/-- CMPI (R259): the flags of ra minus the immediate. -/
def execCmpi (ra : BitVec 4) (imm : BitVec 18) (s : State) : Host.Outcome State Fault Refusal :=
  s.on (fun d => d.aluTest (fun d => Alu.sub (d.w ra) (imm18s imm) 0))

/-- MOVL (R259): the immediate, zero-extended; no flag is written. -/
def execMovl (rd : BitVec 4) (imm : BitVec 16) (s : State) : Host.Outcome State Fault Refusal :=
  s.on (fun d => d.issueNext 1 (fun d => .ok (d.setW rd (imm.zeroExtend 32))))

/-- MOVH (R259): the upper half takes the immediate, the lower half stays. -/
def execMovh (rd : BitVec 4) (imm : BitVec 16) (s : State) : Host.Outcome State Fault Refusal :=
  s.on (fun d => d.issueNext 1 (fun d => .ok (d.setW rd (imm ++ (d.w rd).truncate 16))))

/-- CSEL (R260): ra when the condition holds, else rb; condition 8 raises ILL (R257). -/
def execCsel (rd ra rb cond : BitVec 4) (s : State) : Host.Outcome State Fault Refusal :=
  s.on (fun d => d.issueNext 1 (fun d =>
    if cond = 8 then .error (Exc.ill (BitVec.ofNat 32 d.pcOfs))
    else .ok (d.setW rd (if d.cond cond then d.w ra else d.w rb))))

end Sys2Proof.Machine
end

