-- ==== Sys2Proof/Machine/ImviaMem.lean ====
section
/-!
DEFINITION. The data SRAM instructions of Imvia (R261, R262): loads, stores, PUSH and POP.
-/

namespace Sys2Proof.Machine

namespace Mems

/-- The number that `n` bytes of data SRAM spell, the most significant first. DEDUCED: byte order as of code words and frames. -/
def load (m : Mems) (a n : Nat) : Nat := ofBeBytes (Store.readAll dataDflt m.data a n)

/-- The memories with the low `n` bytes of a number stored, the most significant first. -/
def store (m : Mems) (a n v : Nat) : Mems := { m with data := Store.writeAll dataDflt m.data a (beBytes n v) }

/-- Words stored one behind the other. -/
def storeWords (m : Mems) (a : Nat) (l : List Word) : Mems := { m with data := Store.writeAll dataDflt m.data a (l.flatMap (fun w => beBytes 4 w.toNat)) }

end Mems

namespace Dev

/-- What a read of a codeword finds (R29, R45): a corrected symbol is an L0 notice, an uncorrectable codeword of data SRAM the fault MEM
0x02 (R244, R499). -/
def eccRead (d : Dev) (e : Ecc) : Dev :=
  match e with
  | .ok => d
  | .corrected => (d.post 4 0 1 0).event 23 1
  | .uncorrectable => d.post 4 1 2 0

/-- The registers of a mask, in ascending order (R262). -/
def maskRegs (mask : BitVec 16) : List (BitVec 4) := ((List.range 16).filter (fun i => mask.getLsbD i)).map (BitVec.ofNat 4)

/-- A load of `n` bytes into rd, extended as the instruction says (R261): ADDR and PRIV before the access, MEM after it, with rd
unwritten (R239, R244). -/
def loadInto (d : Dev) (m : Mems) (rd ra : BitVec 4) (imm : BitVec 18) (e : Ecc) (n : Nat) (ext : Nat → Word) : Dev :=
  let a := (d.w ra + imm18s imm).toNat
  let bad := d.willRun && e == .uncorrectable && (d.dataCheck a n n).isNone
  let d := if bad || (d.willRun && e == .corrected && (d.dataCheck a n n).isNone) then d.eccRead e else d
  d.issueNext 2 (fun d =>
    match d.dataCheck a n n with
    | some x => .error x
    | none => if bad then .error (Exc.mem (BitVec.ofNat 32 a)) else .ok (d.setW rd (ext (m.load a n))))

/-- A store of the low `n` bytes of rs would be made now: its address (R261). -/
def storeAddr (d : Dev) (ra : BitVec 4) (imm : BitVec 18) (e : Ecc) (n : Nat) : Option Nat :=
  let a := (d.w ra + imm18s imm).toNat
  if d.willRun && (d.dataCheck a n n).isNone && e != .uncorrectable then some a else none

/-- The device's side of a store of `n` bytes. A store narrower than a word reads its codeword first; an uncorrectable one ends it as a
load (DEDUCED, R29, R244). -/
def storeSide (d : Dev) (ra : BitVec 4) (imm : BitVec 18) (e : Ecc) (n cycles : Nat) : Dev :=
  let a := (d.w ra + imm18s imm).toNat
  let reads := d.willRun && (d.dataCheck a n n).isNone
  let d := if reads then d.eccRead e else d
  d.issueNext cycles (fun d =>
    match d.dataCheck a n n with
    | some x => .error x
    | none => if e == .uncorrectable then .error (Exc.mem (BitVec.ofNat 32 a)) else .ok d)

end Dev

/-- A store of the low `n` bytes of rs (R261). -/
def State.storeFrom (s : State) (rs ra : BitVec 4) (imm : BitVec 18) (e : Ecc) (n cycles : Nat) : Host.Outcome State Fault Refusal :=
  let mems := if s.dev.power.released && !s.dev.banked then
      match s.dev.storeAddr ra imm e n with
      | some a => s.mems.store a n (s.dev.w rs).toNat
      | none => s.mems
    else s.mems
  ({ s with mems := mems }).on (fun d => d.storeSide ra imm e n cycles)

/-- LDW (R261): 32 bits. -/
def execLdw (rd ra : BitVec 4) (imm : BitVec 18) (e : Ecc) (s : State) : Host.Outcome State Fault Refusal :=
  s.on (fun d => d.loadInto s.mems rd ra imm e 4 (BitVec.ofNat 32))

/-- LDH (R261): 16 bits, sign-extended. -/
def execLdh (rd ra : BitVec 4) (imm : BitVec 18) (e : Ecc) (s : State) : Host.Outcome State Fault Refusal :=
  s.on (fun d => d.loadInto s.mems rd ra imm e 2 (fun v => (BitVec.ofNat 16 v).signExtend 32))

/-- LDHU (R261): 16 bits, zero-extended. -/
def execLdhu (rd ra : BitVec 4) (imm : BitVec 18) (e : Ecc) (s : State) : Host.Outcome State Fault Refusal :=
  s.on (fun d => d.loadInto s.mems rd ra imm e 2 (BitVec.ofNat 32))

/-- LDB (R261): 8 bits, sign-extended. -/
def execLdb (rd ra : BitVec 4) (imm : BitVec 18) (e : Ecc) (s : State) : Host.Outcome State Fault Refusal :=
  s.on (fun d => d.loadInto s.mems rd ra imm e 1 (fun v => (BitVec.ofNat 8 v).signExtend 32))

/-- LDBU (R261): 8 bits, zero-extended. -/
def execLdbu (rd ra : BitVec 4) (imm : BitVec 18) (e : Ecc) (s : State) : Host.Outcome State Fault Refusal :=
  s.on (fun d => d.loadInto s.mems rd ra imm e 1 (BitVec.ofNat 32))

/-- STW (R261). -/
def execStw (rs ra : BitVec 4) (imm : BitVec 18) (s : State) : Host.Outcome State Fault Refusal := s.storeFrom rs ra imm .ok 4 1

/-- STH (R261): a read-modify-write of the codeword. -/
def execSth (rs ra : BitVec 4) (imm : BitVec 18) (e : Ecc) (s : State) : Host.Outcome State Fault Refusal := s.storeFrom rs ra imm e 2 2

/-- STB (R261): a read-modify-write of the codeword. -/
def execStb (rs ra : BitVec 4) (imm : BitVec 18) (e : Ecc) (s : State) : Host.Outcome State Fault Refusal := s.storeFrom rs ra imm e 1 2

/-- A mask that PUSH and POP refuse with ILL: empty, or with W14 (R262). -/
def maskBad (mask : BitVec 16) : Bool := mask == 0 || mask.getLsbD 14

/-- The address below which PUSH stores, and whether it may (R262): the whole range is checked before the first access. -/
def Dev.pushBase (d : Dev) (mask : BitVec 16) : Except Exc Nat :=
  let n := (Dev.maskRegs mask).length
  let a := (d.w 14 - BitVec.ofNat 32 (4 * n)).toNat
  if maskBad mask then .error (Exc.ill (BitVec.ofNat 32 d.pcOfs))
  else match d.dataCheck a (4 * n) 4 with
    | some x => .error x
    | none => .ok a

/-- PUSH (R262): the registers of the mask below W14, the lowest-numbered at the lowest address. -/
def execPush (mask : BitVec 16) (s : State) : Host.Outcome State Fault Refusal :=
  let runs := s.dev.power.released && !s.dev.banked && s.dev.willRun
  let mems := if runs then
      match s.dev.pushBase mask with
      | .ok a => s.mems.storeWords a ((Dev.maskRegs mask).map s.dev.w)
      | .error _ => s.mems
    else s.mems
  ({ s with mems := mems }).on (fun d => d.issueNext (1 + (Dev.maskRegs mask).length) (fun d =>
    (d.pushBase mask).map (fun a => d.setW 14 (BitVec.ofNat 32 a))))

/-- The registers of a list loaded from words one behind the other. -/
def Dev.loadRegs (d : Dev) (m : Mems) : Nat → List (BitVec 4) → Dev
  | _, [] => d
  | a, r :: t => (d.setW r (BitVec.ofNat 32 (m.load a 4))).loadRegs m (a + 4) t

/-- POP (R262): the registers of the mask from the stack, and W14 raised. -/
def execPop (mask : BitVec 16) (e : Ecc) (s : State) : Host.Outcome State Fault Refusal :=
  s.on (fun d =>
    let n := (Dev.maskRegs mask).length
    let a := (d.w 14).toNat
    let reads := d.willRun && !maskBad mask && (d.dataCheck a (4 * n) 4).isNone
    let d := if reads then d.eccRead e else d
    d.issueNext (1 + n) (fun d =>
      if maskBad mask then .error (Exc.ill (BitVec.ofNat 32 d.pcOfs))
      else match d.dataCheck a (4 * n) 4 with
        | some x => .error x
        | none =>
          if e == .uncorrectable then .error (Exc.mem (BitVec.ofNat 32 a))
          else .ok ((d.loadRegs s.mems a (Dev.maskRegs mask)).setW 14 (d.w 14 + BitVec.ofNat 32 (4 * n)))))

end Sys2Proof.Machine
end

