-- ==== Sys2Proof/Machine/ImviaDevice.lean ====
section
/-!
DEFINITION. The device instructions MEAS, WAITT, WAITPH, DRAW, LOG and RAISE of Imvia (R267 to R277, R284 to R286).
-/

namespace Sys2Proof.Machine

namespace Dev

/-- The bit of CONV_MISSC that a refusal cause has, as the value that MEAS returns (R269). -/
def missBit (f : Fld) : Nat := 2 ^ f.lo

/-- MEAS with the grant it needs (R237, R269). On a head, whose cell block is powered down, it is refused with STATE. -/
def meas (d : Dev) (rd : BitVec 4) (f : Dev → Option Fld × Dev) : Dev :=
  d.issueNext 2 (fun d => do
    d.needGrant F.SEQ_GRANT_MEAS
    if d.isHead then return d.result rd (missBit F.CONV_MISSC_STATE)
    let (c, d) := f d
    return d.result rd ((c.map missBit).getD 0))

/-- A relative or absolute target of 48 bits (R271). -/
def waitTarget (d : Dev) (ra rb : BitVec 4) (isAbs : Bool) : BitVec 48 :=
  if isAbs then BitVec.ofNat 48 ((d.w rb).toNat % 65536 * 2 ^ 32 + (d.w ra).toNat) else d.tb + (d.w ra).zeroExtend 48

/-- A published result as DRAW sees it: the visible buffer as it stood before a publication of this cycle (R186). -/
def drawn (w : Drawer) : Result := w.before.getD w.vis

/-- The words that DRAW returns: the status and the five words of the visible buffer (R277). -/
def drawWords (r : Result) (shelf : Bool) : List Word :=
  r.status :: (List.range 5).map (fun i => r.word shelf i)

/-- DRAW takes a result (R277). On a head every word reads 0 (R25). -/
def drawResult (d : Dev) (rd : BitVec 4) (ch drw n : Nat) : Dev :=
  let shelf := decide (34 ≤ ch)
  let w := if shelf then d.exc (ch - 34) else d.drawer ch drw
  let r := if d.isHead then Result.zero else drawn w
  let words := (if d.isHead then List.replicate 6 0 else drawWords r shelf).take n
  let windowed := shelf || decide (2 ≤ d.get (F.ACC_DCFG_MODE (groupOf ch) drw))
  let d := (words.zipIdx).foldl (fun d p => d.setW (BitVec.ofNat 4 (rd.toNat + p.2)) p.1) d
  d.setFlags (!r.valid) (r.range || r.diag || r.qshort || r.gap || r.sat) r.isNew (r.cstale || r.cmix || (!r.phv && windowed && !d.isHead))

end Dev

/-- MEAS, GO form (R269): a sweep launched by software, or the refusal's bit. -/
def execMeasGo (rd : BitVec 4) (s : State) : Host.Outcome State Fault Refusal := s.on (fun d => d.meas rd Dev.softwareTrigger)

/-- MEAS, ARM form (R269). -/
def execMeasArm (rd : BitVec 4) (s : State) : Host.Outcome State Fault Refusal :=
  s.on (fun d => d.meas rd (fun d => (none, { d with conv := { d.conv with armed := true } })))

/-- MEAS, DISARM form (R269). -/
def execMeasDisarm (rd : BitVec 4) (s : State) : Host.Outcome State Fault Refusal :=
  s.on (fun d => d.meas rd (fun d => (none, { d with conv := { d.conv with armed := false } })))

/-- MEAS, STOP form (R269). -/
def execMeasStop (rd : BitVec 4) (s : State) : Host.Outcome State Fault Refusal := s.on (fun d => d.meas rd (fun d => (none, d.stopSweep)))

/-- MEAS, INJ form (R269): CONV_INJ and CONV_INJCH are not changed. -/
def execMeasInj (rd ra : BitVec 4) (drw : BitVec 2) (aux cur : Bool) (slot : BitVec 4) (s : State) : Host.Outcome State Fault Refusal :=
  s.on (fun d => d.meas rd (fun d => d.requestInjection (d.w ra) cur aux slot.toNat drw.toNat))

/-- WAITT (R270, R271): Hearth stops fetching until the wait ends. rb must be 0 in the relative form. -/
def execWaitt (rd ra rb rm : BitVec 4) (isAbs : Bool) (s : State) : Host.Outcome State Fault Refusal :=
  s.on (fun d => d.issue 1 (fun d =>
    if !isAbs && rb != 0 then .error (Exc.ill (BitVec.ofNat 32 d.pcOfs))
    else .ok (d.beginWait (.time (d.waitTarget ra rb isAbs)) rd ((d.w rm).truncate 16))))

/-- WAITPH (R270, R271, R273). -/
def execWaitph (rd ra rm : BitVec 4) (isAbs : Bool) (s : State) : Host.Outcome State Fault Refusal :=
  s.on (fun d => d.issue 1 (fun d =>
    .ok (d.beginWait (.phase (if isAbs then d.w ra else d.phase + d.w ra)) rd ((d.w rm).truncate 16))))

/-- WAIT_END (R272 to R274). -/
def execWaitEnd (s : State) : Host.Outcome State Fault Refusal := s.on Dev.endWait

/-- DRAW (R276, R277): ILL for NM1 of 6 and 7 and for a channel field beside CR, OPND for a channel above 37, ILL past W15. -/
def execDraw (rd ra : BitVec 4) (ch : BitVec 6) (drw : BitVec 2) (cr : Bool) (nm1 : BitVec 3) (s : State) :
    Host.Outcome State Fault Refusal :=
  s.on (fun d => d.issueNext (2 + nm1.toNat) (fun d =>
    let c := if cr then (d.w ra).toNat % 64 else ch.toNat
    let ill := Exc.ill (BitVec.ofNat 32 d.pcOfs)
    if 6 ≤ nm1.toNat || (cr && ch != 0) then .error ill
    else if 37 < c then .error (Exc.opnd (BitVec.ofNat 32 c))
    else if 15 < rd.toNat + nm1.toNat then .error ill
    else .ok (d.drawResult rd c drw.toNat (nm1.toNat + 1))))

namespace Dev

/-- The body length that a LOG descriptor gives, when it is valid: rb[12:0] from 1 to 4,096, rb[15:13] = 0 (R284). -/
def logLength (w : Word) : Option Nat :=
  let n := bitsOf w.toNat 0 13
  if n = 0 || 4096 < n || bitsOf w.toNat 13 3 != 0 then none else some n

/-- A LOG with its operands checked enters the append queue, is refused, or stalls (R284, R247). -/
def logInstr (d : Dev) (m : Mems) (rd ra rb : BitVec 4) (blk : Bool) : Except Exc (Bool × Dev) := do
  d.needGrant F.SEQ_GRANT_LOG
  match logLength (d.w rb) with
  | none => .error (Exc.opnd (d.w rb))
  | some n =>
    let a := (d.w ra).toNat
    if a % 4 ≠ 0 then .error (Exc.addr (d.w ra))
    else do
      need (d.dataCheck a n 1)
      if d.logFault then return (true, d.result rd 2)
      else if 4 ≤ d.log.progQ.length then
        if blk then return (false, d) else return (true, d.result rd 1)
      else
        let r := d.mkRec 0x80 (BitVec.ofNat 16 ((d.w rb).toNat / 65536)) (Store.readAll Mems.dataDflt m.data a n) true
        return (true, ({ d with log := { d.log with progQ := d.log.progQ ++ [r] } }).stageQueues.result rd 0)

end Dev

/-- LOG (R284): the record enters the append queue, or a refusal; with BLK = 1 a full queue stalls Hearth. -/
def execLog (rd ra rb : BitVec 4) (blk : Bool) (s : State) : Host.Outcome State Fault Refusal :=
  s.on (fun d => d.issue (1 + (bitsOf (d.w rb).toNat 0 13 + 7) / 8) (fun d =>
    (d.logInstr s.mems rd ra rb blk).map (fun p => if p.1 then p.2.advance else p.2.beginWait (.log rd ra rb) rd 0)))

/-- RAISE (R285, R286): a fault of the program, latched at the end of the instruction. ILL for a class above 8, PRIV for class GUARD
and, in user mode, for L2 and L3, OPND for a code below 0x80. -/
def execRaise (ra cls : BitVec 4) (lvl : BitVec 2) (code : Byte) (s : State) : Host.Outcome State Fault Refusal :=
  s.on (fun d => d.issueNext 1 (fun d =>
    if 8 < cls.toNat then .error (Exc.ill (BitVec.ofNat 32 d.pcOfs))
    else if cls = 2 || (d.hearth.user && decide (2 ≤ lvl.toNat)) then .error (Exc.priv 0)
    else if code.toNat < 0x80 then .error (Exc.opnd (code.zeroExtend 32))
    else .ok { d with posted := d.posted ++ [⟨cls.toNat, lvl.toNat, code.toNat, d.w ra, true⟩] }))

end Sys2Proof.Machine
end

