-- ==== Sys2Proof/Machine/ImviaChain.lean ====
section
/-!
DEFINITION. The instructions SEND, RECV and CRC of Imvia (R278 to R283), and the release of a stall (R247).
-/

namespace Sys2Proof.Machine

namespace Dev

/-- The length that a SEND descriptor gives, when the descriptor is valid (R278). -/
def sendLength (w : Word) : Option Nat :=
  let n := bitsOf w.toNat 0 9
  if n = 0 || 256 < n || bitsOf w.toNat 9 7 != 0 || bitsOf w.toNat 23 1 != 0 || 1 < bitsOf w.toNat 24 4 || bitsOf w.toNat 28 4 != 0 then none
  else some n

/-- The frame that SEND builds (R279, R336): a report carries the interface generation of the running program. -/
def sendFrame (d : Dev) (w : Word) (body : List Byte) : Frame :=
  let isReport := bitsOf w.toNat 24 4 == 0
  let gen := beBytes 2 (d.get (F.SEQ_BGEN_IFGEN d.bank))
  d.build (if isReport then 9 else 0xB) d.seqBits false (BitVec.ofNat 7 (bitsOf w.toNat 16 7))
    (if isReport then (gen ++ body.drop 2).take body.length else body)

/-- A SEND with its operands checked: queued, refused (1 FULL, 2 NOKEY, 3 STATE), or stalled on a full queue (R279, R629). -/
def sendNow (d : Dev) (rd : BitVec 4) (f : Frame) (auth blk : Bool) : Bool × Dev :=
  if d.bit F.FLT_STAT_LKO || (auth && d.bit F.SEC_STAT_ASTOP) then (true, d.result rd 3)
  else if auth && d.keys.ks.isNone then (true, d.result rd 2)
  else if 8 ≤ d.txqCount then (if blk then (false, d) else (true, d.result rd 1))
  else
    let n := d.chain.frameCount
    let (f, d) := if auth then d.sign f else (f, d)
    let d := ({ d with chain := { d.chain with frameCount := n + 1 } }).pushOwn f true false false
    (true, (d.setW rd (n.zeroExtend 32)).setZ true)

/-- SEND (R237, R278, R279). -/
def sendInstr (d : Dev) (m : Mems) (rd ra rb : BitVec 4) (auth blk : Bool) : Except Exc (Bool × Dev) := do
  d.needGrant F.SEQ_GRANT_CHAIN
  if d.hearth.user && auth then .error (Exc.priv 0)
  else match sendLength (d.w rb) with
    | none => .error (Exc.opnd (d.w rb))
    | some n =>
      need (d.dataCheck (d.w ra).toNat n 4)
      return d.sendNow rd (d.sendFrame (d.w rb) (Store.readAll Mems.dataDflt m.data (d.w ra).toNat n)) auth blk

/-- RECV (R237, R280): whether it completes, the bytes it stores, and the device. -/
def recvInstr (d : Dev) (rd ra rb : BitVec 4) (blk : Bool) : Except Exc (Bool × List Byte × Dev) := do
  d.needGrant F.SEQ_GRANT_CHAIN
  let n := (d.w rb).toNat
  if n = 0 || 256 < n then .error (Exc.opnd (d.w rb))
  else do
    need (d.dataCheck (d.w ra).toNat n 4)
    match d.hearth.rxq with
    | [] => return if blk then (false, [], d) else (true, [], d.setFlags true false false false)
    | f :: t =>
      let d := { d with hearth := { d.hearth with rxq := t } }
      let d := d.setW rd (BitVec.ofNat 32 (ofBeBytes (frameHeader f.frame)))
      return (true, f.frame.payload.take n, d.setFlags false false f.passed (decide (n < f.frame.payload.length)))

/-- A user-mode scan stays inside the window or its granted blocks (R552). -/
def scanAllowed (d : Dev) (sp start len : Nat) : Bool :=
  if !d.hearth.user || !chkRangeOk sp start len then true
  else if sp = 1 then decide (d.userWindow.1 ≤ start) && decide (start + len ≤ d.userWindow.2)
  else if sp = 2 then
    (List.range 16).all (fun b => (!(decide (start < (b + 1) * 4096) && decide (b * 4096 < start + len))) ||
      (d.bitAt F.SEQ_GRANT_BLK b && b != 2 && b != 9))
  else true

/-- CRC (R283, R552, R553): one write of CHK_START, CHK_LEN and CHK_CMD. -/
def crcInstr (d : Dev) (rd ra rb : BitVec 4) (sp : Nat) (res : Bool) : Except Exc Dev := do
  d.needGrant F.SEQ_GRANT_CRC
  if !d.scanAllowed sp (d.w ra).toNat (d.w rb).toNat then .error (Exc.priv (d.w ra))
  else
    let d := (d.wr R.CHK_START (d.w ra)).wr R.CHK_LEN (d.w rb)
    let (c, d) := d.chkStart sp res d.hearth.user
    return d.result rd c

/-- The cycles of a copy of `n` bytes (R279, R280, R284). -/
def copyCycles (n : Nat) : Nat := 1 + (n + 7) / 8

/-- A stalled instruction completes (R247): it retires, and Hearth goes on behind it. -/
def stallDone (d : Dev) (cycles : Nat) : Dev :=
  let d := { d with hearth := { d.hearth with wait := none, busy := cycles } }
  d.advance.event 2 1

/-- A stalled SEND, RECV or LOG is tried again (R247, R279, R280, R284): it completes once its queue has room or a frame. -/
def stallRelease (d : Dev) (m : Mems) : Mems × Dev :=
  match d.hearth.wait with
  | none => (m, d)
  | some wt =>
    match wt.kind with
    | .send rd ra rb auth =>
      (match d.sendInstr m rd ra rb auth true with
       | .ok (true, d') => (m, d'.stallDone (copyCycles (bitsOf (d.w rb).toNat 0 9)))
       | _ => (m, d))
    | .recv rd ra rb =>
      (match d.recvInstr rd ra rb true with
       | .ok (true, l, d') =>
         ({ m with data := Store.writeAll Mems.dataDflt m.data (d.w ra).toNat l }, d'.stallDone (copyCycles l.length))
       | _ => (m, d))
    | .log rd ra rb =>
      (match d.logInstr m rd ra rb true with
       | .ok (true, d') => (m, d'.stallDone (copyCycles (bitsOf (d.w rb).toNat 0 13)))
       | _ => (m, d))
    | _ => (m, d)

end Dev

/-- SEND (R278, R279): a frame queued, a refusal, or a stall on a full queue. -/
def execSend (rd ra rb : BitVec 4) (auth blk : Bool) (s : State) : Host.Outcome State Fault Refusal :=
  s.on (fun d => d.issue (Dev.copyCycles (bitsOf (d.w rb).toNat 0 9)) (fun d =>
    (d.sendInstr s.mems rd ra rb auth blk).map (fun p => if p.1 then p.2.advance else p.2.beginWait (.send rd ra rb auth) rd 0)))

/-- The bytes that a RECV stores now, and where. -/
def recvStores (d : Dev) (rd ra rb : BitVec 4) (blk : Bool) : List Byte :=
  if !d.willRun then []
  else match d.recvInstr rd ra rb blk with
    | .ok (_, l, _) => l
    | .error _ => []

/-- RECV (R280): a frame taken, an empty queue, or a stall on it. -/
def execRecv (rd ra rb : BitVec 4) (blk : Bool) (s : State) : Host.Outcome State Fault Refusal :=
  s.onM (fun m d =>
    let l := recvStores d rd ra rb blk
    ({ m with data := Store.writeAll Mems.dataDflt m.data (d.w ra).toNat l },
      d.issue (Dev.copyCycles l.length) (fun d =>
        (d.recvInstr rd ra rb blk).map (fun p => if p.1 then p.2.2.advance else p.2.2.beginWait (.recv rd ra rb) rd 0))))

/-- STALL_RELEASE (R247). -/
def execStallRelease (s : State) : Host.Outcome State Fault Refusal := s.onM (fun m d => d.stallRelease m)

/-- CRC (R283). -/
def execCrc (rd ra rb : BitVec 4) (sp : BitVec 2) (res : Bool) (s : State) : Host.Outcome State Fault Refusal :=
  s.on (fun d => d.issueNext 2 (fun d => d.crcInstr rd ra rb sp.toNat res))

end Sys2Proof.Machine
end

