-- ==== Sys2Proof/Machine/ImviaFlow.lean ====
section
/-!
DEFINITION. Control flow of Imvia (R252, R264, R265, R266), the entry of interrupts (R246), and the traps of the fetch (R244, R255, R304).
-/

namespace Sys2Proof.Machine

/-- The target of a branch by a signed offset from the branch's own offset, modulo 8,192 (R234, R264). -/
def Dev.branchTo (d : Dev) (off : BitVec 14) : Nat := (((d.pcOfs : Int) + off.toInt) % 8192).toNat

/-- B (R264): the branch is taken when the condition holds; condition 8 raises ILL (R257). -/
def execB (cond : BitVec 4) (off : BitVec 14) (s : State) : Host.Outcome State Fault Refusal :=
  s.on (fun d => d.issue (if d.cond cond then 2 else 1) (fun d =>
    if cond = 8 then .error (Exc.ill (BitVec.ofNat 32 d.pcOfs))
    else .ok (if d.cond cond then d.jump (d.branchTo off) else d.advance)))

/-- CALL (R264): W15 takes the return offset. -/
def execCall (off : BitVec 14) (s : State) : Host.Outcome State Fault Refusal :=
  s.on (fun d => d.issue 2 (fun d => .ok ((d.setW 15 (BitVec.ofNat 32 ((d.pcOfs + 1) % 8192))).jump (d.branchTo off))))

/-- JR (R264). -/
def execJr (ra : BitVec 4) (s : State) : Host.Outcome State Fault Refusal :=
  s.on (fun d => d.issue 2 (fun d => .ok (d.jump ((d.w ra).toNat % 8192))))

/-- CALLR (R264): the target is read before W15 is written. -/
def execCallr (ra : BitVec 4) (s : State) : Host.Outcome State Fault Refusal :=
  s.on (fun d => d.issue 2 (fun d => .ok ((d.setW 15 (BitVec.ofNat 32 ((d.pcOfs + 1) % 8192))).jump ((d.w ra).toNat % 8192))))

/-- SVC (R265): in user mode the SVC vector with the service number; in supervisor mode PRIV. -/
def execSvc (n : BitVec 8) (s : State) : Host.Outcome State Fault Refusal :=
  s.on (fun d =>
    if !d.willRun then d.issue 2 .ok
    else if d.hearth.user then d.exception ⟨6, n.zeroExtend 32⟩ true
    else d.exception (Exc.priv 0) false)

/-- RETI (R252): flags, mode and IEN from SEQ_ESR, and the program counter from SEQ_EPC; in user mode PRIV. -/
def execReti (s : State) : Host.Outcome State Fault Refusal :=
  s.on (fun d => d.issue 2 (fun d =>
    if d.hearth.user then .error (Exc.priv 0)
    else
      let d := d.putB F.SEQ_CTL_IEN (d.bit F.SEQ_ESR_IEN)
      let d := { d with hearth := { d.hearth with user := d.bit F.SEQ_ESR_MODE } }
      .ok ((d.setFlags (d.bit F.SEQ_ESR_Z) (d.bit F.SEQ_ESR_N) (d.bit F.SEQ_ESR_C) (d.bit F.SEQ_ESR_V)).jump (d.get F.SEQ_EPC_EPC))))

/-- YIELD (R266): user code enters the YIELD vector; supervisor code stalls until an enabled line is pending. -/
def execYield (s : State) : Host.Outcome State Fault Refusal :=
  s.on (fun d =>
    if !d.willRun then d.issue 2 .ok
    else if d.hearth.user then d.exception ⟨7, 0⟩ true
    else d.beginWait .yield 0 0)

/-- INTERRUPT_ENTRY (R246). -/
def execInterruptEntry (s : State) : Host.Outcome State Fault Refusal := s.on Dev.takeInterrupt

/-- ILLEGAL_OPCODE (R255): an instruction word that is no instruction raises ILL. -/
def execIllegalOpcode (_w : Word) (s : State) : Host.Outcome State Fault Refusal :=
  s.on (fun d => d.issue 1 (fun d => .error (Exc.ill (BitVec.ofNat 32 d.pcOfs))))

/-- FETCH_UNCORRECTABLE (R244): Hearth halts before the instruction, and MEM 0x03 is raised with the bank. -/
def execFetchUncorrectable (s : State) : Host.Outcome State Fault Refusal :=
  s.on (fun d => if d.issues then (d.halt 3).post 4 2 3 (BitVec.ofNat 32 d.bank) else d)

/-- USER_FETCH_OUTSIDE_REGION (R304): PRIV. -/
def execUserFetchOutsideRegion (s : State) : Host.Outcome State Fault Refusal :=
  s.on (fun d => if d.issues && d.hearth.user && !d.inUserRegion d.pcOfs then d.exception (Exc.priv (BitVec.ofNat 32 d.pcOfs)) false else d)

end Sys2Proof.Machine
end

