-- ==== Sys2Proof/Machine/Programs.lean ====
section
/-!
DEFINITION. The commands of program loading and scheduling (07_programs_and_upgrades.md): PLOAD and RUN frames, the image check, the
boundary of a RUN, grants, and the doorbell.
-/

namespace Sys2Proof.Machine

/-- The code words of the image in the inactive bank (R290). -/
def imageCode (m : Mems) (bank : Nat) (h : Image) : List Word := Store.readAll Mems.progDflt m.prog (bank * 8192 + h.loadAt) h.len

namespace Dev

/-- OPEN (R291, R295): the bank or its segment becomes invalid, and a session opens unless the header gives a cause. -/
def openLoad (d : Dev) (hdr : List Word) : Dev :=
  let h : Image := ⟨hdr⟩
  if d.bit F.SEQ_RUNSTAT_PEND && d.get F.SEQ_RUNSTAT_FORM = 0 then d.rejectLoad 9
  else
    let b := d.otherBank
    let c := d.headerCause h (d.get F.CHN_PSTAT_BREV)
    let d := if h.isUser then d else d.putAt F.SEQ_BANK_VALID b false
    let d := d.putAt F.SEQ_BANK_UVAL b false
    let d := (List.range 8).foldl (fun d j => d.wr (R.SEQ_LDMAP j) 0) d
    let d := ((d.put F.SEQ_LDSTAT_CHUNKS 0).putB F.SEQ_LDSTAT_MISSING false).putB F.SEQ_LDSTAT_KIND h.isUser
    let d := { d with load := { d.load with hdr := hdr, trailer := [] } }
    match c with
    | some c => d.rejectLoad c
    | none => (d.put F.SEQ_LDSTAT_STATE 1).put F.SEQ_LDSTAT_CAUSE 0

/-- A chunk has been received (R292). -/
def hasChunk (d : Dev) (i : Nat) : Bool := d.bitAt (F.SEQ_LDMAP_MAP (i / 32)) (i % 32)

/-- DATA (R292): the chunk is written and marked; words beyond LEN are not. -/
def dataLoad (m : Mems) (d : Dev) (i : Nat) (code : List Word) : Mems × Dev :=
  let h : Image := ⟨d.load.hdr⟩
  if d.get F.SEQ_LDSTAT_STATE != 1 || decide (h.chunks ≤ i) then (m, d)
  else
    let words := code.take (h.len - 32 * i)
    let at_ := d.otherBank * 8192 + h.loadAt + 32 * i
    let d := if d.hasChunk i then d else (d.putAt (F.SEQ_LDMAP_MAP (i / 32)) (i % 32) true).put F.SEQ_LDSTAT_CHUNKS (d.get F.SEQ_LDSTAT_CHUNKS + 1)
    ({ m with prog := Store.writeAll Mems.progDflt m.prog at_ words }, d)

/-- CLOSE (R294): the check starts once every chunk is present. -/
def closeLoad (d : Dev) (trailer : List Byte) : Dev :=
  if d.get F.SEQ_LDSTAT_STATE != 1 then d
  else if (List.range (Image.chunks ⟨d.load.hdr⟩)).all d.hasChunk then
    ({ d with load := { d.load with trailer := trailer } }).put F.SEQ_LDSTAT_STATE 2
  else d.flag F.SEQ_LDSTAT_MISSING

/-- The check of a closed image ends (R288, R294, R295): CODECRC, the key, the CMAC under KP, and the region of a segment. -/
def imageCheck (m : Mems) (d : Dev) : Dev :=
  if d.get F.SEQ_LDSTAT_STATE != 2 then d
  else
    let h : Image := ⟨d.load.hdr⟩
    let b := d.otherBank
    let code := ((imageCode m b h).map wordBytes).flatten
    if Crc.crc32 code != h.codeCrc then d.rejectLoad 5
    else match d.keys.kp with
      | none => d.rejectLoad 7
      | some kp =>
        if Aes.cmac kp ((h.words.map wordBytes).flatten ++ code) != BitVec.ofNat 128 (ofBeBytes d.load.trailer) then (d.rejectLoad 6).cmacFail
        else if d.regionBad h then d.rejectLoad 8
        else
          let d := (d.put F.SEQ_LDSTAT_STATE 3).put F.SEQ_LDSTAT_CAUSE 0
          if h.isUser then d.putAt F.SEQ_BANK_UVAL b true
          else
            let d := (d.putAt F.SEQ_BANK_VALID b true).put (F.SEQ_BVER_VERSION b) h.version
            let d := ((d.put (F.SEQ_BGEN_LREV b) h.lrev).put (F.SEQ_BGEN_IFGEN b) h.ifgen).put (F.SEQ_BLEN_LEN b) h.len
            { (d.wr (R.SEQ_BCRC b) h.codeCrc) with load := { d.load with
              banks := upd d.load.banks b (fun _ => ⟨h.ustart, h.uend, h.grantMax⟩) } }

/-- The payload of a PLOAD response (R341). -/
def ploadBody (f : Frame) (d : Dev) (status : Nat) : List Byte :=
  [BitVec.ofNat 8 status, nth f.payload 0 0] ++ (f.payload.drop 2).take 2 ++ d.rdBytes R.SEQ_LDSTAT

/-- A PLOAD frame of a kind with its length (R338, R341): OPEN in Lockout leaves cause STATE (R295). -/
def pload (kind len : Nat) (p : Port) (f : Frame) (act : Mems → Dev → Mems × Dev) (m : Mems) (d : Dev) : Mems × Dev :=
  let mine := byteAt f.payload 0 == kind || (kind == 4 && (byteAt f.payload 0 == 0 || decide (4 < byteAt f.payload 0)))
  if f.ty != 5 || !mine then (m, d)
  else
    d.onRequest m p f ⟨true, true, if byteAt f.payload 0 == kind then [len] else []⟩ true false false (ploadBody f) (fun m d _ =>
      if d.bit F.FLT_STAT_LKO then
        let d := (if kind = 1 then d.rejectLoad 11 else d).count F.FLT_LKREF_CNT 1
        ((m, d), ploadBody f d 3)
      else
        let (m, d) := act m d
        ((m, d), ploadBody f d 0))

/-- A RUN frame of a form (R296 to R298, R341): every device that consumes a broadcast one answers (R337). -/
def runFrame (form : Nat) (p : Port) (f : Frame) (m : Mems) (d : Dev) : Mems × Dev :=
  let body (d : Dev) (status : Nat) : List Byte := [BitVec.ofNat 8 status, 0, 0, 0] ++ d.rdBytes R.SEQ_RUNSTAT
  if f.ty != 6 || byteAt f.payload 0 % 4 != form then (m, d)
  else
    d.onRequest m p f ⟨true, true, [8]⟩ false false true body (fun m d _ =>
      let d := d.requestRun form (BitVec.ofNat 32 (fieldAt f.payload 4 4)) (fieldAt f.payload 2 2)
      ((m, d), body d 0))

/-- A write of SEQ_GRANT by Hearth in supervisor mode (R302); every other write is ignored. -/
def writeGrant (d : Dev) (by_ : By) (w : Word) : Dev :=
  if by_ != By.hearth || d.hearth.user then d
  else d.wr R.SEQ_GRANT (w &&& (nth d.load.banks d.bank ⟨0, 0, 0⟩).grantMax &&& BitVec.ofNat 32 grantMask)

/-- A write of SEQ_DOOR sets line 14 (R245). -/
def writeDoor (d : Dev) (w : Word) : Dev := (d.wr R.SEQ_DOOR w).irq 14

end Dev

/-- PLOAD_OPEN (R291). -/
def execPloadOpen (p : Port) (f : Frame) (s : State) : Host.Outcome State Fault Refusal :=
  s.onM (Dev.pload 1 68 p f (fun m d => (m, d.openLoad (wordsOf (f.payload.drop 4)))))

/-- PLOAD_DATA (R292). -/
def execPloadData (p : Port) (f : Frame) (s : State) : Host.Outcome State Fault Refusal :=
  s.onM (Dev.pload 2 132 p f (fun m d => Dev.dataLoad m d (fieldAt f.payload 2 2) (wordsOf (f.payload.drop 4))))

/-- PLOAD_CLOSE (R294). -/
def execPloadClose (p : Port) (f : Frame) (s : State) : Host.Outcome State Fault Refusal :=
  s.onM (Dev.pload 3 20 p f (fun m d => (m, d.closeLoad (f.payload.drop 4))))

/-- PLOAD_ABORT (R295); a KIND that is none is answered with LEN (R341). -/
def execPloadAbort (p : Port) (f : Frame) (s : State) : Host.Outcome State Fault Refusal :=
  s.onM (Dev.pload 4 4 p f (fun m d => (m, d.abortLoad)))

/-- SEQ_LDCTL_ABORT (R295). -/
def execSeqLdctlAbort (s : State) : Host.Outcome State Fault Refusal := s.on Dev.abortLoad

/-- IMAGE_CHECK_COMPLETE (R294). -/
def execImageCheckComplete (s : State) : Host.Outcome State Fault Refusal := s.onM (fun m d => (m, Dev.imageCheck m d))

/-- RUN_SWAP (R296). -/
def execRunSwap (p : Port) (f : Frame) (s : State) : Host.Outcome State Fault Refusal := s.onM (Dev.runFrame 0 p f)

/-- RUN_RESTART (R296). -/
def execRunRestart (p : Port) (f : Frame) (s : State) : Host.Outcome State Fault Refusal := s.onM (Dev.runFrame 1 p f)

/-- RUN_HALT (R296, R301). -/
def execRunHalt (p : Port) (f : Frame) (s : State) : Host.Outcome State Fault Refusal := s.onM (Dev.runFrame 2 p f)

/-- RUN_CANCEL (R296). -/
def execRunCancel (p : Port) (f : Frame) (s : State) : Host.Outcome State Fault Refusal := s.onM (Dev.runFrame 3 p f)

/-- RUN_BOUNDARY (R299). -/
def execRunBoundary (s : State) : Host.Outcome State Fault Refusal := s.on Dev.runBoundary

/-- SEQ_GRANT_WRITE (R302). -/
def execSeqGrantWrite (by_ : By) (w : Word) (s : State) : Host.Outcome State Fault Refusal := s.on (·.writeGrant by_ w)

/-- DOORBELL (R245). -/
def execDoorbell (w : Word) (s : State) : Host.Outcome State Fault Refusal := s.on (·.writeDoor w)

end Sys2Proof.Machine
end

