-- ==== Sys2Proof/Machine/PeatLog.lean ====
section
/-!
DEFINITION. The commands of the peat log (17_peat_log.md): programming, mounting, erasing, scrubbing, readout and what software writes.
-/

namespace Sys2Proof.Machine

namespace Dev

/-- The oldest byte of the open segment has waited LOG_CFG.FLUSH (R641). -/
def flushDue (d : Dev) : Bool :=
  match d.log.oldest with
  | none => false
  | some t => decide (t + max 1 (d.get F.LOG_CFG_FLUSH) * 10000000 ≤ d.cycle)

/-- The body of the POWERUP record (R638). -/
def powerupBody (d : Dev) : List Byte :=
  d.rdBytes R.SYS_RSTCAUSE ++ d.rdBytes R.SYS_ID ++ d.rdBytes R.LOG_BOOT ++ beBytes 2 (d.get F.LOG_DROP_TORN) ++ d.rdBytes (R.SEQ_BVER 0) ++
    d.rdBytes (R.SEQ_BVER 1)

/-- What the mount finds in the system area: the spares, the pairing record with its release mark, and the provisioning key (R605, R613,
R650). -/
def mountSystem (d : Dev) (torn : Nat) : Dev :=
  let v := { d.nv with boots := d.nv.boots + 1 }
  let d := { d with nv := v, log := { d.log with seq := v.seq } }
  let d := (((d.put F.LOG_STAT_MOUNT 2).put F.LOG_STAT_SPARE v.spares).putB F.LOG_STAT_RDONLY v.rdonly).put F.LOG_DROP_TORN torn
  let d := ((d.wr R.LOG_BOOT (BitVec.ofNat 32 v.boots)).put F.TWN_PAIRID_OWN v.pairId.toNat).putB F.SEC_STAT_RELEASED v.released
  let d := d.loadKp
  if v.pairId = 0 || v.released then d.setForeign else d

/-- The mount completes (R57, R644): the POWERUP record comes first, then what was held. A read-only log takes no hardware record (R648). -/
def mountComplete (d : Dev) (torn : Nat) : Dev :=
  if d.get F.LOG_STAT_MOUNT != 1 || decide (d.log.mountFrom + 5000000 < d.cycle) then d
  else
    let d := d.mountSystem torn
    let d := if d.nv.rdonly then
        let n := d.log.hwQ.length + 1
        ({ d with log := { d.log with hwQ := [] } }).count F.LOG_DROP_HW n
      else d.stage (d.mkRec 0x01 0 d.powerupBody false)
    d.stageQueues.sendPair.judgeHeld

/-- The mount has not completed within 50 ms (R645): held appends are dropped, and the device comes up as an unpaired unit without KP. -/
def mountFail (d : Dev) : Dev :=
  if d.get F.LOG_STAT_MOUNT != 1 || decide (d.cycle < d.log.mountFrom + 5000000) then d
  else
    let n := d.log.hwQ.length + d.log.progQ.length
    let freed := d.log.progQ.length != 0
    let d := ({ d with log := { d.log with hwQ := [], progQ := [] } }).count F.LOG_DROP_HW n
    let d := ((d.put F.LOG_STAT_MOUNT 3).post 4 1 8 0).put F.TWN_PAIRID_OWN 0
    let d := ((d.putB F.SEC_STAT_RELEASED false).setKp none).setForeign
    (if freed then d.irq 11 else d).sendPair.judgeHeld

/-- A segment is read by the scrub or a reader: its corrected bits, and whether it could not be corrected (R648, R649). -/
def segmentRead (d : Dev) (blk bits : Nat) (unc : Bool) : Dev :=
  if !d.mounted then d
  else
    let d := if bits = 0 then d else d.count F.LOG_ECC_CORR 1
    let d := if d.get F.LOG_ECC_MAXB < bits then d.count F.LOG_ECC_MAXB (bits - d.get F.LOG_ECC_MAXB) else d
    let d := if unc then (d.count F.LOG_ECC_UNC 1).post 4 1 6 0 else d
    if bits ≤ clampNat 8 40 (d.get F.LOG_CFG_RTHR) || d.log.refresh.contains blk then d
    else ({ d with log := { d.log with refresh := d.log.refresh ++ [blk] } }).putB F.LOG_STAT_RFR true

/-- The wear of a block grows by one erasure. -/
def wearOut (d : Dev) (blk : Nat) : Dev :=
  let w := d.nv.wear
  { d with nv := { d.nv with wear := Store.write (fun _ => 0) w blk (Store.read (fun _ => 0) w blk + 1) } }

/-- A block is refreshed (R649): its bytes stay at their logical offsets. -/
def refreshBlock (d : Dev) (blk : Nat) : Dev :=
  if !d.mounted then d
  else
    let d := ({ d with log := { d.log with refresh := d.log.refresh.erase blk } }).wearOut blk
    d.putB F.LOG_STAT_RFR (!d.log.refresh.isEmpty)

/-- The bytes from offset `a` up to the head of the ring (R652). -/
def toHead (d : Dev) (a : Nat) : Nat := (d.nv.ofs + ringSize - a) % ringSize

/-- A readout stream starts (R652): it ends at LOG_HEADOFS. -/
def streamGo (d : Dev) : Dev :=
  let a := d.get F.LOG_RDSTART_OFS % ringSize
  let n := min (d.get F.LOG_RDLEN_LEN) (d.toHead a)
  let d := { d with log := { d.log with rdPos := a, rdLeft := n, rdAt := d.cycle } }
  (d.put F.LOG_RDSTAT_XSEQ 0).put F.LOG_RDSTAT_STATE 1

/-- One log byte as a reader sees it (R652). -/
def logByte (d : Dev) (m : Mems) (a : Nat) : Byte :=
  let a := a % ringSize
  if d.inLog a then Store.read Mems.nandDflt m.nand a else 0xFF

/-- `n` log bytes from an offset, around the end of the ring. -/
def logBytes (d : Dev) (m : Mems) (a n : Nat) : List Byte := (List.range n).map (fun i => d.logByte m (a + i))

/-- The stream sends its next frame (R346, R366, R652). -/
def streamFrame (d : Dev) (m : Mems) : Dev :=
  if d.get F.LOG_RDSTAT_STATE != 1 || decide (d.cycle < d.log.rdAt) then d
  else if d.log.rdLeft = 0 then d.endStream 2
  else
    let a := d.log.rdPos
    let n := min 248 d.log.rdLeft
    let x := d.get F.LOG_RDSTAT_XSEQ
    let f := hardFrame d.linkRev 0xB d.addr 0 (beBytes 4 (a / 4096) ++ beBytes 2 (a % 4096) ++ beBytes 2 x ++ d.logBytes m a n)
    let space := clampNat 67 511 (d.get F.LOG_RDCTL_SPACE) * 100
    let l : Log := { d.log with rdPos := (a + n) % ringSize, rdLeft := d.log.rdLeft - n, rdAt := d.cycle + space }
    let d := ({ d with log := l }).put F.LOG_RDSTAT_XSEQ (x + 1)
    let d := if d.isHead then d.pushHost (hostRec f false false) else d.pushOwn f false false false
    if l.rdLeft = 0 then d.endStream 2 else d

/-- The chain tag and the SEQ of the last record that has been staged (R646, R656). -/
def lastRecord (d : Dev) : BitVec 48 × BitVec 128 :=
  let key := logKey (d.rd R.SYS_ID)
  d.log.staged.foldl (fun (acc : BitVec 48 × BitVec 128) x => match x with
    | .record r => (r.seq, Log.chainTag key acc.2 r)
    | .cut => acc) (d.nv.seq, d.nv.ct)

/-- A write of LOG_ERASE (R654): 2 busy, 3 wrong key, or 1 with the ERASE record. The controller that holds a fault or has not mounted
cannot commit that record. -/
def eraseCmd (d : Dev) (w : Word) : Dev :=
  if w != 0x45524153 then d.put F.LOG_STAT_ERES 3
  else if d.get F.LOG_RDSTAT_STATE = 1 || d.bit F.LOG_STAT_EBUSY || !d.mounted || d.logFault then d.put F.LOG_STAT_ERES 2
  else
    let (seq, ct) := d.lastRecord
    let d := ((d.put F.LOG_STAT_ERES 1).putB F.LOG_STAT_EBUSY true).logHw 0x0C 0 (beBytes 6 seq.toNat ++ beBytes 16 ct.toNat)
    { d with log := { d.log with erasing := some (d.log.seq + BitVec.ofNat 48 (d.log.hwQ.length + d.log.progQ.length)) } }

/-- The records from the one of `seq` on, with the one before it. -/
def splitStarts (seq : BitVec 48) (prev : Option RecStart) : List RecStart → Option (Option RecStart × List RecStart)
  | [] => none
  | r :: t => if r.seq = seq then some (prev, r :: t) else splitStarts seq (some r) t

/-- The erasure is complete (R654): the ERASE record is the tail, and every other block has been erased. -/
def eraseDone (d : Dev) : Dev :=
  match d.log.erasing with
  | none => d
  | some seq =>
    match splitStarts seq none d.nv.starts with
    | none => d
    | some (prev, kept) =>
      let at_ := (kept.head?.map (·.ofs)).getD d.nv.ofs
      let v := { d.nv with starts := kept, tailOfs := at_ }
      let v := match prev with
        | none => v
        | some r => { v with tailSeq := r.seq, tailCt := r.ct }
      let d := { d with nv := v, log := { d.log with erasing := none } }
      let d := (List.range 960).foldl (fun d b => if b = at_ / blockSize then d else d.wearOut b) d
      d.putB F.LOG_STAT_EBUSY false

/-- A TIME record (R638). -/
def writeUtc (d : Dev) (w : Word) : Dev := d.logHw 0x0B 0 (wordBytes w ++ beBytes 6 d.now)

/-- The words of a chain tag, byte 0 first. -/
def tagWord (ct : BitVec 128) (t : Nat) : Word := BitVec.ofNat 32 (ct.toNat / 2 ^ (96 - 32 * t))

/-- The SEQ and the chain tag of the last record, or of the one before the tail; 0 until the log is mounted (R647, R657). -/
def seqAndTag (d : Dev) (tail : Bool) : BitVec 48 × BitVec 128 :=
  if !d.mounted then (0, 0) else if tail then (d.nv.tailSeq, d.nv.tailCt) else (d.nv.seq, d.nv.ct)

/-- A read of LOG_HEADSEQL or LOG_TAILSEQL latches the rest (R647, R657). -/
def readSeq (d : Dev) (tail : Bool) : Word × Dev :=
  let (seq, ct) := d.seqAndTag tail
  let d := d.wr (if tail then R.LOG_TAILSEQH else R.LOG_HEADSEQH) (BitVec.ofNat 32 (seq.toNat / 2 ^ 32))
  (seq.truncate 32, (List.range 4).foldl (fun d t => d.wr (if tail then R.LOG_TAILTAG t else R.LOG_HEADTAG t) (tagWord ct t)) d)

end Dev

/-- A command of the log controller acts while it has power (R591, R595). -/
def State.onLog (s : State) (f : Mems → Dev → Mems × Dev) : Host.Outcome State Fault Refusal :=
  .next (if s.dev.power.released && s.dev.logPowered then
    { s with mems := (f s.mems s.dev).1, dev := (f s.mems s.dev).2.settle } else s)

/-- FLUSH_TIMER (R641). -/
def execFlushTimer (s : State) : Host.Outcome State Fault Refusal :=
  s.onLog (fun m d => (m, if d.flushDue then d.closeSegment else d))

/-- LOG_FLUSH (R641). -/
def execLogFlush (s : State) : Host.Outcome State Fault Refusal := s.on Dev.closeSegment

/-- SEGMENT_PROGRAM_START (R642). -/
def execSegmentProgramStart (s : State) : Host.Outcome State Fault Refusal :=
  s.onLog (fun m d =>
    if !d.mayProgram then (m, d)
    else ({ m with nand := Store.writeAll Mems.nandDflt m.nand d.nv.ofs d.programSegment.1 }, d.programSegment.2))

/-- SEGMENT_PROGRAM_COMPLETE (R642, R650). -/
def execSegmentProgramComplete (ok : Bool) (s : State) : Host.Outcome State Fault Refusal := s.onLog (fun m d => (m, d.programDone ok))

/-- LOG_MOUNT_COMPLETE (R644): `torn` counts the torn segments. -/
def execLogMountComplete (torn : BitVec 16) (s : State) : Host.Outcome State Fault Refusal := s.on (·.mountComplete torn.toNat)

/-- LOG_MOUNT_FAIL (R645). -/
def execLogMountFail (s : State) : Host.Outcome State Fault Refusal := s.on Dev.mountFail

/-- BLOCK_ERASE_COMPLETE (R634): the block at the head of the ring. -/
def execBlockEraseComplete (s : State) : Host.Outcome State Fault Refusal :=
  s.onLog (fun m d =>
    if !d.mounted || !d.needsErase then (m, d)
    else
      let blk := d.nv.ofs / Dev.blockSize
      ({ m with nand := m.nand.filter (fun e => e.1 / Dev.blockSize != blk) }, d.dropBlock blk))

/-- LOG_SCRUB (R649): a segment of block `blk` read with `bits` corrected bits, or not correctable. -/
def execLogScrub (blk : Fin 960) (bits : Byte) (unc : Bool) (s : State) : Host.Outcome State Fault Refusal :=
  s.on (·.segmentRead blk.val bits.toNat unc)

/-- LOG_REFRESH (R649). -/
def execLogRefresh (blk : Fin 960) (s : State) : Host.Outcome State Fault Refusal := s.on (·.refreshBlock blk.val)

/-- LOG_READOUT_GO (R652): a write of LOG_RDCTL with GO. -/
def execLogReadoutGo (w : Word) (s : State) : Host.Outcome State Fault Refusal :=
  s.on (fun d => (d.writeFields R.LOG_RDCTL w false).streamGo)

/-- LOG_READOUT_STOP (R652). -/
def execLogReadoutStop (s : State) : Host.Outcome State Fault Refusal := s.on (·.endStream 3)

/-- LOG_READOUT_FRAME (R652). -/
def execLogReadoutFrame (s : State) : Host.Outcome State Fault Refusal := s.onM (fun m d => (m, d.streamFrame m))

/-- LOG_ERASE (R654): an authenticated write. -/
def execLogErase (w : Word) (s : State) : Host.Outcome State Fault Refusal := s.on (·.eraseCmd w)

/-- LOG_ERASE_COMPLETE (R654): bytes outside the span from the tail to the head are erased, but for the rest of the tail's block. -/
def execLogEraseComplete (s : State) : Host.Outcome State Fault Refusal :=
  s.onLog (fun m d =>
    let n := d.eraseDone
    if n.log.erasing = d.log.erasing then (m, n)
    else ({ m with nand := m.nand.filter (fun e => n.inLog e.1 || e.1 / Dev.blockSize == n.nv.tailOfs / Dev.blockSize) }, n))

/-- LOG_UTC (R638). -/
def execLogUtc (w : Word) (s : State) : Host.Outcome State Fault Refusal := s.on (·.writeUtc w)

/-- SNAPSHOT_CAPTURE_END (R639). -/
def execSnapshotCaptureEnd (s : State) : Host.Outcome State Fault Refusal := s.on Dev.snapEnd

/-- LOG_HEADSEQ_READ (R657). -/
def execLogHeadseqRead (tail : Bool) (s : State) : Host.Outcome State Fault Refusal :=
  s.on (fun d => (d.readSeq tail).2.emit (.value (if tail then R.LOG_TAILSEQL else R.LOG_HEADSEQL) (d.readSeq tail).1))

end Sys2Proof.Machine
end

