-- ==== Sys2Proof/Machine/RegView.lean ====
section
/-!
DEFINITION. What a register shows: the word that a read without side effects returns (R12, R552). A field that reports the device's
own state is computed from it here; a field that software or a meaning writes stands in the register file; a latched shadow stands
there too.
-/

namespace Sys2Proof.Machine

/-- The address lies on a series of registers: `n` of them from `base`, `step` bytes apart. -/
def onSeries (a base n step : Nat) : Option Nat :=
  if a < base then none else if (a - base) % step = 0 && decide ((a - base) / step < n) then some ((a - base) / step) else none

namespace Dev

/-- A register is inactive in the role of the device: it reads 0 and ignores writes (R16, R149, R194, R310, R392, R434, R453, R475,
R498, R562, R587, R611). -/
def inactive (d : Dev) (a : Nat) : Bool :=
  let b := a / 4096
  if d.isHead then
    b == 3 || b == 4 || b == 5 ||
    (decide (0x0030 ≤ a) && decide (a ≤ 0x0040)) ||
    (decide (0xB01C ≤ a) && decide (a ≤ 0xB028)) || (decide (0xB030 ≤ a) && decide (a ≤ 0xB068)) ||
    (decide (0xD000 ≤ a) && decide (a < 0xD330)) || a == R.CAL_TRKLIM || a == R.CAL_QLIM ||
    (onSeries a (R.CAL_QRES 0) 9 4).isSome || (onSeries a (R.CAL_QLOOP 0) 4 4).isSome ||
    [R.TWN_CFG, R.TWN_TOL, R.TWN_DIFF, R.TWN_CMPCNT, R.TWN_LASTD].contains a
  else
    (decide (R.CHN_TMO ≤ a) && decide (a ≤ R.CHN_KCTL)) || a == R.CHN_BRK || a == R.CHN_RFWD ||
    (decide (R.CHN_IRQST ≤ a) && decide (a ≤ R.CHN_SPIERR)) ||
    [R.TIM_PHCFG, R.TIM_PHTX, R.TIM_PSWINC].contains a ||
    [R.GRD_SAFECFG, R.GRD_SAFECTL, R.GRD_SAFESTAT, R.GRD_SAFECNT].contains a || decide (0xF040 ≤ a)

/-- The word in the register file, with its WO fields at 0. -/
def stored (d : Dev) (a : Nat) : Word :=
  match descAt a with
  | none => 0
  | some r => r.fields.foldl (fun (v : Word) f => if f.acc == .wo then putBits v ⟨a, f.lo, f.width⟩ 0 else v) (d.rd a)

/-- Fields of a word replaced, one after another. -/
def withFields (w : Word) (l : List (Fld × Nat)) : Word := l.foldl (fun w x => putBits w x.1 x.2) w

/-- A mask of the four shelves (R435). -/
def shelves4 (d : Dev) (f : Shelf → Bool) : Nat := (List.range 4).foldl (fun m k => m + (f (d.shelf k)).toNat * 2 ^ k) 0

/-- CHN registers (R390, R392). -/
def viewChn (d : Dev) (a : Nat) : Word :=
  let s := d.stored a
  if a = R.CHN_PSTAT then putBits s F.CHN_PSTAT_REV d.linkRev
  else if a = R.CHN_IRQST then putBits s F.CHN_IRQST_RXWM (decide (max 1 (d.get F.CHN_HQCTL_WM) ≤ d.chain.hrx.length)).toNat
  else if a = R.CHN_HQSTAT then
    withFields s [(F.CHN_HQSTAT_RXFR, min 1023 d.chain.hrx.length), (F.CHN_HQSTAT_TXFREE, 16 - d.chain.htx.length)]
  else if a = R.CHN_SQSTAT then withFields s [(F.CHN_SQSTAT_TXN, d.txqCount), (F.CHN_SQSTAT_RXN, d.hearth.rxq.length)]
  else s

/-- SEQ_STAT (R313). -/
def viewSeq (d : Dev) (a : Nat) : Word :=
  let s := d.stored a
  if a = R.SEQ_STAT then
    withFields s [(F.SEQ_STAT_PC, d.hearth.pc.toNat), (F.SEQ_STAT_RUNPEND, d.get F.SEQ_RUNSTAT_PEND), (F.SEQ_STAT_BANK, d.bank),
      (F.SEQ_STAT_MODE, d.hearth.user.toNat), (F.SEQ_STAT_STALL, d.hearth.wait.isSome.toNat), (F.SEQ_STAT_HALT, (!d.hearth.run).toNat),
      (F.SEQ_STAT_RUN, d.hearth.run.toNat)]
  else s

/-- CONV_STAT (R142). -/
def viewConv (d : Dev) (a : Nat) : Word :=
  let s := d.stored a
  if a = R.CONV_STAT then
    withFields s [(F.CONV_STAT_IDX, d.conv.idx), (F.CONV_STAT_CALRUN, d.cal.taken.isSome.toNat), (F.CONV_STAT_INJRUN, d.inj.run.toNat),
      (F.CONV_STAT_INJPEND, d.inj.pend.toNat), (F.CONV_STAT_ARMED, d.conv.armed.toNat), (F.CONV_STAT_INFL, d.conv.infl.toNat)]
  else s

/-- A result register: word 0 is the status as a read of this cycle sees it, the others are the snapshot (R170, R186, R189). -/
def viewResult (w : Drawer) (shelf : Bool) (i : Nat) : Word := if i = 0 then (w.before.getD w.vis).status else w.snap.word shelf (i - 1)

/-- The NEW bits of drawer `n` on the channels from `lo` on (R194). -/
def newBits (d : Dev) (n lo cnt : Nat) : Nat :=
  (List.range cnt).foldl (fun m c => m + (((d.drawer (lo + c) n).before.getD (d.drawer (lo + c) n).vis).isNew).toNat * 2 ^ c) 0

/-- Drawer `n` of some channel is set to take windows and its phase source is not valid (R164). -/
def waits (d : Dev) (n : Nat) : Bool :=
  (List.range 34).any (fun ch =>
    d.drawerRuns ch n && decide (2 ≤ d.get (F.ACC_DCFG_MODE (groupOf ch) n)) && !d.psrcValid (psrcOf (d.get (F.ACC_DCFG_PSRC (groupOf ch) n))))

/-- ACC registers (R188 to R194). -/
def viewAcc (d : Dev) (a : Nat) : Word :=
  if a < 0x4CC0 then
    let o := a - 0x4000
    viewResult (nth d.drawers (o / 0x18) Drawer.reset) false (o % 0x18 / 4)
  else if a < 0x4EE0 then
    let t := nth d.trk ((a - 0x4CC0) / 16) Tracker.reset
    match (a - 0x4CC0) % 16 / 4 with
    | 0 => (BitVec.ofInt 16 t.amax).append (BitVec.ofInt 16 t.amin)
    | 1 => BitVec.ofInt 32 t.bmin
    | 2 => BitVec.ofInt 32 t.bshadow
    | _ => BitVec.ofNat 32 (t.acnt * 65536 + t.bcnt)
  else if 0x4F50 ≤ a && a < 0x4FB0 then
    viewResult (d.exc ((a - 0x4F50) / 0x18)) true ((a - 0x4F50) % 0x18 / 4)
  else if a = R.ACC_STAT then
    putBits (d.stored a) F.ACC_STAT_WAIT ((List.range 4).foldl (fun m n => m + (d.waits n).toNat * 2 ^ n) 0)
  else if a = R.ACC_NEWX then
    BitVec.ofNat 32 ((List.range 4).foldl (fun m n => m + d.newBits n 32 1 * 2 ^ n + d.newBits n 33 1 * 2 ^ (4 + n)) 0)
  else match onSeries a (R.ACC_NEW 0) 4 4 with
    | some n => BitVec.ofNat 32 (d.newBits n 0 32)
    | none => d.stored a

/-- BAL registers (R435 to R439). -/
def viewBal (d : Dev) (a : Nat) : Word :=
  let s := d.stored a
  if a = R.BAL_STAT then
    withFields s [(F.BAL_STAT_ACT, d.shelves4 (·.act)), (F.BAL_STAT_XACT, d.shelves4 (fun w => w.act && w.xrunning)),
      (F.BAL_STAT_SELON, d.shelves4 (·.sel.isSome)), (F.BAL_STAT_PAUSE, d.shelves4 (·.paused)), (F.BAL_STAT_HOT, d.power.tempStop.toNat),
      (F.BAL_STAT_HOAVAIL, d.hoAvail.toNat)]
  else match onSeries a (R.BAL_SHSTAT 0) 4 0x20, onSeries a (R.BAL_QDONE 0) 4 0x20, onSeries a (R.BAL_IMEAS 0) 4 0x20,
      onSeries a (R.BAL_QCELL 0) 32 4 with
    | some k, _, _, _ =>
      let w := d.shelf k
      withFields s [(F.BAL_SHSTAT_STATE k, w.state), (F.BAL_SHSTAT_XMODE k, w.xmode.toNat), (F.BAL_SHSTAT_CELL k, w.cell)]
    | _, some k, _, _ => BitVec.ofInt 32 ((d.shelf k).qdone.fdiv 1000000)
    | _, _, some k, _ => if (d.shelf k).act then ((BitVec.ofInt 16 (d.shelf k).lastAvg).zeroExtend 32) else 0
    | _, _, _, some i => BitVec.ofInt 32 (nth d.bal.qcell i (0, 0)).1
    | _, _, _, _ => s

/-- TIM registers (R230 to R232). -/
def viewTim (d : Dev) (a : Nat) : Word :=
  if a = R.TIM_TBL then d.tb.truncate 32
  else if a = R.TIM_PHASE then d.phase
  else if a = R.TIM_PMBL then d.readPmbl.1
  else d.stored a

/-- FLT registers (R521). -/
def viewFlt (d : Dev) (a : Nat) : Word :=
  let none_ : FirstSrc := ⟨false, false, false, false, 0, 0, 0, 0, 0⟩
  let cls (l : List Nat) : Word := BitVec.ofNat 32 (l.zipIdx.foldl (fun m p => m + p.1 % 16 * 2 ^ (4 * p.2)) 0)
  if a = R.FLT_STAT then d.fltStat
  else if a = R.FLT_CLSA then cls (d.flt.cls.take 8)
  else if a = R.FLT_CLSB then cls (d.flt.cls.drop 8)
  else if a = R.FLT_DISCGEN then d.discGen
  else if a = R.FLT_CNT then BitVec.ofNat 32 (d.flt.cnt.zipIdx.foldl (fun m p => m + p.1 % 256 * 2 ^ (8 * p.2)) 0)
  else if a = R.FLT_UNLCH then d.keys.chal
  else if 0x8040 ≤ a && a < 0x8080 then
    let f := nth d.flt.first ((a - 0x8040) / 16) none_
    match (a - 0x8040) % 16 / 4 with
    | 0 => f.word
    | 1 => f.info
    | 2 => f.stamp.truncate 32
    | _ => d.stored a
  else d.stored a

/-- SEC registers (R629). -/
def viewSec (d : Dev) (a : Nat) : Word :=
  if a = R.SEC_DNONCE then d.keys.dnonce
  else if a = R.SEC_TCH then d.keys.tch
  else match onSeries a (R.SEC_NONCE 0) 3 4 with
    | some i => nth d.keys.nonce i 0
    | none => d.stored a

/-- BST_STAT.CWAIT: a converter step waits for the converter, which an instant or an injection holds (R536, R537). -/
def bistWaits (d : Dev) : Bool :=
  d.bit F.BST_STAT_CBUSY && (d.inj.run || !d.conv.instants.isEmpty)

/-- PRF registers (R675, R676). -/
def viewPrf (d : Dev) (a : Nat) : Word :=
  if a = R.PRF_CYCL then d.perf.cyc.truncate 32
  else if 0xC080 ≤ a && a < 0xC140 then
    let t := nth d.perf.tags ((a - 0xC080) / 0x18) ⟨[], []⟩
    let i := (a - 0xC080) % 0x18 / 4
    if i = 0 then nth t.words 0 0 else nth t.latched (i - 1) 0
  else d.stored a

/-- CAL registers (R585, R586): the factors read from the snapshot. -/
def viewCal (d : Dev) (a : Nat) : Word :=
  if a = R.CAL_HCRC then setCrc d.isHead d.cal.shadow
  else match factorIndex (a % 4096) with
    | some i => nth d.cal.snap i 0
    | none => d.stored a

/-- LOG registers (R657): offsets, SEQ and wear are 0 until the log is mounted. -/
def viewLog (d : Dev) (a : Nat) : Word :=
  let s := d.stored a
  if a = R.LOG_STAT then putBits s F.LOG_STAT_PQ d.log.progQ.length
  else if a = R.LOG_HEADOFS then (if d.mounted then BitVec.ofNat 32 d.nv.ofs else 0)
  else if a = R.LOG_TAILOFS then (if d.mounted then BitVec.ofNat 32 d.nv.tailOfs else 0)
  else if a = R.LOG_HEADSEQL then (d.seqAndTag false).1.truncate 32
  else if a = R.LOG_TAILSEQL then (d.seqAndTag true).1.truncate 32
  else if a = R.LOG_WEAR then (if d.mounted then d.wearWord else 0)
  else s

/-- What a register shows: the word that a read without side effects returns (R552). An address where the block implements none, and a
register that is inactive in the role, reads 0 (R16, R17). -/
def viewReg (d : Dev) (a : Nat) : Word :=
  if (descAt a).isNone || d.inactive a then 0
  else match a / 4096 with
    | 0 => if a = R.SYS_PWRSTAT then putBits (d.stored a) F.SYS_PWRSTAT_TENT (d.get F.CHN_ADDR_TENT) else d.stored a
    | 1 => d.viewChn a
    | 2 => d.viewSeq a
    | 3 => d.viewConv a
    | 4 => d.viewAcc a
    | 5 => d.viewBal a
    | 7 => d.viewTim a
    | 8 => d.viewFlt a
    | 9 => d.viewSec a
    | 10 => if a = R.CHK_FLT then d.stored a ||| 0x80 else d.stored a
    | 11 => if a = R.BST_STAT then putBits (d.stored a) F.BST_STAT_CWAIT d.bistWaits.toNat else d.stored a
    | 12 => d.viewPrf a
    | 13 => d.viewCal a
    | 14 => d.viewLog a
    | _ => d.stored a

end Dev

end Sys2Proof.Machine
end

