-- ==== Sys2Proof/Machine/Twins.lean ====
section
/-!
DEFINITION. The twin link's messages, pairing, safety frames and the comparison of the two chains (11_safety_architecture.md R454 to R472).
-/

namespace Sys2Proof.Machine

namespace Dev

/-- GRD_PAIRSET (R457): the ID is set, its record made, and the exchange restarts; 0xFFFF is ignored. -/
def pairset (d : Dev) (w : Word) : Dev :=
  let id := w.toNat % 65536
  if id = 0xFFFF then d
  else
    let d := ({ d with twin := { d.twin with pairsetDone := true } }).put F.TWN_PAIRID_OWN id
    (((d.pairRecord 1).put F.TWN_STAT_PRES 0).updateCompare).sendPair

/-- HEALTH leaves once the link has been idle for 250 µs (R454). -/
def healthSend (d : Dev) : Dev := if d.cycle < d.twin.lastSent + 25000 then d else d.sendMsg 1 d.healthBytes

/-- The partner's HEALTH (R426, R475, R683): its demand on a head stands until it reports no fault of L2 or above. -/
def takeHealth (d : Dev) (m : BitVec 48) : Dev :=
  let d := ({ d with twin := { d.twin with health := some m } }).put F.TWN_STAT_PADDR (bitsOf m.toNat 32 7)
  if m.toNat.testBit 12 then d else { d with safe := { d.safe with partnerDem := false } }

/-- 1 ms without a valid message (R456). -/
def twinTimeout (d : Dev) : Dev := if !d.linkUp || decide (d.cycle < d.twin.lastValid + 100000) then d else d.linkDown

/-! ### Safety frames (R345, R465, R466) -/

/-- The safety period in ticks (R465, R493). -/
def safetyPeriod (d : Dev) : Nat := clampNat 2 100 (bitsOf (d.guardWord 9) 16 7) * 100000

/-- Byte 7 of a safety frame (R466). -/
def safetyFlags (d : Dev) : Nat :=
  (d.bit F.TWN_STAT_DEGR).toNat + 2 * (d.rd R.TWN_DIFF != 0).toNat + 4 * (d.bit F.TWN_STAT_CMPACT).toNat +
    8 * (d.get F.BAL_STAT_OWNER == 1).toNat + 16 * (d.rd R.CAL_STALE != 0).toNat + 32 * (d.bit F.SYS_CLKSTAT_ALIGNED).toNat +
    64 * (d.bit F.GRD_STAT_LOCKED).toNat + 128 * (d.side != 0).toNat

/-- The payload of a safety frame (R345, R466). -/
def safetyBytes (d : Dev) (k : Nat) : List Byte :=
  beBytes 2 k ++ beBytes 2 (d.get F.TWN_PAIRID_OWN) ++ beBytes 2 d.glatch ++
    [BitVec.ofNat 8 (d.flt.hlv + 4 * (d.bit F.FLT_STAT_LKO).toNat), BitVec.ofNat 8 d.safetyFlags]

/-- A member sends safety frames (R465, R602). -/
def sendsSafety (d : Dev) : Bool :=
  !d.isHead && d.addrValid && (d.pstate == 2 || d.pstate == 4 || (d.pstate == 1 && d.bit F.SYS_PWRSTAT_FOREIGN))

/-- The period whose frame is due at a device of address `a` (R465). -/
def periodDue (d : Dev) (a : Nat) : Option Nat :=
  let p := d.safetyPeriod
  let ofs := a * p / 128
  if d.now < ofs then none else some ((d.now - ofs) / p)

/-- The safety frame of the current period, once (R465); it goes ahead of other frames of the device's own (R358). -/
def sendSafety (d : Dev) : Dev :=
  match d.periodDue d.addr with
  | none => d
  | some k =>
    if !d.sendsSafety || d.twin.lastPeriod == some k then d
    else
      let f := hardFrame d.linkRev 0xA d.addr 0 (d.safetyBytes k)
      ({ d with twin := { d.twin with lastPeriod := some k } }).pushOwn f false false true

/-! ### The chain comparison of a head (R468 to R472) -/

/-- A safety frame as its sixteen bytes, header to CRC (R345, R454). -/
def rawSafety (f : Frame) : BitVec 128 := BitVec.ofNat 128 (ofBeBytes (frameBytes f ++ wordBytes (frameCrc f)))

/-- Byte `i` of the sixteen. -/
def rawByte (m : BitVec 128) (i : Nat) : Nat := bitsOf m.toNat (120 - 8 * i) 8

/-- SSEQ. -/
def rawSseq (m : BitVec 128) : Nat := rawByte m 4 * 256 + rawByte m 5

/-- The frame demands the safe state (R470): GUARD is not 0, or FLV is 2 or 3. -/
def rawDemands (m : BitVec 128) : Bool := rawByte m 8 % 4 + rawByte m 9 != 0 || decide (2 ≤ rawByte m 10 % 4)

/-- The period that an SSEQ names: the one nearest to head time (R465, R468). -/
def periodOf (d : Dev) (sseq : Nat) : Nat :=
  let base : Int := (d.now / d.safetyPeriod : Nat)
  (base + signed 16 ((sseq + 65536 * 65536 - d.now / d.safetyPeriod) % 65536)).toNat

/-- The period after `k`: periods restart with the timebase. -/
def nextPeriod (d : Dev) (k : Nat) : Nat := if 2 ^ 48 ≤ (k + 1) * d.safetyPeriod then 0 else k + 1

/-- A safety frame of pair `a` from the own chain or from the partner's enters its comparison (R468, R469): one of the period being compared
counts in it, and the last of each chain is kept. -/
def enterFrame (d : Dev) (a : Nat) (m : BitVec 128) (own : Bool) : Dev :=
  let fresh : PairCmp := ⟨a, none, none, none, none, d.periodOf (rawSseq m)⟩
  let p := (d.twin.pairs.find? (fun p => p.addr == a)).getD fresh
  let hit := rawSseq m == p.k % 65536
  let p : PairCmp := if own then { p with lastOwn := some m, own := if hit then some m else p.own }
    else { p with lastFar := some m, far := if hit then some m else p.far }
  { d with twin := { d.twin with pairs := p :: d.twin.pairs.filter (fun q => q.addr != a) } }

/-- A frame from either chain that demands the safe state latches FRM (R470). -/
def frameDemand (d : Dev) (a : Nat) (m : BitVec 128) : Dev :=
  if rawDemands m then ({ d with safe := { d.safe with frmPair := some a } }).safeDemandBy 2 else d

/-- A head consumes a SAFETY frame (R338, R468, R470): it relays it and compares it. The relay takes more than half of the link where SPER is
below R467. -/
def takeSafety (d : Dev) (f : Frame) : Dev :=
  if !d.isHead || f.ty != 0xA || f.dest != 0 || f.src = 0 || f.auth || f.payload.length != 8 then d
  else
    let d := (d.event 18 1).frameSeen
    let m := rawSafety f
    let a := f.src.toNat
    let d := (d.enterFrame a m true).sendMsg 5 (beBytes 16 m.toNat)
    let d := d.putB F.TWN_CCSTAT_OVLD (decide (d.safetyPeriod < d.get F.CHN_KSTAT_N * 5000))
    d.frameDemand a m

/-- The partner's relayed frame (R468, R470). -/
def takeSfr (d : Dev) (m : BitVec 128) : Dev :=
  if !d.isHead then d
  else
    let a := rawByte m 1 % 128
    (if d.linkUp then d.enterFrame a m false else d).frameDemand a m

/-- The compared fields of two frames agree (R469). -/
def framesAgree (d : Dev) (x y : BitVec 128) : Bool :=
  let mask := d.get F.TWN_CCCFG_FMASK
  ((List.range 4).all (fun i => rawByte x (4 + i) == rawByte y (4 + i))) && rawByte x 8 % 4 == rawByte y 8 % 4 && rawByte x 9 == rawByte y 9 &&
    (rawByte x 10).testBit 2 == (rawByte y 10).testBit 2 && (rawByte x 11) &&& mask == (rawByte y 11) &&& mask

/-- The verdict of a close (R469, R472): 0 MATCH, 1 MISMATCH, 2 SINGLE without chain A's frame, 3 SINGLE without chain B's, 4 LOST (KIND of
TWN_CCFIRST); none while the link is down and the own chain's frame is there. -/
def verdict (d : Dev) (p : PairCmp) : Option Nat :=
  if !d.linkUp then (if p.own.isNone then some 4 else none)
  else match p.own, p.far with
    | some x, some y => some (if d.framesAgree x y then 0 else 1)
    | none, none => some 4
    | none, some _ => some (if d.isTwin then 3 else 2)
    | some _, none => some (if d.isTwin then 2 else 3)

/-- The verdict of pair `a` stands in TWN_CCMM, TWN_CCSGL and TWN_CCLOST (R471). -/
def showVerdict (d : Dev) (a v : Nat) : Dev :=
  let j := a / 32
  let i := a % 32
  ((d.putAt (F.TWN_CCMM_PAIR j) i (v == 1)).putAt (F.TWN_CCSGL_PAIR j) i (v == 2 || v == 3)).putAt (F.TWN_CCLOST_PAIR j) i (v == 4)

/-- A departure from MATCH is counted, held if it is the first, and raises its fault (R469, R471, R499). -/
def departure (d : Dev) (a k v : Nat) : Dev :=
  let d := d.count (if v = 1 then F.TWN_CCCNT_MM else if v = 4 then F.TWN_CCCNT_LOST else F.TWN_CCCNT_SGL) 1
  let d := if d.get F.TWN_CCFIRST_KIND != 0 then d
    else ((d.count F.TWN_CCFIRST_SSEQ (k % 65536)).count F.TWN_CCFIRST_PAIR a).count F.TWN_CCFIRST_KIND v
  let info : Word := BitVec.ofNat 32 a
  if v = 1 then d.post 3 1 8 info else if v = 4 then d.post 3 2 10 info else d.post 3 1 9 info

/-- The comparison of pair `a` closes (R468, R469, R471). -/
def closeCompare (d : Dev) (a : Nat) : Dev :=
  match d.twin.pairs.find? (fun p => p.addr == a) with
  | none => d
  | some p =>
    let per := d.safetyPeriod
    let due := (p.k * per + a * per / 128 + per + 200000) % 2 ^ 48
    if !d.isHead || decide (wrapDiff 48 d.now due < 0) then d
    else
      let n := d.nextPeriod p.k
      let carry (x : Option (BitVec 128)) : Option (BitVec 128) := x.filter (fun m => rawSseq m == n % 65536)
      let q : PairCmp := { p with k := n, own := carry p.lastOwn, far := carry p.lastFar }
      let v := d.verdict p
      let d := { d with twin := { d.twin with pairs := q :: d.twin.pairs.filter (fun x => x.addr != a) } }
      if !d.bit F.TWN_CCCFG_EN then d
      else match v with
        | none => d
        | some v =>
          let d := (d.put F.TWN_CCSTAT_SSEQ (p.k % 65536)).showVerdict a v
          let d := if v != 0 || d.bit F.TWN_CCCFG_EVERY then d.flag F.CHN_IRQST_SAFE else d
          if v = 0 then d else d.departure a p.k v

/-- A read of TWN_CCRAW[0] latches the words of the pair in TWN_CCSEL (R498): words 0 to 3 chain A's frame, 4 to 7 chain B's. -/
def readCcraw (d : Dev) : Word × Dev :=
  let p := d.twin.pairs.find? (fun p => p.addr == d.get F.TWN_CCSEL_PAIR)
  let own := ((p.bind (·.lastOwn)).map BitVec.toNat).getD 0
  let far := ((p.bind (·.lastFar)).map BitVec.toNat).getD 0
  let (a, b) := if d.isTwin then (far, own) else (own, far)
  let d := (List.range 8).foldl (fun d w =>
    d.wr (R.TWN_CCRAW w) (BitVec.ofNat 32 ((if w < 4 then a else b) / 2 ^ (96 - 32 * (w % 4))))) d
  (d.rd (R.TWN_CCRAW 0), d)

end Dev

/-- PAIRSET (R457): an authenticated write of GRD_PAIRSET. -/
def execPairset (w : Word) (s : State) : Host.Outcome State Fault Refusal := s.on (·.pairset w)

/-- HEALTH_SEND (R454). -/
def execHealthSend (s : State) : Host.Outcome State Fault Refusal := s.on Dev.healthSend

/-- HEALTH (R683). -/
def execHealthMsg (m : BitVec 48) (ok : Bool) (s : State) : Host.Outcome State Fault Refusal := s.on (·.onMsg ok (·.takeHealth m))

/-- TWIN_LINK_DOWN (R456). -/
def execTwinLinkDown (s : State) : Host.Outcome State Fault Refusal := s.on Dev.twinTimeout

/-- PAIR (R458): `echo` is the delay that the exchange measured, in 1/4096 tick (R459). -/
def execPairMsg (m : BitVec 112) (ok : Bool) (echo : BitVec 16) (s : State) : Host.Outcome State Fault Refusal :=
  s.on (·.onMsg ok (·.takePair m echo))

/-- RESULT (R461). -/
def execResultMsg (m : TwinResult) (ok : Bool) (s : State) : Host.Outcome State Fault Refusal := s.on (·.onMsg ok (·.compareResult m))

/-- RESULT_DEADLINE (R463). -/
def execResultDeadline (s : State) : Host.Outcome State Fault Refusal := s.on Dev.resultDeadline

/-- SFR (R468). -/
def execSfrMsg (m : BitVec 128) (ok : Bool) (s : State) : Host.Outcome State Fault Refusal := s.on (·.onMsg ok (·.takeSfr m))

/-- FAULT_WORD (R455, R473). -/
def execFaultWord (s : State) : Host.Outcome State Fault Refusal := s.on (·.safeDemandBy 1)

/-- SAFETY_FRAME_SEND (R465). -/
def execSafetyFrameSend (s : State) : Host.Outcome State Fault Refusal := s.on Dev.sendSafety

/-- SAFETY (R468). -/
def execSafety (_p : Port) (f : Frame) (s : State) : Host.Outcome State Fault Refusal := s.on (·.takeSafety f)

/-- SAFETY_COMPARE_CLOSE (R469). -/
def execSafetyCompareClose (a : BitVec 7) (s : State) : Host.Outcome State Fault Refusal := s.on (·.closeCompare a.toNat)

/-- CCRAW_READ (R498). -/
def execCcrawRead (s : State) : Host.Outcome State Fault Refusal :=
  s.on (fun d => d.readCcraw.2.emit (.value (R.TWN_CCRAW 0) d.readCcraw.1))

end Sys2Proof.Machine
end

