-- ==== Sys2Proof/Machine/SafeOutputs.lean ====
section
/-!
DEFINITION. The SAFE outputs of a head and their off-pulse tests (11_safety_architecture.md R473 to R479).
-/

namespace Sys2Proof.Machine

namespace Dev

/-- SAFE output `j`. -/
def safeOut (d : Dev) (j : Nat) : SafeOut := nth d.safe.outs j SafeOut.reset

/-- SAFE output `j` changed. -/
def onSafe (d : Dev) (j : Nat) (f : SafeOut → SafeOut) : Dev := { d with safe := { d.safe with outs := upd d.safe.outs j f } }

/-- The pulse width PW in cycles (R476, R493). -/
def pulseWidth (d : Dev) : Nat := clampNat 5 30 (bitsOf (d.guardWord 10) 0 5) * 1000

/-- The test interval TI in cycles (R476, R493). -/
def testInterval (d : Dev) : Nat := clampNat 1 100 (bitsOf (d.guardWord 10) 8 8) * 10000000

/-- GRD_SAFESTAT.PULSE says that an off-pulse is in progress. -/
def showPulse (d : Dev) : Dev := d.putB F.GRD_SAFESTAT_PULSE (d.safe.outs.any (fun o => o.pulse.isSome))

/-- ON of output `j` is refused (R474): a FAULT slot within the last 10 µs, a demand, an unlocked configuration, an output not in use, a
readback fault. -/
def onRefused (d : Dev) (j : Nat) : Bool :=
  d.bit F.GRD_SAFESTAT_DEM || !d.bit F.GRD_STAT_LOCKED || !(d.guardWord 10).testBit (16 + j) || d.faultArriving 1000 ||
    d.bitAt F.GRD_SAFESTAT_RBF j

/-- An output turns on (R474, R476): SAFE0's pulses start TI after, SAFE1's half an interval after SAFE0's. -/
def turnOn (d : Dev) (j : Nat) : Dev :=
  if d.bitAt F.GRD_SAFESTAT_OUT j || (d.safeOut j).pulse.isSome then d
  else
    let ti := d.testInterval
    let d := (d.setOut j true).onSafe j (fun o => { o with retryAt := none, fails := 0 })
    if j = 0 then
      let t := d.cycle + ti
      (d.onSafe 0 (fun o => { o with nextPulse := t })).onSafe 1 (fun o => { o with nextPulse := t + ti / 2 })
    else if (d.safeOut 0).nextPulse = 0 then d.onSafe 1 (fun o => { o with nextPulse := d.cycle + ti + ti / 2 })
    else d

/-- A write of GRD_SAFECTL.ON (R474). -/
def safeOnCmd (d : Dev) (mask : Nat) : Dev :=
  if !d.isHead || mask = 0 then d
  else
    let l := (List.range 2).filter (mask.testBit ·)
    let d1 := l.foldl (fun x j => if d.onRefused j then x else x.turnOn j) d
    d1.putB F.GRD_SAFESTAT_ONREF (l.any (d.onRefused ·))

/-- The latest frames of the pair that set FRM still carry the condition (R475). -/
def frmActive (d : Dev) : Bool :=
  match d.safe.frmPair with
  | none => false
  | some a =>
    match d.twin.pairs.find? (fun p => p.addr == a) with
    | none => false
    | some p => ([p.lastOwn, p.lastFar] : List (Option (BitVec 128))).any (fun m => (m.map rawDemands).getD false)

/-- A source of the SAFE demand is still active (R475): FAULT slots arrive, no more than 64 slots apart (R331). -/
def demandActive (d : Dev) : Bool := d.faultArriving 1600 || d.safe.partnerDem || d.frmActive || d.highFault

/-- GRD_SAFECTL.ACK (R475). -/
def safeAckCmd (d : Dev) : Dev :=
  if !d.isHead || d.demandActive then d
  else (({ d with safe := { d.safe with frmPair := none } }).put F.GRD_SAFESTAT_SRC 0).putB F.GRD_SAFESTAT_DEM false

/-- An off-pulse of output `j` starts when its schedule or its repetition is due (R476, R477); the schedule goes on while the output is off
(R479). -/
def pulseStart (d : Dev) (j : Nat) : Dev :=
  let o := d.safeOut j
  let sched := o.nextPulse != 0 && decide (o.nextPulse ≤ d.cycle)
  let retry := match o.retryAt with
    | none => false
    | some t => decide (t ≤ d.cycle)
  if !d.isHead || o.pulse.isSome || !(sched || retry) then d
  else
    let ti := d.testInterval
    let d := d.onSafe j (fun o => { o with nextPulse := if sched then o.nextPulse + ti else o.nextPulse, retryAt := none })
    if !d.bitAt F.GRD_SAFESTAT_OUT j then d
    else ((d.setOut j false).onSafe j (fun o => { o with pulse := some d.cycle, sampled := false })).showPulse

/-- The readback fault of output `j` (R477, R478): the L2 fault, and the output is held off. -/
def readbackFault (d : Dev) (j : Nat) : Dev :=
  let d := (d.putAt F.GRD_SAFESTAT_RBF j true).onSafe j (fun o => { o with lowRun := 0, wrong := 0, fails := 0, retryAt := none })
  let d := if d.bitAt F.GRD_SAFESTAT_OUT j then d.setOut j false else d
  d.post 5 2 8 (BitVec.ofNat 32 j)

/-- SRB of output `j` is sampled 10 µs before its pulse ends (R476, R477). -/
def pulseSample (d : Dev) (j : Nat) (high : Bool) : Dev :=
  let o := d.safeOut j
  match o.pulse with
  | none => d
  | some t =>
    if o.sampled || decide (d.cycle + 1000 < t + d.pulseWidth) then d
    else
      let d := (d.putAt F.GRD_SAFESTAT_RB j high).onSafe j (fun o => { o with sampled := true })
      if !high then d.onSafe j (fun o => { o with fails := 0 })
      else
        let d := d.count F.GRD_SAFECNT_FAIL 1
        if o.fails = 0 then
          (d.onSafe j (fun o => { o with fails := 1, retryAt := some (d.cycle + 1000000) })).post 5 0 7 (BitVec.ofNat 32 j)
        else d.readbackFault j

/-- The off-pulse ends (R476, R479): the switch closes unless a demand or a readback fault holds it off. -/
def pulseEnd (d : Dev) (j : Nat) : Dev :=
  match (d.safeOut j).pulse with
  | none => d
  | some t =>
    if d.cycle < t + d.pulseWidth then d
    else
      let d := ((d.onSafe j (fun o => { o with pulse := none, sampled := false })).count F.GRD_SAFECNT_PULSES 1).showPulse
      if d.bit F.GRD_SAFESTAT_DEM || d.bitAt F.GRD_SAFESTAT_RBF j then d else d.setOut j true

/-- SRB of output `j` is sampled outside a pulse (R476 to R478): from 100 µs after the switch changed, three wrong samples in a row are a
fault; a held readback fault clears after three low ones once L2 is acknowledged, and is raised again by a high one. -/
def readbackSample (d : Dev) (j : Nat) (high : Bool) : Dev :=
  let o := d.safeOut j
  if !d.isHead || o.pulse.isSome then d
  else
    let d := d.putAt F.GRD_SAFESTAT_RB j high
    if d.bitAt F.GRD_SAFESTAT_RBF j then
      if d.flt.unack.testBit 2 then d.onSafe j (fun o => { o with lowRun := 0 })
      else if high then d.readbackFault j
      else if o.lowRun < 2 then d.onSafe j (fun o => { o with lowRun := o.lowRun + 1 })
      else (d.putAt F.GRD_SAFESTAT_RBF j false).onSafe j (fun o => { o with lowRun := 0, wrong := 0 })
    else if d.cycle < o.changedAt + 10000 then d
    else if high == d.bitAt F.GRD_SAFESTAT_OUT j then d.onSafe j (fun o => { o with wrong := 0 })
    else if o.wrong < 2 then d.onSafe j (fun o => { o with wrong := o.wrong + 1 })
    else d.readbackFault j

end Dev

/-- SAFE_ON (R474): an authenticated write of GRD_SAFECTL.ON. -/
def execSafeOn (mask : BitVec 2) (s : State) : Host.Outcome State Fault Refusal := s.on (·.safeOnCmd mask.toNat)

/-- SAFE_DEMAND (R473): an authenticated write of GRD_SAFECTL.DEM. -/
def execSafeDemand (s : State) : Host.Outcome State Fault Refusal := s.on (·.safeDemandBy 4)

/-- SAFE_ACK (R475): an authenticated write of GRD_SAFECTL.ACK. -/
def execSafeAck (s : State) : Host.Outcome State Fault Refusal := s.on Dev.safeAckCmd

/-- OFF_PULSE_START (R476). -/
def execOffPulseStart (j : Fin 2) (s : State) : Host.Outcome State Fault Refusal := s.on (·.pulseStart j.val)

/-- OFF_PULSE_SAMPLE (R477). -/
def execOffPulseSample (j : Fin 2) (high : Bool) (s : State) : Host.Outcome State Fault Refusal := s.on (·.pulseSample j.val high)

/-- OFF_PULSE_END (R476). -/
def execOffPulseEnd (j : Fin 2) (s : State) : Host.Outcome State Fault Refusal := s.on (·.pulseEnd j.val)

/-- SAFE_READBACK_SAMPLE (R477). -/
def execSafeReadbackSample (j : Fin 2) (high : Bool) (s : State) : Host.Outcome State Fault Refusal := s.on (·.readbackSample j.val high)

end Sys2Proof.Machine
end

