-- ==== Sys2Proof/Machine/Security.lean ====
section
/-!
DEFINITION. Key frames (16_security.md R621 to R623).
-/

namespace Sys2Proof.Machine

namespace Dev

/-- The keys that may serve as KW (R621). -/
def wrapKeys (d : Dev) : List (BitVec 128) :=
  let kt := if d.keys.otp then [transportKey (d.rd R.SYS_ID)] else []
  match d.keys.kp with
  | none => kt
  | some kp => if d.bit F.SEC_STAT_RELEASED then kp :: kt else [kp]

/-- The CMAC of a key frame under KW: SEC_DNONCE stands in place of the counter (R622). -/
def keyFrameBy (d : Dev) (f : Frame) : Option (BitVec 128) := d.wrapKeys.find? (fun kw => frameMac kw f d.keys.dnonce.toNat == f.mac)

/-- Every judged key frame draws a new SEC_DNONCE and writes a security record (R623). -/
def keyFrameDone (d : Dev) (res : Nat) : Dev := ((d.put F.SEC_PROVRES_RES res).drawDnonce).secRecord 2

/-- KP is erased with its slots, KS with it, and ASTOP stands until the next kindling (R623). -/
def eraseKeys (d : Dev) : Dev := (d.eraseKp.dropKs).putB F.SEC_STAT_ASTOP true

/-- A key frame is judged (R623): the device and the STATUS of its response. One that passes its CMAC has passed authentication (R619). -/
def judgeKeyFrame (d : Dev) (f : Frame) : Dev × Nat :=
  match d.keyFrameBy f with
  | none => (d.authFail.keyFrameDone 2, 2)
  | some kw =>
    let ws := wordsOf (f.payload.drop 8)
    let kver := nth ws 4 0
    let op := nth ws 5 0
    let d := d.authPass
    if kver = 0 || (op != 1 && op != 2) then (d.keyFrameDone 3, 0)
    else if op = 2 then (d.eraseKeys.keyFrameDone 1, 0)
    else
      let kp := Aes.decrypt kw (Aes.ofBytes (((f.payload.drop 8).take 16).map BitVec.toNat))
      let d := { d with keys := { d.keys with installing := some (kp, kver) } }
      (d.keyFrameDone 1, 0)

/-- A frame writes the provisioning buffer: a BLKWR of register space that begins in it (R622). -/
def writesProvbuf (f : Frame) : Bool :=
  f.ty == 4 && byteAt f.payload 0 == 0 && decide (R.SEC_PROVBUF 0 ≤ fieldAt f.payload 4 4) && decide (fieldAt f.payload 4 4 ≤ R.SEC_PROVBUF 5)

/-- It writes all six words (R622). -/
def writesSix (f : Frame) : Bool :=
  fieldAt f.payload 4 4 == R.SEC_PROVBUF 0 && fieldAt f.payload 2 2 == 24 && f.payload.length == 32

/-- The payload of a BLKWR response (R340). -/
def blkwrBody (f : Frame) (status : Nat) : List Byte := [BitVec.ofNat 8 status, nth f.payload 0 0] ++ (f.payload.drop 2).take 6

/-- A key frame is consumed and answered, without authentication (R517, R606, R622, R623). -/
def takeKeyFrame (d : Dev) (p : Port) (f : Frame) : Dev :=
  if !d.consumes p f || !writesProvbuf f then d
  else
    let d := (d.event 18 1).frameSeen
    if f.dest = 127 then d
    else
      let answer (d : Dev) (st : Nat) : Dev := d.respond f false (blkwrBody f st)
      if !writesSix f then answer d 7
      else if !f.auth then answer d 2
      else if d.bit F.FLT_STAT_LKO then answer (d.count F.FLT_LKREF_CNT 1) 3
      else
        let (d, st) := d.judgeKeyFrame f
        answer d st

end Dev

/-- KEY_FRAME (R622, R623). -/
def execKeyFrame (p : Port) (f : Frame) (s : State) : Host.Outcome State Fault Refusal := s.on (·.takeKeyFrame p f)

/-- TEST_TOKEN (R625): a write of SEC_TTOKH. -/
def execTestToken (hi : Word) (s : State) : Host.Outcome State Fault Refusal := s.on (·.testToken hi)

/-- SEC_LOCK (R627). -/
def execSecLock (s : State) : Host.Outcome State Fault Refusal := s.on (·.putB F.SEC_STAT_LOCKED true)

/-- GLITCH_DETECT (R626). -/
def execGlitchDetect (s : State) : Host.Outcome State Fault Refusal := s.on (·.alarm 0)

end Sys2Proof.Machine
end

