-- ==== Sys2Proof/Machine/Timing.lean ====
section
/-!
DEFINITION. The commands of time (05_time_and_phase.md): the timebase, phase timing frames, phase models, the reference edges of a head,
compares, captures, and TIME and MODEL between the heads.
-/

namespace Sys2Proof.Machine

namespace Dev

/-- The timebase stands at its last value and wraps with the next tick (R195, R197). -/
def timebaseWraps (d : Dev) : Dev := if d.tb = BitVec.allOnes 48 then d.flag F.TIM_STAT_TBWRAP else d

/-- The period count wraps with the next tick (R218). -/
def countWraps (d : Dev) : Dev :=
  match d.tim.model with
  | none => d
  | some m =>
    let a := (m.phaseAt (d.now * 32)).toNat / 65536
    let b := (m.phaseAt ((d.now + 1) * 32)).toNat / 65536
    if a = 65535 && b = 0 then d.flag F.TIM_PHSTAT_PWRAP else d

/-- A PHSYNC edge at a head (R213, R367): its corrected stamp drives the loop and, when selected, a trigger. -/
def phsyncEdge (d : Dev) (rising : Bool) (step : Nat) : Dev :=
  if !d.isHead then d
  else
    let e := (d.now * 32 + step + 2 ^ 53 - 192) % 2 ^ 53
    let sel := d.get F.TIM_PHCFG_SRC
    let d := if !d.relaysModels && (if rising then sel == 0 else sel == 1) then d.loopEdge e else d
    d.phsyncTrig rising e

/-- A TIME message aligns B0 to A0 (R37, R205); the first after the link returns steps the timebase and clears SOLO. -/
def takeTime (d : Dev) (dep ta : Nat) : Dev :=
  if !(d.isHead && d.isTwin) then d
  else
    let d := if d.bit F.SYS_CLKSTAT_SOLO then
        ({ d with tim := { d.tim with stepNext := true } }).putB F.SYS_CLKSTAT_SOLO false
      else d
    d.timingFrameSeen.alignBy (wrapDiff 60 (ta * 128) (dep * 128 + d.twin.delay))

/-- A MODEL message: B0 holds A0's model for itself and its chain (R212). -/
def takeModel (d : Dev) (m : ModelMsg) : Dev :=
  if !d.relaysModels || m.pinc = 0 then d
  else
    let p : PhaseModel := ⟨m.tb.toNat, m.pc, m.pinc, m.seq, m.locked, m.hold, m.step⟩
    ({ d with loop := { d.loop with issue := some p } }).offerModel p

end Dev

/-- TIMEBASE_WRAP (R195). -/
def execTimebaseWrap (s : State) : Host.Outcome State Fault Refusal := s.on Dev.timebaseWraps

/-- TIMEBASE_READ (R196). -/
def execTimebaseRead (s : State) : Host.Outcome State Fault Refusal :=
  s.on (fun d => (d.readTbl).2.emit (.value R.TIM_TBL (d.readTbl).1))

/-- PHTIM_SEND (R198). -/
def execPhtimSend (s : State) : Host.Outcome State Fault Refusal := s.on Dev.sendPhtim

/-- PHTIM (R200): `ta` and `step` stamp the marker's arrival at the pins. -/
def execPhtim (p : Port) (ta : BitVec 48) (step : BitVec 5) (f : Frame) (s : State) : Host.Outcome State Fault Refusal :=
  s.on (·.takePhtim p (ta.toNat * 32 + step.toNat) f)

/-- MODEL_ACTIVATE (R210). -/
def execModelActivate (s : State) : Host.Outcome State Fault Refusal := s.on Dev.activateModel

/-- TIMING_FRAME_MISS (R204). -/
def execTimingFrameMiss (s : State) : Host.Outcome State Fault Refusal := s.on Dev.timingFrameMiss

/-- PHSYNC_EDGE (R213). -/
def execPhsyncEdge (rising : Bool) (step : BitVec 5) (s : State) : Host.Outcome State Fault Refusal :=
  s.on (·.phsyncEdge rising step.toNat)

/-- PHSYNC_EDGE_MISSED (R216). -/
def execPhsyncEdgeMissed (s : State) : Host.Outcome State Fault Refusal :=
  s.on (fun d => if !d.isHead || d.softSource || d.relaysModels then d else d.loopMiss)

/-- PERIOD_COUNT_WRAP (R218). -/
def execPeriodCountWrap (s : State) : Host.Outcome State Fault Refusal := s.on Dev.countWraps

/-- TIMEBASE_COMPARE_ARM (R219). -/
def execTimebaseCompareArm (n : Fin 4) (w : Word) (s : State) : Host.Outcome State Fault Refusal := s.on (·.writeTcmph n.val w)

/-- PHASE_COMPARE_ARM (R220). -/
def execPhaseCompareArm (n : Fin 4) (w : Word) (s : State) : Host.Outcome State Fault Refusal := s.on (·.writePcmp n.val w)

/-- COMPARE_DISARM (R223). -/
def execCompareDisarm (mask : Byte) (s : State) : Host.Outcome State Fault Refusal := s.on (·.disarmUnits mask.toNat)

/-- TIMEBASE_COMPARE_FIRE (R219). -/
def execTimebaseCompareFire (n : Fin 4) (s : State) : Host.Outcome State Fault Refusal := s.on (·.tcmpFire n.val)

/-- PHASE_COMPARE_FIRE (R221). -/
def execPhaseCompareFire (n : Fin 4) (s : State) : Host.Outcome State Fault Refusal := s.on (·.pcmpFire n.val)

/-- CAPTURE_EVENT (R225). -/
def execCaptureEvent (src : BitVec 3) (step : BitVec 5) (s : State) : Host.Outcome State Fault Refusal :=
  s.on (·.capture src.toNat step.toNat)

/-- CAPTURE_READ (R225). -/
def execCaptureRead (u : Fin 4) (s : State) : Host.Outcome State Fault Refusal :=
  s.on (fun d => (d.readCapl u.val).2.emit (.value (R.TIM_CAPL u.val) (d.readCapl u.val).1))

/-- AUX7_COMPARATOR_EDGE (R227): while the comparator runs, STATE follows it; CAPTURE_EVENT records its edges. -/
def execAux7ComparatorEdge (rising : Bool) (_step : BitVec 5) (s : State) : Host.Outcome State Fault Refusal :=
  s.on (fun d => if d.bit F.TIM_AUXCMP_EN then d.putB F.TIM_AUXCMP_STATE rising else d)

/-- PHASE_MODEL_READ (R231). -/
def execPhaseModelRead (s : State) : Host.Outcome State Fault Refusal :=
  s.on (fun d => (d.readPmbl).2.emit (.value R.TIM_PMBL (d.readPmbl).1))

/-- TIME (R37): `dep` is the departure stamp, `ta` the arrival, in 1/32 ticks. -/
def execTimeMsg (dep ta : BitVec 53) (ok : Bool) (s : State) : Host.Outcome State Fault Refusal :=
  s.on (·.onMsg ok (·.takeTime dep.toNat ta.toNat))

/-- MODEL (R212). -/
def execModelMsg (m : ModelMsg) (ok : Bool) (s : State) : Host.Outcome State Fault Refusal := s.on (·.onMsg ok (·.takeModel m))

/-- CHAIN_TRIGGER_TARGET (R115). -/
def execChainTriggerTarget (s : State) : Host.Outcome State Fault Refusal := s.on Dev.trigTarget

end Sys2Proof.Machine
end

