-- ==== Sys2Proof/Machine/RegAccess.lean ====
section
/-!
DEFINITION. Reads and writes of registers by whoever makes them (R12 to R17, R242, R620, R681): what a read changes, whether a write is
allowed, and what a write of each register does.
-/

namespace Sys2Proof.Machine

namespace Dev

/-! ### Reads -/

/-- A read of FLT_CNT returns the counts and clears them; faults of this cycle count anew (R14, R521). -/
def readFltCnt (d : Dev) : Word × Dev :=
  let v : Word := BitVec.ofNat 32 (d.fltBase.cnt.zipIdx.foldl (fun m p => m + p.1 % 256 * 2 ^ (8 * p.2)) 0)
  let base := { d.fltBase with cnt := List.replicate 4 0 }
  let c := (base.latch d.fltNow (d.tb + 1) d.scopeOf).1
  (v, { d with fltBase := base, flt := { c with scope := d.flt.scope } })

/-- A read of CAL_QEYE: the smallest widths return to 0xFF (R587). -/
def readQeye (d : Dev) : Word × Dev := (d.stored R.CAL_QEYE, (d.put F.CAL_QEYE_UPMIN 0xFF).put F.CAL_QEYE_DNMIN 0xFF)

/-- The RC fields of a register, as a mask. -/
def rcMask (a : Nat) : Word :=
  match descAt a with
  | none => 0
  | some r => r.fields.foldl (fun (v : Word) f => if f.acc == .rc then putBits v ⟨a, f.lo, f.width⟩ (2 ^ f.width - 1) else v) 0

/-- A read whose only effect is on its RC fields (R12, R14). -/
def readPlain (d : Dev) (a : Nat) : Word × Dev :=
  let m := rcMask a
  let x := d.readFields a
  ((d.viewReg a &&& ~~~m) ||| (x.1 &&& m), x.2)

/-- A read of the ACC block: status words and trackers (R170, R179). -/
def readAcc (d : Dev) (a : Nat) : Word × Dev :=
  if a < 0x4CC0 then
    if (a - 0x4000) % 0x18 = 0 then d.readResult ((a - 0x4000) / 0x18) else (d.viewAcc a, d)
  else if a < 0x4EE0 then
    match (a - 0x4CC0) % 16 / 4 with
    | 0 => d.readTrackerA ((a - 0x4CC0) / 16)
    | 1 => d.readTrackerB ((a - 0x4CC0) / 16)
    | _ => (d.viewAcc a, d)
  else if 0x4F50 ≤ a && a < 0x4FB0 && (a - 0x4F50) % 0x18 == 0 then d.readResult (136 + (a - 0x4F50) / 0x18)
  else d.readPlain a

/-- A read of a register with its side effects: the shadows it latches and the RC fields it clears (R12, R14). -/
def readReg (d : Dev) (a : Nat) : Word × Dev :=
  if (descAt a).isNone || d.inactive a then (0, d)
  else if a / 4096 = 4 then d.readAcc a
  else if a = R.CHN_TOKL then d.readTokl
  else if a = R.CONV_TSL then d.readTsl
  else if a = R.TIM_TBL then d.readTbl
  else if a = R.TIM_PMBL then d.readPmbl
  else if a = R.FLT_CNT then d.readFltCnt
  else if a = R.PRF_CYCL then d.readCycl
  else if a = R.CAL_QEYE then d.readQeye
  else if a = R.LOG_HEADSEQL then d.readSeq false
  else if a = R.LOG_TAILSEQL then d.readSeq true
  else if a = R.TWN_CCRAW 0 then d.readCcraw
  else match onSeries a (R.TIM_CAPL 0) 4 16, onSeries a (R.FLT_FSTL 0) 4 16, onSeries a (R.PRF_PMC 0) 6 8,
      onSeries a (R.PRF_TAG0 0) 8 0x18 with
    | some u, _, _, _ => d.readCapl u
    | _, some l, _, _ => d.readFstl l
    | _, _, some n, _ => d.readPmc n
    | _, _, _, some r => d.readTag r
    | _, _, _, _ => d.readPlain a

/-! ### Who may write -/

/-- A register of a block that R242 reserves to authenticated frames. -/
def authOnly (a : Nat) : Bool :=
  (descAt a).isSome &&
  (a / 4096 == 6 || a / 4096 == 9 || a == R.SYS_PWRCTL || a == R.SYS_RSTCMD || (decide (R.SEQ_BANK ≤ a) && decide (a < R.SEQ_MBOX 0)) ||
    (decide (0xD000 ≤ a) && decide (a ≤ R.CAL_META)) || [R.CAL_CMD, R.CAL_UNLOCK, R.CAL_CHECK, R.LOG_ERASE].contains a)

/-- A write of this word needs an authenticated frame (R242, R403, R523, R546, R620, R681). -/
def needsAuth (d : Dev) (a : Nat) (w : Word) : Bool :=
  authOnly a || [R.BAL_CMD, R.BAL_HOCTL, R.TWN_CFG, R.TWN_TOL, R.TWN_CCCFG].contains a || (onSeries a (R.BAL_XCTL 0) 4 0x20).isSome ||
    (a == R.BST_CTL && (w.getLsbD 8 || (w.getLsbD 4 && d.get F.BST_DCFG_KIND == 3)))

/-- The register has a WL field and its block is locked (R15, R681). -/
def lockedReg (d : Dev) (a : Nat) : Bool :=
  ((decide (R.GRD_OVEN ≤ a) && decide (a ≤ R.GRD_CFGCRC)) || [R.TWN_CFG, R.TWN_TOL, R.TWN_CCCFG].contains a) && d.bit F.GRD_STAT_LOCKED ||
  a == R.SEC_POLICY && d.bit F.SEC_STAT_LOCKED ||
  ((decide (0xD000 ≤ a) && decide (a ≤ R.CAL_META)) || a == R.CAL_CHECK) && d.bit F.CAL_STAT_LOCKED

/-! ### What a write does, block by block -/

/-- SYS (R605, R608, R590, R600): RELEASE, then WAKE, then SLEEP. -/
def writeSys (d : Dev) (a : Nat) (w : Word) : Dev :=
  if a = R.SYS_PWRCTL then
    let d := if w.getLsbD 1 then d.releaseUnit else d
    let d := if w.getLsbD 2 then d.wakeChain else d
    if w.getLsbD 0 then d.sleepCmd else d
  else if a = R.SYS_RSTCMD then d.warmReset w
  else d.writeFields a w false

/-- CHN (R367, R383, R391). -/
def writeChn (d : Dev) (a : Nat) (w : Word) : Dev :=
  if a = R.CHN_HEAL then d.takeNotice w
  else if a = R.CHN_TRIGH then d.writeTrigh w
  else if a = R.CHN_KCTL then d.writeKctl w
  else d.writeFields a w false

/-- SEQ (R245, R295, R296, R302). -/
def writeSeq (d : Dev) (by_ : By) (a : Nat) (w : Word) : Dev :=
  if a = R.SEQ_GRANT then d.writeGrant by_ w
  else if a = R.SEQ_DOOR then d.writeDoor w
  else if a = R.SEQ_LDCTL then (if w.getLsbD 0 then d.abortLoad else d)
  else if a = R.SEQ_RUNVER then { d with load := { d.load with runVer := w } }
  else if a = R.SEQ_RUN then d.requestRun (bitsOf w.toNat 0 2) d.load.runVer (bitsOf w.toNat 16 16)
  else d.writeFields a w false

/-- CONV (R110, R115, R116, R124): of the bits of CONV_CMD, ARM acts first, then DISARM, STOP and GO. -/
def writeConv (d : Dev) (a : Nat) (w : Word) : Dev :=
  if a = R.CONV_CMD then
    let d := if w.getLsbD 1 then { d with conv := { d.conv with armed := true } } else d
    let d := if w.getLsbD 2 then { d with conv := { d.conv with armed := false } } else d
    let d := if w.getLsbD 3 then d.stopSweep else d
    if w.getLsbD 0 then d.softwareTrigger.2 else d
  else if a = R.CONV_INJ then d.writeInj w
  else d.writeFields a w false

/-- ACC (R175, R179, R193). -/
def writeAcc (d : Dev) (a : Nat) (w : Word) : Dev :=
  if a = R.ACC_CMD then
    let d := d.restartDrawers (bitsOf w.toNat 0 4)
    let d := if w.getLsbD 4 then d.clearTrackers else d
    if w.getLsbD 5 then d.dropExcs else d
  else d.writeDrawerConfig a w

/-- BAL (R402, R410, R421, R427). -/
def writeBal (d : Dev) (by_ : By) (a : Nat) (w : Word) : Dev :=
  if a = R.BAL_CTL then
    let d := d.writeFields a w false
    if w.getLsbD 31 then d.clearQcell else d
  else if a = R.BAL_CMD then d.writeBalCmd by_ w
  else if a = R.BAL_HOCTL then d.writeHoctl by_ w
  else match onSeries a (R.BAL_XCTL 0) 4 0x20 with
    | some k => d.writeXctl by_ k w
    | none => d.writeFields a w false

/-- GRD (R446, R451, R457, R474, R475): of the bits of GRD_SAFECTL, DEM acts first and wins over ACK (R492), then ON. -/
def writeGrd (d : Dev) (a : Nat) (w : Word) : Dev :=
  if a = R.GRD_PAIRSET then d.pairset w
  else if a = R.GRD_CTL then (if w.getLsbD 0 then d.lockGuard else d)
  else if a = R.GRD_GLATCH then d.clearGuard w
  else if a = R.GRD_SAFECTL then
    let d := if w.getLsbD 16 then d.safeDemandBy 4 else if w.getLsbD 8 then d.safeAckCmd else d
    d.safeOnCmd (bitsOf w.toNat 0 2)
  else d.writeFields a w false

/-- TIM (R219, R220, R223). -/
def writeTim (d : Dev) (a : Nat) (w : Word) : Dev :=
  if a = R.TIM_CMPCTL then d.disarmUnits (bitsOf w.toNat 0 8)
  else match onSeries a (R.TIM_TCMPL 0) 4 16, onSeries a (R.TIM_TCMPH 0) 4 16, onSeries a (R.TIM_PCMP 0) 4 8 with
    | some n, _, _ => d.writeTcmpl n w
    | _, some n, _ => d.writeTcmph n w
    | _, _, some n => d.writePcmp n w
    | _, _, _ => d.writeFields a w false

/-- FLT (R513, R518). -/
def writeFlt (d : Dev) (by_ : By) (a : Nat) (w : Word) : Dev :=
  if a = R.FLT_ACK then d.fltAckCmd by_ w
  else if a = R.FLT_UNLOCK then d.fltUnlockCmd w
  else d.writeFields a w false

/-- SEC (R625, R627): the provisioning buffer takes key frames only (R622). -/
def writeSec (d : Dev) (a : Nat) (w : Word) : Dev :=
  if a = R.SEC_CTL then (if w.getLsbD 0 then d.putB F.SEC_STAT_LOCKED true else d)
  else if a = R.SEC_TTOKL then { d with keys := { d.keys with tokL := w } }
  else if a = R.SEC_TTOKH then d.testToken w
  else d.writeFields a w false

/-- CHK (R553, R555, R562): of the bits of CHK_CMD, STOP acts before GO; a scan that has read its last byte completes instead. -/
def writeChk (d : Dev) (a : Nat) (w : Word) : Dev :=
  if a = R.CHK_CMD then
    let d := if w.getLsbD 1 then (if d.get F.CHK_REM_REM = 0 then d.chkComplete else d.chkEnd 2) else d
    if w.getLsbD 0 then (d.chkStart (bitsOf w.toNat 3 2) (w.getLsbD 2) false).2 else d
  else if a = R.CHK_RUN && d.bit F.CHK_STAT_BUSY then d
  else d.writeFields a w false

/-- BST (R522, R533, R544, R546): of the bits of BST_CTL, those that stop act before those that start. -/
def writeBst (d : Dev) (by_ : By) (a : Nat) (w : Word) : Dev :=
  if a = R.BST_CTL then
    let d := if w.getLsbD 1 then d.memStop else d
    let d := if w.getLsbD 5 then d.abortDiag 10 else d
    let d := if w.getLsbD 0 then { d with bist := { d.bist with single := true, memNext := d.mFirst } } else d
    let d := if w.getLsbD 4 then d.diagGo by_ else d
    if w.getLsbD 8 && by_ == By.auth then d.logicBistCmd else d
  else d.writeFields a w false

/-- PRF (R668, R673, R675): a freeze by overflow stands against a write of the same cycle. -/
def writePrf (d : Dev) (a : Nat) (w : Word) : Dev :=
  if a = R.PRF_CTL then
    let hw := d.touch.any (fun t => t.addr == a && t.mask.getLsbD 8)
    let d := d.writeFields a w false
    let d := if hw then d.putB F.PRF_CTL_FRZ true else d
    if w.getLsbD 31 then d.prfClear else d
  else d.writeFields a w false

/-- CAL (R565, R576 to R580): of the bits of CAL_CMD, RUN acts first, then COMMIT, LOAD and LOCK (R583). -/
def writeCal (d : Dev) (a : Nat) (w : Word) : Dev :=
  if (factorIndex (a % 4096)).isSome then d.calShadowWrite a w
  else if a = R.CAL_CMD then
    let d := if w.getLsbD 0 then d.calRun else d
    let d := if w.getLsbD 1 then d.calCommit (bitsOf w.toNat 4 2) else d
    let d := if w.getLsbD 3 then d.calLoad else d
    if w.getLsbD 2 then d.putB F.CAL_STAT_LOCKED true else d
  else if a = R.CAL_UNLOCK then d.calUnlock w
  else if a = R.CAL_SNAP then (if w.getLsbD 0 then d.calSnapshot else d)
  else d.writeFields a w false

/-- LOG (R638, R641, R652, R654): of the bits of LOG_RDCTL, STOP acts before GO. -/
def writeLog (d : Dev) (a : Nat) (w : Word) : Dev :=
  if a = R.LOG_CTL then (if w.getLsbD 0 then d.closeSegment else d)
  else if a = R.LOG_ERASE then d.eraseCmd w
  else if a = R.LOG_UTC then d.writeUtc w
  else if a = R.LOG_RDCTL then
    let d := d.writeFields a w false
    let d := if w.getLsbD 1 then d.endStream 3 else d
    if w.getLsbD 0 then d.streamGo else d
  else d.writeFields a w false

/-- TWN (R458, R462). -/
def writeTwn (d : Dev) (a : Nat) (w : Word) : Dev :=
  let d := d.writeFields a w false
  if a = R.TWN_DIFF then d.clearDiff (w &&& ~~~d.rd a) else if a = R.TWN_CFG then d.updateCompare else d

/-- What a write that is allowed does. -/
def writeOp (d : Dev) (by_ : By) (a : Nat) (w : Word) : Dev :=
  match a / 4096 with
  | 0 => d.writeSys a w
  | 1 => d.writeChn a w
  | 2 => d.writeSeq by_ a w
  | 3 => d.writeConv a w
  | 4 => d.writeAcc a w
  | 5 => d.writeBal by_ a w
  | 6 => d.writeGrd a w
  | 7 => d.writeTim a w
  | 8 => d.writeFlt by_ a w
  | 9 => d.writeSec a w
  | 10 => d.writeChk a w
  | 11 => d.writeBst by_ a w
  | 12 => d.writePrf a w
  | 13 => d.writeCal a w
  | 14 => d.writeLog a w
  | 15 => d.writeTwn a w
  | _ => d

/-- A write of a register, with the STATUS that a chain request would be answered with (R15, R17, R339): nothing at an unimplemented
offset; AUTH without effect where authentication is required and absent; nothing where Hearth may not write (R242) or where the register is inactive in the role; LOCKED and
the alarm where a WL field is locked; else what the register does. A plain FLT_ACK of L2 acknowledges the other levels and answers AUTH
(R514). -/
def writeReg (d : Dev) (by_ : By) (a : Nat) (w : Word) : Nat × Dev :=
  if (descAt a).isNone then (0, d)
  else if by_ == By.plain && d.needsAuth a w then (2, d)
  else if by_ == By.hearth && (authOnly a || (a == R.BST_CTL && w.getLsbD 8)) then (0, d)
  else if d.inactive a then (0, d)
  else if d.lockedReg a then (5, d.lockedWrite)
  else (if a == R.FLT_ACK && w.getLsbD 2 && by_ == By.plain then 2 else 0, d.writeOp by_ a w)

end Dev

/-- The SRAMs after a write: a warm reset initialises them anew (R608). -/
def Mems.afterWrite (m : Mems) (a : Nat) (w : Word) : Mems :=
  if a = R.SYS_RSTCMD && w = 0x52535421 then { m with prog := [], data := [] } else m

end Sys2Proof.Machine
end

