-- ==== Sys2Proof/Machine/ImviaReg.lean ====
section
/-!
DEFINITION. LDR and STR: Hearth's register port (R237, R240 to R243, R666).
-/

namespace Sys2Proof.Machine

namespace Dev

/-- The register address of LDR and STR (R240). -/
def regAddr (d : Dev) (ra : BitVec 4) (imm : BitVec 18) : Nat := (d.w ra + imm18s imm).toNat % 65536

/-- User code holds the grant for a block: SEQ and SEC never (R237). -/
def blockGrant (d : Dev) (a : Nat) : Bool := (d.get F.SEQ_GRANT_BLK).testBit (a / 4096) && a / 4096 != 2 && a / 4096 != 9

/-- User code may read this register of the PRF block (R666). -/
def prfGrant (d : Dev) (a : Nat) : Bool :=
  if a / 4096 != 12 then true
  else if a = R.PRF_CYCL || a = R.PRF_CYCH then d.bit F.PRF_UEN_CYC
  else if 0xC080 ≤ a && a < 0xC140 then d.bit F.PRF_UEN_TAG
  else match onSeries a (R.PRF_PMC 0) 6 8 with
    | some n => d.bitAt F.PRF_UEN_RD n
    | none => true

/-- What stops an LDR (R237, R240, R666). -/
def ldrCheck (d : Dev) (a : Nat) : Option Exc :=
  if a % 4 != 0 then some (Exc.addr (BitVec.ofNat 32 a))
  else if d.hearth.user && !(d.blockGrant a && d.prfGrant a) then some (Exc.priv (BitVec.ofNat 32 a))
  else none

/-- A write of a BAL command register by user code needs the instruction grant too (R403). -/
def balPort (a : Nat) : Bool := [R.BAL_CMD, R.BAL_HOCTL].contains a || (onSeries a (R.BAL_XCTL 0) 4 0x20).isSome

/-- What stops an STR of a word (R237, R240, R242, R403, R666). -/
def strCheck (d : Dev) (a : Nat) (w : Word) : Option Exc :=
  if a % 4 != 0 then some (Exc.addr (BitVec.ofNat 32 a))
  else if authOnly a || (a == R.BST_CTL && w.getLsbD 8) then some (Exc.priv (BitVec.ofNat 32 a))
  else if d.hearth.user && (!d.blockGrant a || a / 4096 == 12 || (balPort a && !d.bit F.SEQ_GRANT_BAL)) then
    some (Exc.priv (BitVec.ofNat 32 a))
  else none

/-- A write by Hearth reaches its register (R241, R661). -/
def portWrite (d : Dev) (x : BitVec 16 × Word) : Dev := (d.writeReg By.hearth x.1.toNat x.2).2.event 5 1

/-- The oldest posted write reaches its register (R241). -/
def drainOne (d : Dev) : Dev :=
  match d.hearth.wbuf with
  | [] => d
  | x :: t => ({ d with hearth := { d.hearth with wbuf := t } } : Dev).portWrite x

/-- Every posted write reaches its register, in order (R241). -/
def drainAll (d : Dev) : Dev := d.drainOne.drainOne

/-- The effect of an LDR at an address (R240, R241). -/
def loadReg (d : Dev) (rd : BitVec 4) (a : Nat) : Except Exc Dev := do
  need (d.ldrCheck a)
  let (v, d) := (d.drainAll.event 5 1).readReg a
  return d.setW rd v

/-- The effect of an STR: posted, the oldest entry of a full buffer leaving first; a write to the SEQ block reaches it at once (R241). -/
def storeReg (d : Dev) (a : Nat) (w : Word) : Except Exc Dev := do
  need (d.strCheck a w)
  if a / 4096 = 2 then return d.drainAll.portWrite (BitVec.ofNat 16 a, w)
  else
    let d := if d.hearth.wbuf.length < 2 then d else d.drainOne
    return { d with hearth := { d.hearth with wbuf := d.hearth.wbuf ++ [(BitVec.ofNat 16 a, w)] } }

end Dev

/-- LDR (R240, R241): three cycles after the buffer has drained, at an entry a cycle. -/
def execLdr (rd ra : BitVec 4) (imm : BitVec 18) (s : State) : Host.Outcome State Fault Refusal :=
  s.on (fun d => d.issueNext (3 + d.hearth.wbuf.length) (fun d => d.loadReg rd (d.regAddr ra imm)))

/-- STR (R240, R241): one cycle, two to the SEQ block. -/
def execStr (rs ra : BitVec 4) (imm : BitVec 18) (s : State) : Host.Outcome State Fault Refusal :=
  s.on (fun d => d.issueNext (if d.regAddr ra imm / 4096 = 2 then 2 else 1) (fun d => d.storeReg (d.regAddr ra imm) (d.w rs)))

end Sys2Proof.Machine
end

