-- ==== Sys2Proof/Machine/Power.lean ====
section
/-!
DEFINITION. The commands of reset, start-up and supply (01_architecture.md, 02_package_pins_electrical.md): each of them comes from a pin, a comparator
or the start-up schedule.
-/

namespace Sys2Proof.Machine

/-- POWER_ON_RESET (R5, R608): three samples of each strap. -/
def execPowerOnReset (head0 head1 head2 twin0 twin1 twin2 : Bool) (s : State) : Host.Outcome State Fault Refusal :=
  let same (a b c : Bool) : Bool := a == b && b == c
  s.onPower (fun m d => (m, d.powerOn (Dev.majority head0 head1 head2) (Dev.majority twin0 twin1 twin2)
    (!(same head0 head1 head2 && same twin0 twin1 twin2))))

/-- STARTUP_REGULATOR_START (R85, R91): HVG drives the buck on a member; a head's start-up regulator stays off. -/
def execStartupRegulatorStart (s : State) : Host.Outcome State Fault Refusal :=
  s.onPower (fun m d => (m, if d.isHead then d else { d with power := { d.power with hvg := true, buck := true } }))

/-- VBUS_RISE (R85): the count of 200 µs to reset release starts. -/
def execVbusRise (s : State) : Host.Outcome State Fault Refusal :=
  s.onPower (fun m d => (m, if d.power.released || d.power.vbusRose.isSome then d
    else { d with power := { d.power with vbusRose := some d.cycle } }))

/-- RESET_RELEASE (R55): `otpOk` is the OTP's CRC. SRAM is written with valid codewords. -/
def execResetRelease (otpOk : Bool) (s : State) : Host.Outcome State Fault Refusal :=
  s.onPower (fun m d =>
    let n := d.coldRelease otpOk
    (if n.power.released && !d.power.released then { m with prog := [], data := [] } else m, n))

/-- FIREGUARD_ARM (R32). -/
def execFireguardArm (s : State) : Host.Outcome State Fault Refusal := s.on Dev.guardArm

/-- VTREF_ENABLE (R65): 0.1 ms after reset release. -/
def execVtrefEnable (s : State) : Host.Outcome State Fault Refusal :=
  s.on (fun d => if d.sinceRelease 10000 then { d with power := { d.power with vtref := true } } else d)

/-- TWIN_TX_ENABLE (R65): 0.35 ms after reset release; a wake turns it on with its clocks (R601). -/
def execTwinTxEnable (s : State) : Host.Outcome State Fault Refusal :=
  s.on (fun d => if d.sinceRelease 35000 && d.power.wakeIdle.isNone then { d with power := { d.power with twinTx := true } } else d)

/-- HEAD_TX_ENABLE (R59, R60). -/
def execHeadTxEnable (s : State) : Host.Outcome State Fault Refusal := s.on Dev.headTransmit

/-- RC_WINDOW_END (R39). -/
def execRcWindowEnd (inRange : Bool) (s : State) : Host.Outcome State Fault Refusal := s.on (·.rcWindow inRange)

/-- MAIN_OSC_FAIL (R39). -/
def execMainOscFail (s : State) : Host.Outcome State Fault Refusal := s.on (·.putB F.SYS_CLKSTAT_MAINOK false)

/-- FREQ_WINDOW_END (R34): `within` says that the error lies within ±10 ppm. -/
def execFreqWindowEnd (within : Bool) (s : State) : Host.Outcome State Fault Refusal := s.on (·.freqWindow within)

/-- LINE_ACTIVITY_LOST (R35). -/
def execLineActivityLost (s : State) : Host.Outcome State Fault Refusal := s.on Dev.lineLost

/-- SOLO_TIMEOUT (R37). -/
def execSoloTimeout (s : State) : Host.Outcome State Fault Refusal := s.on Dev.soloTimeout

/-- SCRUB_STEP (R43). -/
def execScrubStep (e : Ecc) (s : State) : Host.Outcome State Fault Refusal := s.on (·.scrub e)

/-- SAFE_CURRENT_LIMIT_TRIP (R81). -/
def execSafeCurrentLimitTrip (out : Fin 2) (s : State) : Host.Outcome State Fault Refusal := s.on (·.safeTrip out.val)

/-- VBUS_POWER_FAIL (R87). -/
def execVbusPowerFail (s : State) : Host.Outcome State Fault Refusal := s.onAny Dev.powerFails

/-- VBUS_RECOVER (R643). -/
def execVbusRecover (s : State) : Host.Outcome State Fault Refusal := s.onAny Dev.powerRecovers

/-- VBUS_UNDERVOLTAGE (R588): Off; SRAM loses its contents. -/
def execVbusUndervoltage (s : State) : Host.Outcome State Fault Refusal :=
  s.onPower (fun m d => ({ m with prog := [], data := [] }, d.off))

/-- VBUS_HIGH (R89, R412). -/
def execVbusHigh (s : State) : Host.Outcome State Fault Refusal := s.on Dev.busHigh

/-- VBUS_OVERVOLTAGE (R85, R499). -/
def execVbusOvervoltage (s : State) : Host.Outcome State Fault Refusal :=
  s.on (fun d => ({ d with power := { d.power with overV := true } }).post 5 2 3 0)

/-- BUCK_THRESHOLD (R85, R90): a member's buck follows its own thresholds in every state. -/
def execBuckThreshold (on : Bool) (s : State) : Host.Outcome State Fault Refusal :=
  s.onPower (fun m d => (m, if d.isHead then d else { d with power := { d.power with buck := on } }))

/-- REGULATOR_FAULT (R499): 0 VREG5, 1 VDD12. -/
def execRegulatorFault (rail : Fin 2) (s : State) : Host.Outcome State Fault Refusal :=
  s.on (·.post 5 2 5 (BitVec.ofNat 32 rail.val))

/-- DIE_TEMP_BAL_STOP (R97). -/
def execDieTempBalStop (s : State) : Host.Outcome State Fault Refusal := s.on Dev.tempStops

/-- DIE_TEMP_BAL_RESUME (R97). -/
def execDieTempBalResume (s : State) : Host.Outcome State Fault Refusal := s.on Dev.tempResumes

/-- DIE_TEMP_SUPPLY (R97). -/
def execDieTempSupply (s : State) : Host.Outcome State Fault Refusal := s.on Dev.tempSupply

end Sys2Proof.Machine
end

