-- ==== Sys2Proof/Machine/RegFrames.lean ====
section
/-!
DEFINITION. Register and block requests (09_chain_transactions.md R337 to R340, R517, R606), and the frames that a head's host sends
(R359, R377).
-/

namespace Sys2Proof.Machine

namespace Dev

/-- A write by a request: the provisioning buffer takes key frames only (R622). -/
def frameWrite (d : Dev) (authd : Bool) (a : Nat) (w : Word) : Nat × Dev :=
  if a % 4 != 0 || decide (0x10000 ≤ a) then (1, d)
  else if authd && decide (R.SEC_PROVBUF 0 ≤ a) && decide (a ≤ R.SEC_PROVBUF 5) then (7, d)
  else d.writeReg (if authd then By.auth else By.plain) a w

/-- The registers whose REGWR Lockout acts on (R517, R653). -/
def lockoutWrites : List Nat := [R.LOG_RDSTART, R.LOG_RDLEN, R.LOG_RDCTL, R.FLT_UNLOCK, R.SYS_RSTCMD]

/-- The register address of a REGRD or REGWR (R340). -/
def reqAddr (f : Frame) : Nat := fieldAt f.payload 0 2

/-- The first four bytes of a REGRD or REGWR response (R340). -/
def regBody (f : Frame) (status : Nat) : List Byte := [BitVec.ofNat 8 status, 0, nth f.payload 0 0, nth f.payload 1 0]

/-- REGRD (R340, R517, R606). -/
def regrd (p : Port) (f : Frame) (m : Mems) (d : Dev) : Mems × Dev :=
  let a := reqAddr f
  let shown := a / 4096 == 0 || a / 4096 == 1 || a / 4096 == 9 || a / 4096 == 15 || a == R.FLT_STAT
  if f.ty != 1 then (m, d)
  else
    d.onRequest m p f ⟨false, false, [4]⟩ true shown false (fun _ st => regBody f st ++ beBytes 4 0) (fun m d _ =>
      if a % 4 != 0 then ((m, d), regBody f 1 ++ beBytes 4 0)
      else ((m, (d.readReg a).2), regBody f 0 ++ wordBytes (d.readReg a).1))

/-- REGWR (R340, R457, R517, R606, R653). -/
def regwr (p : Port) (f : Frame) (m : Mems) (d : Dev) : Mems × Dev :=
  let a := reqAddr f
  let w : Word := BitVec.ofNat 32 (fieldAt f.payload 4 4)
  if f.ty != 2 then (m, d)
  else
    d.onRequest m p f ⟨false, true, [8]⟩ (lockoutWrites.contains a) (a == R.GRD_PAIRSET && f.auth) false (fun _ st => regBody f st)
      (fun m d authd =>
        let (st, d) := d.frameWrite authd a w
        ((if st = 0 then m.afterWrite a w else m, d), regBody f st))

/-- The space, count and address of a block request (R340). -/
def blkSpace (f : Frame) : Nat := byteAt f.payload 0
def blkCount (f : Frame) : Nat := fieldAt f.payload 2 2
def blkAddr (f : Frame) : Nat := fieldAt f.payload 4 4

/-- COUNT is valid: 4 to 248 bytes in multiples of 4 (R340). -/
def countOk (n : Nat) : Bool := decide (4 ≤ n) && decide (n ≤ 248) && n % 4 == 0

/-- The end of a space (R238, R633). -/
def spaceEnd (sp : Nat) : Nat := match sp with
  | 0 => 0x10000
  | 1 => 0x20000
  | 2 => 0xF0000000
  | _ => 0

/-- Registers read one after another, in ascending order (R340). -/
def readRegs (d : Dev) (a : Nat) : Nat → List Byte × Dev
  | 0 => ([], d)
  | n + 1 =>
    let (w, d) := d.readReg a
    let (l, d) := d.readRegs (a + 4) n
    (wordBytes w ++ l, d)

/-- The data of a BLKRD (R340, R652). -/
def blockData (d : Dev) (m : Mems) (sp a n : Nat) : List Byte × Dev :=
  match sp with
  | 0 => d.readRegs a (n / 4)
  | 1 => (Store.readAll Mems.dataDflt m.data a n, d)
  | _ => (d.logBytes m a n, d)

/-- The STATUS of a BLKRD's COUNT, SPACE and ADDR (R339, R340). -/
def blkrdStatus (f : Frame) : Nat :=
  if !countOk (blkCount f) then 7
  else if blkAddr f % 4 != 0 || decide (spaceEnd (blkSpace f) < blkAddr f + blkCount f) then 1
  else 0

/-- BLKRD (R340, R517): an error response carries no data. -/
def blkrd (p : Port) (f : Frame) (m : Mems) (d : Dev) : Mems × Dev :=
  if f.ty != 3 then (m, d)
  else
    d.onRequest m p f ⟨false, false, [8]⟩ (blkSpace f == 0 || blkSpace f == 2) false false (fun _ st => blkwrBody f st) (fun m d _ =>
      if blkrdStatus f != 0 then ((m, d), blkwrBody f (blkrdStatus f))
      else
        let (l, d) := d.blockData m (blkSpace f) (blkAddr f) (blkCount f)
        ((m, d), blkwrBody f 0 ++ l))

/-- Words written one after another up to the first that fails (R340); a warm reset ends the device's part in the request. -/
def writeWords (m : Mems) (d : Dev) (sp a : Nat) (authd : Bool) : List Word → (Mems × Dev) × Nat
  | [] => ((m, d), 0)
  | w :: t =>
    if sp = 0 then
      match d.frameWrite authd a w with
      | (0, d) => if d.power.releasedAt = d.cycle then ((m.afterWrite a w, d), 0) else writeWords m d sp (a + 4) authd t
      | (st, d) => ((m, d), st)
    else if sp != 1 || a % 4 != 0 || decide (0x20000 < a + 4) then ((m, d), 1)
    else writeWords (m.store a 4 w.toNat) d sp (a + 4) authd t

/-- BLKWR (R338, R340), but for key frames (R622). -/
def blkwr (p : Port) (f : Frame) (m : Mems) (d : Dev) : Mems × Dev :=
  if f.ty != 4 then (m, d)
  else if writesProvbuf f then (m, d.takeKeyFrame p f)
  else
    d.onRequest m p f ⟨false, true, if countOk (blkCount f) then [8 + blkCount f] else []⟩ false false false (fun _ st => blkwrBody f st)
      (fun m d authd =>
        let (x, st) := writeWords m d (blkSpace f) (blkAddr f) authd (wordsOf (f.payload.drop 8))
        (x, blkwrBody f st))

/-- A PLOAD frame by its kind (R341). -/
def ploadAny (p : Port) (f : Frame) (m : Mems) (d : Dev) : Mems × Dev :=
  match byteAt f.payload 0 with
  | 1 => Dev.pload 1 68 p f (fun m d => (m, d.openLoad (wordsOf (f.payload.drop 4)))) m d
  | 2 => Dev.pload 2 132 p f (fun m d => Dev.dataLoad m d (fieldAt f.payload 2 2) (wordsOf (f.payload.drop 4))) m d
  | 3 => Dev.pload 3 20 p f (fun m d => (m, d.closeLoad (f.payload.drop 4))) m d
  | _ => Dev.pload 4 4 p f (fun m d => (m, d.abortLoad)) m d

/-- A frame that the host addressed to its own head is consumed as if it had come from the chain (R377). -/
def takeOwn (f : Frame) (m : Mems) (d : Dev) : Mems × Dev :=
  match f.ty.toNat with
  | 1 => regrd .dn f m d
  | 2 => regwr .dn f m d
  | 3 => blkrd .dn f m d
  | 4 => blkwr .dn f m d
  | 5 => ploadAny .dn f m d
  | 6 => runFrame (byteAt f.payload 0 % 4) .dn f m d
  | _ => (m, d.takeReport .dn f true)

/-- A frame puts every member of a chain to sleep (R590): the authenticated broadcast write of SYS_PWRCTL.SLEEP. -/
def sleepsAll (f : Frame) : Bool :=
  f.ty == 2 && f.dest == 127 && f.auth && reqAddr f == R.SYS_PWRCTL && (fieldAt f.payload 4 4).testBit 0

/-- REQUEST_SEND (R359, R377, R590). -/
def requestNext (m : Mems) (d : Dev) : Mems × Dev :=
  let next := d.chain.htx.find? d.mayRequest
  match d.sendRequest with
  | (some f, n) => takeOwn f m n
  | (none, n) =>
    if n.chain.htx.length < d.chain.htx.length && (next.map sleepsAll).getD false then (m, { n with twin := { n.twin with pairs := [] } })
    else (m, n)

end Dev

/-- REGRD (R340). -/
def execRegrd (p : Port) (f : Frame) (s : State) : Host.Outcome State Fault Refusal := s.onM (Dev.regrd p f)

/-- REGWR (R340). -/
def execRegwr (p : Port) (f : Frame) (s : State) : Host.Outcome State Fault Refusal := s.onM (Dev.regwr p f)

/-- BLKRD (R340). -/
def execBlkrd (p : Port) (f : Frame) (s : State) : Host.Outcome State Fault Refusal := s.onM (Dev.blkrd p f)

/-- BLKWR (R340). -/
def execBlkwr (p : Port) (f : Frame) (s : State) : Host.Outcome State Fault Refusal := s.onM (Dev.blkwr p f)

/-- REQUEST_SEND (R359). -/
def execRequestSend (s : State) : Host.Outcome State Fault Refusal := s.onM Dev.requestNext

end Sys2Proof.Machine
end

