-- ==== Sys2Proof/Machine/Sleep.lean ====
section
/-!
DEFINITION. The commands of Banked sleep, waking and the ember watch, and the warm reset (15_power_states_sleep.md).
-/

namespace Sys2Proof.Machine

/-- COMM_TIMEOUT (R589). -/
def execCommTimeout (s : State) : Host.Outcome State Fault Refusal := s.on Dev.commExpired

/-- SLEEP (R590): an authenticated write of SYS_PWRCTL.SLEEP. -/
def execSleep (s : State) : Host.Outcome State Fault Refusal := s.onAny Dev.sleepCmd

/-- RELEASE (R605): an authenticated write of SYS_PWRCTL.RELEASE. -/
def execRelease (s : State) : Host.Outcome State Fault Refusal := s.on Dev.releaseUnit

/-- WAKE (R600): a write of SYS_PWRCTL.WAKE by the host. -/
def execWake (s : State) : Host.Outcome State Fault Refusal := s.on Dev.wakeChain

/-- BANKED_ENTRY_COMPLETE (R591). -/
def execBankedEntryComplete (s : State) : Host.Outcome State Fault Refusal := s.on Dev.bankedComplete

/-- HEAD_WAKE_PHTIM_START (R600). -/
def execHeadWakePhtimStart (s : State) : Host.Outcome State Fault Refusal := s.on Dev.wakePhtim

/-- EMBER_CHECK (R595): the means of the cells by index, and those of AUX0 to AUX3 and the die temperature. -/
def execEmberCheck (cells aux : List (BitVec 16)) (s : State) : Host.Outcome State Fault Refusal :=
  s.onAny (·.emberCheck (cells.map BitVec.toNat) (aux.map BitVec.toNat))

/-- EMBER_CHECK_END (R595). -/
def execEmberCheckEnd (s : State) : Host.Outcome State Fault Refusal := s.onAny Dev.emberEnd

/-- WAKE_TONE_RELAY (R597). -/
def execWakeToneRelay (p : Port) (s : State) : Host.Outcome State Fault Refusal := s.onAny (·.relayTone p)

/-- WAKE_TONE_HEAD (R598). -/
def execWakeToneHead (p : Port) (s : State) : Host.Outcome State Fault Refusal := s.onAny (·.headTone p)

/-- LINE_TRAFFIC_WAKE (R599): members wake by traffic, 1 on DN and 2 on UP. -/
def execLineTrafficWake (p : Port) (s : State) : Host.Outcome State Fault Refusal :=
  s.onAny (fun d => if d.isHead then d else d.wake (match p with
    | .dn => 1
    | .up => 2))

/-- CSN_WAKE (R599): heads. -/
def execCsnWake (s : State) : Host.Outcome State Fault Refusal := s.onAny (fun d => if d.isHead then d.wake 5 else d)

/-- WARM_RESET (R608): SRAM is initialised anew. -/
def execWarmReset (w : Word) (s : State) : Host.Outcome State Fault Refusal :=
  s.onM (fun m d => (if w = 0x52535421 then { m with prog := [], data := [] } else m, d.warmReset w))

end Sys2Proof.Machine
end

