-- ==== Sys2Proof/Machine/Spi.lean ====
section
/-!
DEFINITION. The host interface of a head (09_chain_transactions.md R373 to R380): SPI frames and the IRQ pin.
-/

namespace Sys2Proof.Machine

/-- The bytes of a trailer: its CRC-8 over the words before it (R375). -/
def spiTrailer (l : List Byte) : List Byte := [0, 0, 0, Crc.crc8 l]

/-- The bytes of an acknowledgement (R375). -/
def spiAck (result : Nat) : List Byte :=
  let b : List Byte := [BitVec.ofNat 8 result, 0, 0]
  b ++ [Crc.crc8 b]

/-- The frame that the words of a TXF spell: header, payload, and the CMAC when AUTH is set (R336, R377). -/
def txfFrame (words : List Word) : Frame :=
  let b := (words.map wordBytes).flatten
  let h (i : Nat) : BitVec 8 := nth b i 0
  let n := (h 3).toNat + 1
  let auth := (h 1).getLsbD 7
  { ty := BitVec.ofNat 4 ((h 0).toNat / 16), rev := BitVec.ofNat 2 ((h 0).toNat / 4), seq := BitVec.ofNat 2 (h 0).toNat, auth := auth
    src := BitVec.ofNat 7 (h 1).toNat, orig := (h 2).getLsbD 7, dest := BitVec.ofNat 7 (h 2).toNat, payload := (b.drop 4).take n
    mac := if auth then BitVec.ofNat 32 (fieldAt b (4 + n) 4) else 0 }

/-- The word count that the LEN field of a TXF's header asks for (R377). -/
def txfWords (words : List Word) : Nat :=
  let b := wordBytes (nth words 0 0)
  (4 + ((nth b 3 0).toNat + 1) + (if (nth b 1 0).getLsbD 7 then 4 else 0) + 3) / 4

namespace Dev

/-- The level of the IRQ pin (R380). -/
def irqPin (d : Dev) : Bool := (d.viewReg R.CHN_IRQST &&& d.rd R.CHN_IRQEN) != 0

/-- The status word that leaves while the command word arrives (R373). -/
def spiStatus (d : Dev) : List Byte :=
  let b (x : Bool) (i : Nat) : Nat := x.toNat * 2 ^ i
  let h : Nat := b d.irqPin 31 + b (!d.chain.hrx.isEmpty) 30 + b (decide (16 ≤ d.chain.htx.length)) 29 + b (d.get F.CHN_BRK_STATE != 0) 28 +
    b (d.bit F.CHN_IRQST_FAULTSYM) 27 + b d.chain.spiErr 26 + min 1023 d.chain.hrx.length * 2 ^ 16 + (16 - d.chain.htx.length) * 2 ^ 8
  let l := beBytes 3 (h / 256)
  l ++ [Crc.crc8 l]

/-- A valid command has arrived: SERR has been shown, and the host is heard (R373, R589). -/
def spiSeen (d : Dev) : Dev := ({ d with chain := { d.chain with spiErr := false } } : Dev).frameSeen

/-- What leaves on SPI; a reset by this very frame leaves nothing. -/
def spiOut (d : Dev) (l : List Byte) : Dev := if d.power.releasedAt = d.cycle then d else d.emit (.spi l)

/-- Frames with a failed CRC-8 (R392). -/
def spiCrcFail (d : Dev) : Dev := d.count F.CHN_SPIERR_CRC 1

/-- The registers whose read latches others. -/
def latches (a : Nat) : Bool :=
  [R.CHN_TOKL, R.TIM_TBL, R.TIM_PMBL, R.PRF_CYCL, R.LOG_HEADSEQL, R.LOG_TAILSEQL, R.TWN_CCRAW 0].contains a ||
    (onSeries a (R.TIM_CAPL 0) 4 16).isSome || (onSeries a (R.FLT_FSTL 0) 4 16).isSome || (onSeries a (R.PRF_PMC 0) 6 8).isSome ||
    (onSeries a (R.PRF_TAG0 0) 8 0x18).isSome

/-- SPI RDREG (R375, R376): a frame cut short clears no RC field. -/
def spiRdreg (d : Dev) (a : Nat) (whole : Bool) : Dev :=
  if !d.isHead then d
  else
    let st := d.spiStatus
    let d := d.spiSeen
    let (v, r) := d.readReg a
    let d := if whole || latches a then r else d
    d.spiOut (st ++ wordBytes v ++ (if whole then spiTrailer (wordBytes v) else []))

/-- SPI WRREG (R375, R376, R517, R620): it counts as authenticated; in Lockout only FLT_UNLOCK and the warm reset act. -/
def spiWrreg (m : Mems) (d : Dev) (a : Nat) (w : Word) (crcOk : Bool) : Mems × Dev :=
  if !d.isHead then (m, d)
  else
    let st := d.spiStatus
    let d := d.spiSeen
    let answer (d : Dev) (r : Nat) : Dev := d.spiOut (st ++ List.replicate 8 0 ++ spiAck r)
    if !crcOk then (m, answer d.spiCrcFail 1)
    else if d.bit F.FLT_STAT_LKO && !(a == R.FLT_UNLOCK || a == R.SYS_RSTCMD) then (m, answer (d.count F.FLT_LKREF_CNT 1) 7)
    else (m.afterWrite a w, answer (d.writeReg By.auth a w).2 0)

/-- The RESULT of a TXF (R377): the first of its conditions. -/
def txfResult (d : Dev) (words : List Word) (crcOk : Bool) : Nat :=
  let f := txfFrame words
  let ok : List Nat := [1, 2, 3, 4, 5, 6, 9, 11]
  if !crcOk then 1
  else if 16 ≤ d.chain.htx.length then 2
  else if f.src != 0 || f.orig || !ok.contains f.ty.toNat then 3
  else if f.rev != d.requestRev f.dest.toNat then 4
  else if words.length != txfWords words then 5
  else if d.healed && decide (d.get F.CHN_BRK_BLO < f.dest.toNat) && decide (f.dest.toNat < d.get F.CHN_BRK_BHI) then 6
  else if d.bit F.FLT_STAT_LKO && !(f.ty == 1 || (f.ty == 3 && blkSpace f == 2)) then 7
  else 0

/-- SPI TXF (R376, R377): the frame enters the host transmit queue, or is refused. -/
def spiTxf (d : Dev) (words : List Word) (crcOk : Bool) : Dev :=
  if !d.isHead then d
  else
    let st := d.spiStatus
    let d := d.spiSeen
    let r := d.txfResult words crcOk
    let d := if crcOk then d else d.spiCrcFail
    let d : Dev := if r = 0 then { d with chain := { d.chain with htx := d.chain.htx ++ [txfFrame words] } } else d
    d.spiOut (st ++ List.replicate (4 * (words.length + 1)) 0 ++ spiAck r)

/-- The words of a record of the host receive queue, 0 for an empty queue (R378). -/
def recWords (r : Option HostRec) : List Byte :=
  match r with
  | none => [0, 0, 0, 0]
  | some r => wordBytes r.desc ++ r.bytes ++ List.replicate ((4 - r.bytes.length % 4) % 4) 0

/-- SPI RXF (R375, R379): the record leaves the queue when its trailer has left complete. -/
def spiRxf (d : Dev) (whole : Bool) : Dev :=
  if !d.isHead then d
  else
    let st := d.spiStatus
    let d := d.spiSeen
    let l := recWords d.chain.hrx.head?
    let d : Dev := if whole then { d with chain := { d.chain with hrx := d.chain.hrx.drop 1 } } else d
    d.spiOut (st ++ l ++ (if whole then spiTrailer l else []))

/-- A frame whose command word is not valid (R376, R392): counted, flagged, and shown in the next status word; a command CRC that passes is
heard all the same (R589). -/
def spiInvalid (d : Dev) (badCrc : Bool) : Dev :=
  if !d.isHead then d
  else
    let st := d.spiStatus
    let d := (if badCrc then d.spiCrcFail else d.frameSeen.count F.CHN_SPIERR_OP 1).flag F.CHN_IRQST_SPIERR
    ({ d with chain := { d.chain with spiErr := true } } : Dev).spiOut st

end Dev

/-- SPI_RDREG (R376). -/
def execSpiRdreg (addr : BitVec 16) (whole : Bool) (s : State) : Host.Outcome State Fault Refusal := s.on (·.spiRdreg addr.toNat whole)

/-- SPI_WRREG (R376). -/
def execSpiWrreg (addr : BitVec 16) (w : Word) (crcOk : Bool) (s : State) : Host.Outcome State Fault Refusal :=
  s.onM (fun m d => d.spiWrreg m addr.toNat w crcOk)

/-- SPI_TXF (R377). -/
def execSpiTxf (words : List Word) (crcOk : Bool) (s : State) : Host.Outcome State Fault Refusal := s.on (·.spiTxf words crcOk)

/-- SPI_RXF (R379). -/
def execSpiRxf (whole : Bool) (s : State) : Host.Outcome State Fault Refusal := s.on (·.spiRxf whole)

/-- SPI_INVALID_FRAME (R376). -/
def execSpiInvalidFrame (badCrc : Bool) (s : State) : Host.Outcome State Fault Refusal := s.on (·.spiInvalid badCrc)

/-- REGISTER_WRITE (R12, R13, R15, R17): a write by whoever makes it. -/
def execRegisterWrite (by_ : By) (addr : BitVec 16) (w : Word) (s : State) : Host.Outcome State Fault Refusal :=
  s.onM (fun m d =>
    let (st, n) := d.writeReg by_ addr.toNat w
    (if st = 0 then m.afterWrite addr.toNat w else m, n))

end Sys2Proof.Machine
end

