-- ==== Sys2Proof/Machine/Dispatch.lean ====
section
/-!
DEFINITION. The meaning of each command: one arm per constructor of `Instr`, each a direct call.
-/

namespace Sys2Proof.Machine

def exec (i : Instr) (s : State) : Host.Outcome State Fault Refusal :=
  match i with
  | .powerOnReset head0 head1 head2 twin0 twin1 twin2 => Sys2Proof.Machine.execPowerOnReset head0 head1 head2 twin0 twin1 twin2 s
  | .resetRelease otpOk => Sys2Proof.Machine.execResetRelease otpOk s
  | .fireguardLogicBistEnd pass => Sys2Proof.Machine.execFireguardLogicBistEnd pass s
  | .rcWindowEnd inRange => Sys2Proof.Machine.execRcWindowEnd inRange s
  | .freqWindowEnd within => Sys2Proof.Machine.execFreqWindowEnd within s
  | .scrubStep e => Sys2Proof.Machine.execScrubStep e s
  | .safeCurrentLimitTrip out => Sys2Proof.Machine.execSafeCurrentLimitTrip out s
  | .buckThreshold on => Sys2Proof.Machine.execBuckThreshold on s
  | .regulatorFault rail => Sys2Proof.Machine.execRegulatorFault rail s
  | .convInjReq w => Sys2Proof.Machine.execConvInjReq w s
  | .conversionComplete l => Sys2Proof.Machine.execConversionComplete l s
  | .injectionComplete l => Sys2Proof.Machine.execInjectionComplete l s
  | .quietWindowOpen cut => Sys2Proof.Machine.execQuietWindowOpen cut s
  | .windowBoundary src => Sys2Proof.Machine.execWindowBoundary src s
  | .drawerConfigWrite addr w => Sys2Proof.Machine.execDrawerConfigWrite addr w s
  | .accCmdRst mask => Sys2Proof.Machine.execAccCmdRst mask s
  | .resultStatusRead r => Sys2Proof.Machine.execResultStatusRead r s
  | .trackerARead ch => Sys2Proof.Machine.execTrackerARead ch s
  | .trackerBRead ch => Sys2Proof.Machine.execTrackerBRead ch s
  | .phtim p ta step f => Sys2Proof.Machine.execPhtim p ta step f s
  | .phsyncEdge rising step => Sys2Proof.Machine.execPhsyncEdge rising step s
  | .timebaseCompareArm n w => Sys2Proof.Machine.execTimebaseCompareArm n w s
  | .phaseCompareArm n w => Sys2Proof.Machine.execPhaseCompareArm n w s
  | .compareDisarm mask => Sys2Proof.Machine.execCompareDisarm mask s
  | .timebaseCompareFire n => Sys2Proof.Machine.execTimebaseCompareFire n s
  | .phaseCompareFire n => Sys2Proof.Machine.execPhaseCompareFire n s
  | .captureEvent src step => Sys2Proof.Machine.execCaptureEvent src step s
  | .captureRead u => Sys2Proof.Machine.execCaptureRead u s
  | .aux7ComparatorEdge rising step => Sys2Proof.Machine.execAux7ComparatorEdge rising step s
  | .add rd ra rb => Sys2Proof.Machine.execAdd rd ra rb s
  | .sub rd ra rb => Sys2Proof.Machine.execSub rd ra rb s
  | .adc rd ra rb => Sys2Proof.Machine.execAdc rd ra rb s
  | .sbc rd ra rb => Sys2Proof.Machine.execSbc rd ra rb s
  | .addss rd ra rb => Sys2Proof.Machine.execAddss rd ra rb s
  | .subss rd ra rb => Sys2Proof.Machine.execSubss rd ra rb s
  | .addus rd ra rb => Sys2Proof.Machine.execAddus rd ra rb s
  | .subus rd ra rb => Sys2Proof.Machine.execSubus rd ra rb s
  | .andR rd ra rb => Sys2Proof.Machine.execAnd rd ra rb s
  | .orR rd ra rb => Sys2Proof.Machine.execOr rd ra rb s
  | .xorR rd ra rb => Sys2Proof.Machine.execXor rd ra rb s
  | .bic rd ra rb => Sys2Proof.Machine.execBic rd ra rb s
  | .shl rd ra rb => Sys2Proof.Machine.execShl rd ra rb s
  | .shr rd ra rb => Sys2Proof.Machine.execShr rd ra rb s
  | .sar rd ra rb => Sys2Proof.Machine.execSar rd ra rb s
  | .ror rd ra rb => Sys2Proof.Machine.execRor rd ra rb s
  | .mul rd ra rb => Sys2Proof.Machine.execMul rd ra rb s
  | .mulh rd ra rb => Sys2Proof.Machine.execMulh rd ra rb s
  | .mulhu rd ra rb => Sys2Proof.Machine.execMulhu rd ra rb s
  | .min rd ra rb => Sys2Proof.Machine.execMin rd ra rb s
  | .max rd ra rb => Sys2Proof.Machine.execMax rd ra rb s
  | .minu rd ra rb => Sys2Proof.Machine.execMinu rd ra rb s
  | .maxu rd ra rb => Sys2Proof.Machine.execMaxu rd ra rb s
  | .cmp ra rb => Sys2Proof.Machine.execCmp ra rb s
  | .tst ra rb => Sys2Proof.Machine.execTst ra rb s
  | .mov rd ra => Sys2Proof.Machine.execMov rd ra s
  | .clz rd ra => Sys2Proof.Machine.execClz rd ra s
  | .abss rd ra => Sys2Proof.Machine.execAbss rd ra s
  | .addi rd ra imm => Sys2Proof.Machine.execAddi rd ra imm s
  | .andi rd ra imm => Sys2Proof.Machine.execAndi rd ra imm s
  | .ori rd ra imm => Sys2Proof.Machine.execOri rd ra imm s
  | .xori rd ra imm => Sys2Proof.Machine.execXori rd ra imm s
  | .shi rd ra imm => Sys2Proof.Machine.execShi rd ra imm s
  | .cmpi ra imm => Sys2Proof.Machine.execCmpi ra imm s
  | .movl rd imm => Sys2Proof.Machine.execMovl rd imm s
  | .movh rd imm => Sys2Proof.Machine.execMovh rd imm s
  | .csel rd ra rb cond => Sys2Proof.Machine.execCsel rd ra rb cond s
  | .ldw rd ra imm e => Sys2Proof.Machine.execLdw rd ra imm e s
  | .ldh rd ra imm e => Sys2Proof.Machine.execLdh rd ra imm e s
  | .ldhu rd ra imm e => Sys2Proof.Machine.execLdhu rd ra imm e s
  | .ldb rd ra imm e => Sys2Proof.Machine.execLdb rd ra imm e s
  | .ldbu rd ra imm e => Sys2Proof.Machine.execLdbu rd ra imm e s
  | .stw rs ra imm => Sys2Proof.Machine.execStw rs ra imm s
  | .sth rs ra imm e => Sys2Proof.Machine.execSth rs ra imm e s
  | .stb rs ra imm e => Sys2Proof.Machine.execStb rs ra imm e s
  | .ldr rd ra imm => Sys2Proof.Machine.execLdr rd ra imm s
  | .str rs ra imm => Sys2Proof.Machine.execStr rs ra imm s
  | .push mask => Sys2Proof.Machine.execPush mask s
  | .pop mask e => Sys2Proof.Machine.execPop mask e s
  | .branch cond off => Sys2Proof.Machine.execB cond off s
  | .call off => Sys2Proof.Machine.execCall off s
  | .jr ra => Sys2Proof.Machine.execJr ra s
  | .callr ra => Sys2Proof.Machine.execCallr ra s
  | .svc n => Sys2Proof.Machine.execSvc n s
  | .measGo rd => Sys2Proof.Machine.execMeasGo rd s
  | .measArm rd => Sys2Proof.Machine.execMeasArm rd s
  | .measDisarm rd => Sys2Proof.Machine.execMeasDisarm rd s
  | .measStop rd => Sys2Proof.Machine.execMeasStop rd s
  | .measInj rd ra drw aux cur slot => Sys2Proof.Machine.execMeasInj rd ra drw aux cur slot s
  | .waitt rd ra rb rm isAbs => Sys2Proof.Machine.execWaitt rd ra rb rm isAbs s
  | .waitph rd ra rm isAbs => Sys2Proof.Machine.execWaitph rd ra rm isAbs s
  | .draw rd ra ch drw cr nm1 => Sys2Proof.Machine.execDraw rd ra ch drw cr nm1 s
  | .send rd ra rb auth blk => Sys2Proof.Machine.execSend rd ra rb auth blk s
  | .recv rd ra rb blk => Sys2Proof.Machine.execRecv rd ra rb blk s
  | .balTransfer rd ra sh cell dir => Sys2Proof.Machine.execBalTransfer rd ra sh cell dir s
  | .balStopShelf rd sh => Sys2Proof.Machine.execBalStopShelf rd sh s
  | .balStopAll rd => Sys2Proof.Machine.execBalStopAll rd s
  | .crc rd ra rb sp res => Sys2Proof.Machine.execCrc rd ra rb sp res s
  | .logRec rd ra rb blk => Sys2Proof.Machine.execLog rd ra rb blk s
  | .raise ra cls lvl code => Sys2Proof.Machine.execRaise ra cls lvl code s
  | .ploadOpen p f => Sys2Proof.Machine.execPloadOpen p f s
  | .ploadData p f => Sys2Proof.Machine.execPloadData p f s
  | .ploadClose p f => Sys2Proof.Machine.execPloadClose p f s
  | .ploadAbort p f => Sys2Proof.Machine.execPloadAbort p f s
  | .runSwap p f => Sys2Proof.Machine.execRunSwap p f s
  | .runRestart p f => Sys2Proof.Machine.execRunRestart p f s
  | .runHalt p f => Sys2Proof.Machine.execRunHalt p f s
  | .runCancel p f => Sys2Proof.Machine.execRunCancel p f s
  | .seqGrantWrite by_ w => Sys2Proof.Machine.execSeqGrantWrite by_ w s
  | .doorbell w => Sys2Proof.Machine.execDoorbell w s
  | .regrd p f => Sys2Proof.Machine.execRegrd p f s
  | .regwr p f => Sys2Proof.Machine.execRegwr p f s
  | .blkrd p f => Sys2Proof.Machine.execBlkrd p f s
  | .blkwr p f => Sys2Proof.Machine.execBlkwr p f s
  | .trig f => Sys2Proof.Machine.execTrig f s
  | .report p f => Sys2Proof.Machine.execReport p f s
  | .logx p f => Sys2Proof.Machine.execLogx p f s
  | .frameForward p f crc => Sys2Proof.Machine.execFrameForward p f crc s
  | .ownFrameStart p => Sys2Proof.Machine.execOwnFrameStart p s
  | .faultSymbolReceived p => Sys2Proof.Machine.execFaultSymbolReceived p s
  | .echoRequest p => Sys2Proof.Machine.execEchoRequest p s
  | .echoReply p hop => Sys2Proof.Machine.execEchoReply p hop s
  | .hoprep p f => Sys2Proof.Machine.execHoprep p f s
  | .residenceMeasure fwd rev => Sys2Proof.Machine.execResidenceMeasure fwd rev s
  | .portTrain p => Sys2Proof.Machine.execPortTrain p s
  | .portUp p eye => Sys2Proof.Machine.execPortUp p eye s
  | .portDown p => Sys2Proof.Machine.execPortDown p s
  | .eyeWidthLow p => Sys2Proof.Machine.execEyeWidthLow p s
  | .kindlingGo w => Sys2Proof.Machine.execKindlingGo w s
  | .kindle p f => Sys2Proof.Machine.execKindle p f s
  | .kindleReturn f => Sys2Proof.Machine.execKindleReturn f s
  | .topo p f => Sys2Proof.Machine.execTopo p f s
  | .kend p f => Sys2Proof.Machine.execKend p f s
  | .ringReturnCheck t step => Sys2Proof.Machine.execRingReturnCheck t step s
  | .responseReceive p f => Sys2Proof.Machine.execResponseReceive p f s
  | .chnTrighWrite w => Sys2Proof.Machine.execChnTrighWrite w s
  | .spiRdreg addr whole => Sys2Proof.Machine.execSpiRdreg addr whole s
  | .spiWrreg addr w crcOk => Sys2Proof.Machine.execSpiWrreg addr w crcOk s
  | .spiTxf words crcOk => Sys2Proof.Machine.execSpiTxf words crcOk s
  | .spiRxf whole => Sys2Proof.Machine.execSpiRxf whole s
  | .spiInvalidFrame badCrc => Sys2Proof.Machine.execSpiInvalidFrame badCrc s
  | .breakNoticeSend blo bhi => Sys2Proof.Machine.execBreakNoticeSend blo bhi s
  | .breakNotice p f => Sys2Proof.Machine.execBreakNotice p f s
  | .balCmdTransfer by_ w => Sys2Proof.Machine.execBalCmdTransfer by_ w s
  | .balCmdStopShelf by_ sh => Sys2Proof.Machine.execBalCmdStopShelf by_ sh s
  | .balCmdStopAll by_ => Sys2Proof.Machine.execBalCmdStopAll by_ s
  | .selTurnOn k => Sys2Proof.Machine.execSelTurnOn k s
  | .selectionSettled k vc => Sys2Proof.Machine.execSelectionSettled k vc s
  | .switchingCycleEnd k avg ticks pred ilim overcur => Sys2Proof.Machine.execSwitchingCycleEnd k avg ticks pred ilim overcur s
  | .noDemagnetisation k => Sys2Proof.Machine.execNoDemagnetisation k s
  | .selectionDriverFault cell => Sys2Proof.Machine.execSelectionDriverFault cell s
  | .selectionInterlock k => Sys2Proof.Machine.execSelectionInterlock k s
  | .selHoldExpiry k => Sys2Proof.Machine.execSelHoldExpiry k s
  | .busPause high => Sys2Proof.Machine.execBusPause high s
  | .busResume high => Sys2Proof.Machine.execBusResume high s
  | .balXctlGo by_ k w => Sys2Proof.Machine.execBalXctlGo by_ k w s
  | .balXctlStop by_ k => Sys2Proof.Machine.execBalXctlStop by_ k s
  | .excitationStart k => Sys2Proof.Machine.execExcitationStart k s
  | .excitationBoundary k => Sys2Proof.Machine.execExcitationBoundary k s
  | .ownHandover ok auto => Sys2Proof.Machine.execOwnHandover ok auto s
  | .ownAck ok => Sys2Proof.Machine.execOwnAck ok s
  | .ownStop ok => Sys2Proof.Machine.execOwnStop ok s
  | .ownStopack ok => Sys2Proof.Machine.execOwnStopack ok s
  | .fireguardStrobe tripped => Sys2Proof.Machine.execFireguardStrobe tripped s
  | .comparatorSelfTest pass => Sys2Proof.Machine.execComparatorSelfTest pass s
  | .guardLatchClear w => Sys2Proof.Machine.execGuardLatchClear w s
  | .pairset w => Sys2Proof.Machine.execPairset w s
  | .healthMsg m ok => Sys2Proof.Machine.execHealthMsg m ok s
  | .pairMsg m ok echo => Sys2Proof.Machine.execPairMsg m ok echo s
  | .resultMsg m ok => Sys2Proof.Machine.execResultMsg m ok s
  | .timeMsg dep ta ok => Sys2Proof.Machine.execTimeMsg dep ta ok s
  | .modelMsg m ok => Sys2Proof.Machine.execModelMsg m ok s
  | .sfrMsg m ok => Sys2Proof.Machine.execSfrMsg m ok s
  | .trigWord t fine tid => Sys2Proof.Machine.execTrigWord t fine tid s
  | .safety p f => Sys2Proof.Machine.execSafety p f s
  | .safetyCompareClose a => Sys2Proof.Machine.execSafetyCompareClose a s
  | .safeOn mask => Sys2Proof.Machine.execSafeOn mask s
  | .offPulseStart j => Sys2Proof.Machine.execOffPulseStart j s
  | .offPulseSample j high => Sys2Proof.Machine.execOffPulseSample j high s
  | .offPulseEnd j => Sys2Proof.Machine.execOffPulseEnd j s
  | .safeReadbackSample j high => Sys2Proof.Machine.execSafeReadbackSample j high s
  | .fltAck by_ w => Sys2Proof.Machine.execFltAck by_ w s
  | .fltUnlock w => Sys2Proof.Machine.execFltUnlock w s
  | .diagGo by_ => Sys2Proof.Machine.execDiagGo by_ s
  | .converterBistEnd pass => Sys2Proof.Machine.execConverterBistEnd pass s
  | .memoryBistPhaseEnd fails word bit unc => Sys2Proof.Machine.execMemoryBistPhaseEnd fails word bit unc s
  | .hearthLogicBistEnd pass => Sys2Proof.Machine.execHearthLogicBistEnd pass s
  | .chkGo by_ w => Sys2Proof.Machine.execChkGo by_ w s
  | .scanEnd unc => Sys2Proof.Machine.execScanEnd unc s
  | .calRunComplete factors residual => Sys2Proof.Machine.execCalRunComplete factors residual s
  | .calUnlock w => Sys2Proof.Machine.execCalUnlock w s
  | .calShadowWrite addr w => Sys2Proof.Machine.execCalShadowWrite addr w s
  | .calCommit mask => Sys2Proof.Machine.execCalCommit mask s
  | .trackingAttempt moves residual => Sys2Proof.Machine.execTrackingAttempt moves residual s
  | .dieTempConversion t => Sys2Proof.Machine.execDieTempConversion t s
  | .emberCheck cells aux => Sys2Proof.Machine.execEmberCheck cells aux s
  | .wakeToneRelay p => Sys2Proof.Machine.execWakeToneRelay p s
  | .wakeToneHead p => Sys2Proof.Machine.execWakeToneHead p s
  | .lineTrafficWake p => Sys2Proof.Machine.execLineTrafficWake p s
  | .warmReset w => Sys2Proof.Machine.execWarmReset w s
  | .keyFrame p f => Sys2Proof.Machine.execKeyFrame p f s
  | .testToken hi => Sys2Proof.Machine.execTestToken hi s
  | .segmentProgramComplete ok => Sys2Proof.Machine.execSegmentProgramComplete ok s
  | .logMountComplete torn => Sys2Proof.Machine.execLogMountComplete torn s
  | .logScrub blk bits unc => Sys2Proof.Machine.execLogScrub blk bits unc s
  | .logRefresh blk => Sys2Proof.Machine.execLogRefresh blk s
  | .logReadoutGo w => Sys2Proof.Machine.execLogReadoutGo w s
  | .logErase w => Sys2Proof.Machine.execLogErase w s
  | .logUtc w => Sys2Proof.Machine.execLogUtc w s
  | .logHeadseqRead tail => Sys2Proof.Machine.execLogHeadseqRead tail s
  | .pmcOverflow n => Sys2Proof.Machine.execPmcOverflow n s
  | .pmcRead n => Sys2Proof.Machine.execPmcRead n s
  | .tagRecordClose dropped => Sys2Proof.Machine.execTagRecordClose dropped s
  | .tagRecordRead r => Sys2Proof.Machine.execTagRecordRead r s
  | .faultStampRead l => Sys2Proof.Machine.execFaultStampRead l s
  | .registerWrite by_ addr w => Sys2Proof.Machine.execRegisterWrite by_ addr w s
  | .illegalOpcode w => Sys2Proof.Machine.execIllegalOpcode w s
  | .startupRegulatorStart => Sys2Proof.Machine.execStartupRegulatorStart s
  | .vbusRise => Sys2Proof.Machine.execVbusRise s
  | .fireguardArm => Sys2Proof.Machine.execFireguardArm s
  | .vtrefEnable => Sys2Proof.Machine.execVtrefEnable s
  | .twinTxEnable => Sys2Proof.Machine.execTwinTxEnable s
  | .headTxEnable => Sys2Proof.Machine.execHeadTxEnable s
  | .mainOscFail => Sys2Proof.Machine.execMainOscFail s
  | .calRunAuto => Sys2Proof.Machine.execCalRunAuto s
  | .lineActivityLost => Sys2Proof.Machine.execLineActivityLost s
  | .soloTimeout => Sys2Proof.Machine.execSoloTimeout s
  | .kindlingStart => Sys2Proof.Machine.execKindlingStart s
  | .kindlingRepeat => Sys2Proof.Machine.execKindlingRepeat s
  | .kindlingAbandon => Sys2Proof.Machine.execKindlingAbandon s
  | .vbusPowerFail => Sys2Proof.Machine.execVbusPowerFail s
  | .vbusRecover => Sys2Proof.Machine.execVbusRecover s
  | .vbusUndervoltage => Sys2Proof.Machine.execVbusUndervoltage s
  | .vbusHigh => Sys2Proof.Machine.execVbusHigh s
  | .vbusOvervoltage => Sys2Proof.Machine.execVbusOvervoltage s
  | .dieTempBalStop => Sys2Proof.Machine.execDieTempBalStop s
  | .dieTempBalResume => Sys2Proof.Machine.execDieTempBalResume s
  | .dieTempSupply => Sys2Proof.Machine.execDieTempSupply s
  | .convGo => Sys2Proof.Machine.execConvGo s
  | .convArm => Sys2Proof.Machine.execConvArm s
  | .convDisarm => Sys2Proof.Machine.execConvDisarm s
  | .convStop => Sys2Proof.Machine.execConvStop s
  | .sweepAcquisition => Sys2Proof.Machine.execSweepAcquisition s
  | .injectionStart => Sys2Proof.Machine.execInjectionStart s
  | .quietWindowClose => Sys2Proof.Machine.execQuietWindowClose s
  | .accCmdTclr => Sys2Proof.Machine.execAccCmdTclr s
  | .accCmdXrst => Sys2Proof.Machine.execAccCmdXrst s
  | .convTslRead => Sys2Proof.Machine.execConvTslRead s
  | .timebaseWrap => Sys2Proof.Machine.execTimebaseWrap s
  | .timebaseRead => Sys2Proof.Machine.execTimebaseRead s
  | .phtimSend => Sys2Proof.Machine.execPhtimSend s
  | .modelActivate => Sys2Proof.Machine.execModelActivate s
  | .timingFrameMiss => Sys2Proof.Machine.execTimingFrameMiss s
  | .phsyncEdgeMissed => Sys2Proof.Machine.execPhsyncEdgeMissed s
  | .periodCountWrap => Sys2Proof.Machine.execPeriodCountWrap s
  | .phaseModelRead => Sys2Proof.Machine.execPhaseModelRead s
  | .reti => Sys2Proof.Machine.execReti s
  | .yield => Sys2Proof.Machine.execYield s
  | .waitEnd => Sys2Proof.Machine.execWaitEnd s
  | .stallRelease => Sys2Proof.Machine.execStallRelease s
  | .interruptEntry => Sys2Proof.Machine.execInterruptEntry s
  | .seqLdctlAbort => Sys2Proof.Machine.execSeqLdctlAbort s
  | .imageCheckComplete => Sys2Proof.Machine.execImageCheckComplete s
  | .runBoundary => Sys2Proof.Machine.execRunBoundary s
  | .backgroundEcho => Sys2Proof.Machine.execBackgroundEcho s
  | .kindleSend => Sys2Proof.Machine.execKindleSend s
  | .kindleNoEcho => Sys2Proof.Machine.execKindleNoEcho s
  | .ringReturnMissing => Sys2Proof.Machine.execRingReturnMissing s
  | .requestSend => Sys2Proof.Machine.execRequestSend s
  | .requestTimeout => Sys2Proof.Machine.execRequestTimeout s
  | .trigSend => Sys2Proof.Machine.execTrigSend s
  | .chainHealed => Sys2Proof.Machine.execChainHealed s
  | .balQclr => Sys2Proof.Machine.execBalQclr s
  | .handover => Sys2Proof.Machine.execHandover s
  | .returnOwner => Sys2Proof.Machine.execReturnOwner s
  | .ownershipTimeout => Sys2Proof.Machine.execOwnershipTimeout s
  | .clockHeartbeatFail => Sys2Proof.Machine.execClockHeartbeatFail s
  | .configCrcCheck => Sys2Proof.Machine.execConfigCrcCheck s
  | .grdLock => Sys2Proof.Machine.execGrdLock s
  | .healthSend => Sys2Proof.Machine.execHealthSend s
  | .twinLinkDown => Sys2Proof.Machine.execTwinLinkDown s
  | .resultDeadline => Sys2Proof.Machine.execResultDeadline s
  | .faultWord => Sys2Proof.Machine.execFaultWord s
  | .safetyFrameSend => Sys2Proof.Machine.execSafetyFrameSend s
  | .safeDemand => Sys2Proof.Machine.execSafeDemand s
  | .safeAck => Sys2Proof.Machine.execSafeAck s
  | .l0RateWindow => Sys2Proof.Machine.execL0RateWindow s
  | .diagStop => Sys2Proof.Machine.execDiagStop s
  | .diagStep => Sys2Proof.Machine.execDiagStep s
  | .diagInjection => Sys2Proof.Machine.execDiagInjection s
  | .diagRunEnd => Sys2Proof.Machine.execDiagRunEnd s
  | .converterBistStep => Sys2Proof.Machine.execConverterBistStep s
  | .memoryBistGo => Sys2Proof.Machine.execMemoryBistGo s
  | .memoryBistStop => Sys2Proof.Machine.execMemoryBistStop s
  | .memoryBistStep => Sys2Proof.Machine.execMemoryBistStep s
  | .memoryBistResume => Sys2Proof.Machine.execMemoryBistResume s
  | .hearthLogicBist => Sys2Proof.Machine.execHearthLogicBist s
  | .lbh => Sys2Proof.Machine.execLbh s
  | .chkStop => Sys2Proof.Machine.execChkStop s
  | .calCmdRun => Sys2Proof.Machine.execCalCmdRun s
  | .calConvertersTaken => Sys2Proof.Machine.execCalConvertersTaken s
  | .calRelock => Sys2Proof.Machine.execCalRelock s
  | .calLock => Sys2Proof.Machine.execCalLock s
  | .calLoad => Sys2Proof.Machine.execCalLoad s
  | .calSnap => Sys2Proof.Machine.execCalSnap s
  | .commTimeout => Sys2Proof.Machine.execCommTimeout s
  | .sleep => Sys2Proof.Machine.execSleep s
  | .release => Sys2Proof.Machine.execRelease s
  | .wake => Sys2Proof.Machine.execWake s
  | .bankedEntryComplete => Sys2Proof.Machine.execBankedEntryComplete s
  | .headWakePhtimStart => Sys2Proof.Machine.execHeadWakePhtimStart s
  | .emberCheckEnd => Sys2Proof.Machine.execEmberCheckEnd s
  | .csnWake => Sys2Proof.Machine.execCsnWake s
  | .secLock => Sys2Proof.Machine.execSecLock s
  | .glitchDetect => Sys2Proof.Machine.execGlitchDetect s
  | .flushTimer => Sys2Proof.Machine.execFlushTimer s
  | .logFlush => Sys2Proof.Machine.execLogFlush s
  | .segmentProgramStart => Sys2Proof.Machine.execSegmentProgramStart s
  | .logMountFail => Sys2Proof.Machine.execLogMountFail s
  | .blockEraseComplete => Sys2Proof.Machine.execBlockEraseComplete s
  | .logReadoutStop => Sys2Proof.Machine.execLogReadoutStop s
  | .logReadoutFrame => Sys2Proof.Machine.execLogReadoutFrame s
  | .logEraseComplete => Sys2Proof.Machine.execLogEraseComplete s
  | .snapshotCaptureEnd => Sys2Proof.Machine.execSnapshotCaptureEnd s
  | .prfClr => Sys2Proof.Machine.execPrfClr s
  | .cycleCounterRead => Sys2Proof.Machine.execCycleCounterRead s
  | .tokenRead => Sys2Proof.Machine.execTokenRead s
  | .ccrawRead => Sys2Proof.Machine.execCcrawRead s
  | .fetchUncorrectable => Sys2Proof.Machine.execFetchUncorrectable s
  | .userFetchOutsideRegion => Sys2Proof.Machine.execUserFetchOutsideRegion s
  | .chainTriggerTarget => Sys2Proof.Machine.execChainTriggerTarget s
  | .trigWordDelayedStart => Sys2Proof.Machine.execTrigWordDelayedStart s

end Sys2Proof.Machine
end

