-- ==== Sys2Proof/Machine/Imvia.lean ====
section
/-!
DEFINITION. The decoder of Imvia instruction words (06_imvia_instruction_set.md R254 to R285): every word is an instruction or, with a
reserved field that is not zero or an unassigned code, an illegal one (R255). Hearth's fetch hands its instruction to the queue with it.
-/

namespace Sys2Proof.Machine

namespace Imvia

/-- Bits `lo` to `lo + n - 1` of an instruction word. -/
def fld (w : Word) (lo n : Nat) : Nat := bitsOf w.toNat lo n

/-- A four-bit register field. -/
def reg (w : Word) (lo : Nat) : BitVec 4 := BitVec.ofNat 4 (fld w lo 4)

/-- rd, ra and rb of the formats (R254). -/
def rd (w : Word) : BitVec 4 := reg w 22
/-- ra. -/
def ra (w : Word) : BitVec 4 := reg w 18
/-- rb. -/
def rb (w : Word) : BitVec 4 := reg w 14

/-- imm18 of format I. -/
def imm18 (w : Word) : BitVec 18 := BitVec.ofNat 18 (fld w 0 18)

/-- The instruction when its reserved fields are zero, else the illegal word (R255). -/
def guarded (w : Word) (ok : Bool) (i : Instr) : Instr := if ok then i else .illegalOpcode w

/-- The ALU group by its function code (R258): [13:6] are reserved, rd of CMP and TST and rb of MOV, CLZ and ABSS must be 0. -/
def alu (w : Word) : Instr :=
  let (d, a, b) := (rd w, ra w, rb w)
  let i : Option Instr := match fld w 0 6 with
    | 0x00 => some (.add d a b) | 0x01 => some (.sub d a b) | 0x02 => some (.adc d a b) | 0x03 => some (.sbc d a b)
    | 0x04 => some (.addss d a b) | 0x05 => some (.subss d a b) | 0x06 => some (.addus d a b) | 0x07 => some (.subus d a b)
    | 0x08 => some (.andR d a b) | 0x09 => some (.orR d a b) | 0x0A => some (.xorR d a b) | 0x0B => some (.bic d a b)
    | 0x0C => some (.shl d a b) | 0x0D => some (.shr d a b) | 0x0E => some (.sar d a b) | 0x0F => some (.ror d a b)
    | 0x10 => some (.mul d a b) | 0x11 => some (.mulh d a b) | 0x12 => some (.mulhu d a b) | 0x13 => some (.min d a b)
    | 0x14 => some (.max d a b) | 0x15 => some (.minu d a b) | 0x16 => some (.maxu d a b)
    | 0x17 => if d = 0 then some (.cmp a b) else none
    | 0x18 => if d = 0 then some (.tst a b) else none
    | 0x19 => if b = 0 then some (.mov d a) else none
    | 0x1A => if b = 0 then some (.clz d a) else none
    | 0x1B => if b = 0 then some (.abss d a) else none
    | _ => none
  guarded w (fld w 6 8 == 0) (i.getD (.illegalOpcode w))

/-- MEAS by its FORM in [10:8] (R268): rb and [13:11] are 0; of the forms but INJ, ra and [7:0] too. -/
def measForm (w : Word) : Instr :=
  let plain : Bool := ra w == 0 && fld w 0 8 == 0
  guarded w (rb w == 0 && fld w 11 3 == 0) (match fld w 8 3 with
    | 0 => guarded w plain (.measGo (rd w))
    | 1 => guarded w plain (.measArm (rd w))
    | 2 => guarded w plain (.measDisarm (rd w))
    | 3 => guarded w plain (.measStop (rd w))
    | 4 => .measInj (rd w) (ra w) (BitVec.ofNat 2 (fld w 6 2)) (w.getLsbD 5) (w.getLsbD 4) (reg w 0)
    | _ => .illegalOpcode w)

/-- BAL by its FORM in [11:10] (R281): [9:0] are reserved; in the stop forms ra, CELL and DIR are 0. -/
def balForm (w : Word) : Instr :=
  let sh : Fin 4 := Fin.ofNat 4 (fld w 16 2)
  let stop : Bool := ra w == 0 && fld w 12 4 == 0
  guarded w (fld w 0 10 == 0) (match fld w 10 2 with
    | 0 => .balTransfer (rd w) (ra w) sh (Fin.ofNat 8 (fld w 13 3)) (w.getLsbD 12)
    | 1 => guarded w stop (.balStopShelf (rd w) sh)
    | 2 => guarded w stop (.balStopAll (rd w))
    | _ => .illegalOpcode w)

/-- The formats with device fields, opcodes 0x23 to 0x31 (R265 to R285). -/
def device (w : Word) : Instr :=
  match fld w 26 6 with
  | 0x23 => guarded w (fld w 8 18 == 0) (.svc (BitVec.ofNat 8 (fld w 0 8)))
  | 0x24 => guarded w (fld w 0 26 == 0) .reti
  | 0x25 => guarded w (fld w 0 26 == 0) .yield
  | 0x28 => measForm w
  | 0x29 => guarded w (fld w 0 9 == 0) (.waitt (rd w) (ra w) (rb w) (reg w 10) (w.getLsbD 9))
  | 0x2A => guarded w (fld w 0 9 == 0 && rb w == 0) (.waitph (rd w) (ra w) (reg w 10) (w.getLsbD 9))
  | 0x2B => guarded w (fld w 3 6 == 0)
      (.draw (rd w) (ra w) (BitVec.ofNat 6 (fld w 12 6)) (BitVec.ofNat 2 (fld w 10 2)) (w.getLsbD 9) (BitVec.ofNat 3 (fld w 0 3)))
  | 0x2C => guarded w (fld w 0 12 == 0) (.send (rd w) (ra w) (rb w) (w.getLsbD 13) (w.getLsbD 12))
  | 0x2D => guarded w (fld w 0 13 == 0) (.recv (rd w) (ra w) (rb w) (w.getLsbD 13))
  | 0x2E => balForm w
  | 0x2F => guarded w (fld w 0 11 == 0) (.crc (rd w) (ra w) (rb w) (BitVec.ofNat 2 (fld w 12 2)) (w.getLsbD 11))
  | 0x30 => guarded w (fld w 0 13 == 0) (.logRec (rd w) (ra w) (rb w) (w.getLsbD 13))
  | 0x31 => guarded w (fld w 22 4 == 0 && fld w 14 4 == 0)
      (.raise (ra w) (reg w 10) (BitVec.ofNat 2 (fld w 8 2)) (BitVec.ofNat 8 (fld w 0 8)))
  | _ => .illegalOpcode w

/-- The instruction that a word spells (R254 to R264). The codewords that it loads are intact: a flawed one comes as a command of its own. -/
def decode (w : Word) : Instr :=
  match fld w 26 6 with
  | 0x01 => alu w
  | 0x02 => .addi (rd w) (ra w) (imm18 w)
  | 0x03 => .andi (rd w) (ra w) (imm18 w)
  | 0x04 => .ori (rd w) (ra w) (imm18 w)
  | 0x05 => .xori (rd w) (ra w) (imm18 w)
  | 0x06 => .shi (rd w) (ra w) (imm18 w)
  | 0x07 => guarded w (rd w == 0) (.cmpi (ra w) (imm18 w))
  | 0x08 => guarded w (fld w 16 6 == 0) (.movl (rd w) (BitVec.ofNat 16 (fld w 0 16)))
  | 0x09 => guarded w (fld w 16 6 == 0) (.movh (rd w) (BitVec.ofNat 16 (fld w 0 16)))
  | 0x0A => guarded w (fld w 4 10 == 0) (.csel (rd w) (ra w) (rb w) (reg w 0))
  | 0x10 => .ldw (rd w) (ra w) (imm18 w) .ok
  | 0x11 => .ldh (rd w) (ra w) (imm18 w) .ok
  | 0x12 => .ldhu (rd w) (ra w) (imm18 w) .ok
  | 0x13 => .ldb (rd w) (ra w) (imm18 w) .ok
  | 0x14 => .ldbu (rd w) (ra w) (imm18 w) .ok
  | 0x15 => .stw (rd w) (ra w) (imm18 w)
  | 0x16 => .sth (rd w) (ra w) (imm18 w) .ok
  | 0x17 => .stb (rd w) (ra w) (imm18 w) .ok
  | 0x18 => .ldr (rd w) (ra w) (imm18 w)
  | 0x19 => .str (rd w) (ra w) (imm18 w)
  | 0x1A => guarded w (fld w 16 10 == 0) (.push (BitVec.ofNat 16 (fld w 0 16)))
  | 0x1B => guarded w (fld w 16 10 == 0) (.pop (BitVec.ofNat 16 (fld w 0 16)) .ok)
  | 0x20 => guarded w (fld w 14 8 == 0) (.branch (rd w) (BitVec.ofNat 14 (fld w 0 14)))
  | 0x21 => guarded w (fld w 14 12 == 0) (.call (BitVec.ofNat 14 (fld w 0 14)))
  | 0x22 =>
    let ok := rd w == 0 && rb w == 0 && fld w 6 8 == 0
    guarded w ok (match fld w 0 6 with
      | 0 => .jr (ra w)
      | 1 => .callr (ra w)
      | _ => .illegalOpcode w)
  | _ => device w

end Imvia

end Sys2Proof.Machine
end

