-- ==== Sys2Proof/Machine/Tick.lean ====
section
/-!
DEFINITION. One system cycle of 10 ns: what the clock does by itself, and the commands of the device's own schedule whose moment has come.
-/

namespace Sys2Proof.Machine

namespace Dev

/-- The marks that hold for one cycle are dropped: what hardware touched, what left the device, publications seen by a read of their own
cycle, the faults of the cycle, and the settings as they stood at its start (R13, R14, R131, R186, R502). -/
def newCycle (d : Dev) : Dev :=
  let clear (w : Drawer) : Drawer := { w with before := none }
  { d with cycle := d.cycle + 1, regs0 := d.regs, touch := [], sent := [], pub0 := [], fltNow := [], fltBase := d.flt,
           drawers := d.drawers.map clear, excs := d.excs.map clear }

/-- The conditions of SUPPLY that still hold after an acknowledgement raise their faults again, in the next cycle (R500). -/
def reraiseSupply (d : Dev) : Dev :=
  if !d.power.reraise then d
  else
    let d : Dev := { d with power := { d.power with reraise := false } }
    let d := if d.power.overV then d.post 5 2 3 0 else d
    let d := if d.power.hot160 then d.post 5 2 4 0 else d
    let rc := !d.bit F.SYS_CLKSTAT_RCOK && d.bit F.SYS_CLKSTAT_MAINOK && decide (0 < d.power.rcRuns)
    if rc then d.post 5 2 1 0 else d

/-- Banked time in SYS_SLPT (R591, R611), and the count of COMM_TIMEOUT, which stands still while a SAFE output of a head is on (R589). -/
def sleepTick (d : Dev) : Dev :=
  let d : Dev := if d.safeOnAny then { d with power := { d.power with commAt := d.power.commAt + 1 } } else d
  if !d.banked then d
  else
    let n := d.power.slept + 1
    ({ d with power := { d.power with slept := n } } : Dev).put F.SYS_SLPT_SEC (n / 100000000)

/-- The steps of entry to Banked and of waking that fall in this cycle: every SEL pin off (R591, step 2), the main oscillator on (R601,
step 2). -/
def powerTick (d : Dev) : Dev :=
  let d := match d.power.entering with
    | none => d
    | some b => if d.cycle = b + 1000 then (List.range 4).foldl (fun d k => d.selOff k) d else d
  match d.power.wakeIdle with
  | none => d
  | some t => if t ≤ d.cycle then d.wakeClocks else d

/-- Hearth's instruction in progress has one cycle less to go. -/
def hearthTick (d : Dev) : Dev := { d with hearth := { d.hearth with busy := d.hearth.busy - 1 } }

/-- What the clock does in the device (R41, R195): the counters close the cycle that ends, and the next one begins. -/
def clock (m : Mems) (d : Dev) : Dev :=
  if !d.power.released then d.newCycle
  else
    let d := d.perfTick.newCycle
    let d : Dev := if d.banked then d else { d with tb := d.tb + 1 }
    let d := (d.captureHolds.balTick.chainTick.drainOne)
    let d := (d.chkTick m d.viewReg).sleepTick.powerTick
    (d.reraiseSupply.hearthTick).settle

/-- A period boundary of a phase source falls in this cycle (R161, R163): the phase counter by the model in force, or a shelf's
generator, which has just wrapped. -/
def boundaryNow (d : Dev) (src : Nat) : Bool :=
  if src = 0 then
    match d.tim.model with
    | none => false
    | some m =>
      let v : Word := m.phaseAt ((d.now + 1) * 32)
      m.reached (BitVec.ofNat 32 (v.toNat / 65536 * 65536)) / 32 == d.now
  else
    let w := d.shelf (src - 1)
    w.xrunning && decide (w.angle < w.xinc)

/-- The instruction that Hearth fetches at its program counter (R234, R304). -/
def fetched (m : Mems) (d : Dev) : Instr :=
  if d.hearth.user && !d.inUserRegion d.pcOfs then .userFetchOutsideRegion
  else Imvia.decode (Store.read Mems.progDflt m.prog d.hearth.pc.toNat)

/-- Hearth's next command: none while an instruction is in progress, or while a program enters in this cycle; an interrupt at a boundary; the
end of a wait or a stall; or the next instruction (R246, R275, R287). -/
def hearthNext (m : Mems) (d : Dev) : List Instr :=
  if !d.hearth.run || d.hearth.busy != 0 then []
  else if d.intDue then [.interruptEntry]
  else if d.hearth.wait.isSome then [.waitEnd, .stallRelease]
  else [fetched m d]

end Dev

/-- The schedule of start-up, time and phase models. -/
def scheduledTime : List Instr :=
  [.fireguardArm, .vtrefEnable, .twinTxEnable, .headTxEnable, .ownershipTimeout, .soloTimeout, .hearthLogicBist, .calRunAuto,
   .timebaseWrap, .periodCountWrap, .modelActivate, .timingFrameMiss, .phsyncEdgeMissed]

/-- The compares, triggers and sampling. -/
def scheduledSweep : List Instr :=
  [.timebaseCompareFire 0, .timebaseCompareFire 1, .timebaseCompareFire 2, .timebaseCompareFire 3, .phaseCompareFire 0,
   .phaseCompareFire 1, .phaseCompareFire 2, .phaseCompareFire 3, .chainTriggerTarget, .sweepAcquisition, .injectionStart,
   .calConvertersTaken, .calRelock, .quietWindowClose]

/-- The shelf converters. -/
def scheduledBal : List Instr :=
  [.selTurnOn 0, .selTurnOn 1, .selTurnOn 2, .selTurnOn 3, .selHoldExpiry 0, .selHoldExpiry 1, .selHoldExpiry 2, .selHoldExpiry 3,
   .excitationStart 0, .excitationStart 1, .excitationStart 2, .excitationStart 3, .excitationBoundary 0, .excitationBoundary 1,
   .excitationBoundary 2, .excitationBoundary 3]

/-- The chain. -/
def scheduledChain : List Instr :=
  [.kindlingStart, .kindlingAbandon, .kindlingRepeat, .kindleSend, .ringReturnMissing, .chainHealed, .headWakePhtimStart, .phtimSend,
   .trigSend, .trigWordDelayedStart, .safetyFrameSend, .ownFrameStart .up, .ownFrameStart .dn, .requestSend, .requestTimeout]

/-- The twin link and the SAFE outputs. -/
def scheduledTwin : List Instr :=
  [.healthSend, .twinLinkDown, .resultDeadline, .configCrcCheck, .offPulseStart 0, .offPulseStart 1, .offPulseEnd 0, .offPulseEnd 1]

/-- Diagnostics, self-test, the check engine and program loading. -/
def scheduledTest : List Instr :=
  [.diagRunEnd, .diagStep, .diagInjection, .converterBistStep, .memoryBistStep, .memoryBistResume, .scanEnd false, .imageCheckComplete]

/-- The peat log, the power states and the counters. -/
def scheduledLog : List Instr :=
  [.l0RateWindow, .flushTimer, .snapshotCaptureEnd, .segmentProgramStart, .logReadoutFrame, .emberCheckEnd, .commTimeout,
   .bankedEntryComplete, .pmcOverflow 0, .pmcOverflow 1, .pmcOverflow 2, .pmcOverflow 3, .pmcOverflow 4, .pmcOverflow 5]

/-- The commands of the device's own schedule, in the order in which they act when several fall in one cycle. A command that needs a value
from outside (a sample, a verdict, a frame, a pin) is none of them. -/
def scheduled (d : Dev) : List Instr :=
  [scheduledTime, scheduledSweep, scheduledBal, scheduledChain, scheduledTwin,
   d.twin.pairs.map (fun p => Instr.safetyCompareClose (BitVec.ofNat 7 p.addr)), scheduledTest, scheduledLog].flatten

/-- A command would change the state now: its moment has come. -/
def acts (s : State) (c : Instr) : Bool :=
  match exec c s with
  | .next t => t != s
  | _ => false

/-- The commands of this cycle (DESIGN CHOICE on their order): the period boundaries, the schedule, a RUN boundary, and Hearth, which executes
nothing in the cycle in which a program enters (R287, R299). -/
def dueNow (s : State) : List Instr :=
  let src : List (Fin 5) := [0, 1, 2, 3, 4]
  let bounds := (src.filter (fun k => s.dev.boundaryNow k.val)).map (fun k => Instr.windowBoundary k)
  let run := [Instr.runBoundary].filter (acts s)
  let next := if run.isEmpty then Dev.hearthNext s.mems s.dev else []
  if s.dev.power.released then bounds ++ (scheduled s.dev).filter (acts s) ++ run ++ next else []

/-- A system cycle passes while no command waits: the clock ticks, and the commands that fall in the new cycle are queued. -/
def State.tick (s : State) : State :=
  let t : State := { s with dev := Dev.clock s.mems s.dev, pending := [] }
  { t with pending := dueNow t }

end Sys2Proof.Machine
end

