-- ==== Sys2Proof/Safety.lean ====
section
/-!
DEFINITION. The terms in which claims about the MN3248 are stated: when a command acts, what the end of a cycle may move, and what
it means that a command leaves the rest of the device alone.
-/

namespace Sys2Proof.Machine

/-- A command acts on the device: it is out of reset and not in Banked sleep (R588, R594). -/
def State.awake (s : State) : Bool := s.dev.power.released && !s.dev.banked

namespace Dev

/-- Nothing posted or published waits for the end of a cycle (R502, R168): so it is after every command. -/
abbrev calm (d : Dev) : Prop := d.posted = [] ∧ d.pub0 = []

/-- The registers that the end of a cycle may move although no fault is latched: line 11 (R245), the pause of a memory step (R536), and the
fault symbol (R445, R511). -/
def cycleEndRegs : List Nat := [R.SEQ_IP, R.BST_STAT, R.GRD_STAT, R.FLT_STAT]

/-- Every register outside a list of addresses reads in `t` as in `d`. -/
def keepsRegs (d t : Dev) (l : List Nat) : Prop := ∀ a, a ∉ l → t.rd a = d.rd a

/-- Every field outside a list of fields reads in `t` as in `d`, for the registers of the fields given. -/
def keepsFields (d t : Dev) (l : List Fld) : Prop := ∀ f ∈ l, t.get f = d.get f

/-- The device `d` but for the parts that the end of a cycle without a fault may move, which are those of `t`: registers, the log's queues, the
next message of a handover, the fault symbol, and what has left the device. -/
def cycleEndFrom (d t : Dev) : Dev :=
  { d with
    regs := t.regs, touch := t.touch, sent := t.sent
    power := { d.power with fltPin := t.power.fltPin, wakeout := t.power.wakeout }
    bal := { d.bal with shelves := t.bal.shelves, returning := t.bal.returning, hoSent := t.bal.hoSent }
    log := { d.log with hwQ := t.log.hwQ, progQ := t.log.progQ, staged := t.log.staged, seq := t.log.seq }
    guard := { d.guard with symbol := t.guard.symbol }
    twin := { d.twin with lastSent := t.twin.lastSent } }

/-- `t` is what the end of a cycle may make of `d` while no fault is latched. -/
def cycleEnds (d t : Dev) : Prop := t = d.cycleEndFrom t ∧ d.keepsRegs t cycleEndRegs

end Dev

/-- Hearth with a result in a working register and all four flags: Z and N follow the result (R235). -/
def Hearth.result (h : Hearth) (rd : BitVec 4) (r : Word) (c v : Bool) : Hearth :=
  { h with w := upd h.w rd.toNat (fun _ => r), z := decide (r = 0), n := r.msb, c := c, v := v }

/-- Hearth with the flags of a result that is not written. -/
def Hearth.flagsOf (h : Hearth) (r : Word) (c v : Bool) : Hearth := { h with z := decide (r = 0), n := r.msb, c := c, v := v }

/-- Hearth with a working register written and no flag (R235). -/
def Hearth.moved (h : Hearth) (rd : BitVec 4) (r : Word) : Hearth := { h with w := upd h.w rd.toNat (fun _ => r) }

/-- Hearth after an instruction that issued a command: rd takes the cause, 0 when accepted, and Z says accepted (R267). -/
def Hearth.commanded (h : Hearth) (rd : BitVec 4) (cause : Nat) : Hearth :=
  { h with w := upd h.w rd.toNat (fun _ => BitVec.ofNat 32 cause), z := decide (cause = 0) }

/-- The state after an instruction of `n` cycles that leaves Hearth as `h` and goes on at the bank offset `ofs` (R234): the instruction counts as
event 2 of R661, and the cycle ends. -/
def State.afterJump (s : State) (n : Nat) (h : Hearth) (ofs : Nat) : State :=
  { s with dev := ({ s.dev with
      hearth := { h with pc := BitVec.ofNat 14 (s.dev.get F.SEQ_BANK_ACT * 8192 + ofs % 8192), busy := n }
      perf := { s.dev.perf with events := s.dev.perf.events ++ [2] } } : Dev).settle }

/-- The state after an instruction that goes on to the next word of the bank. -/
def State.afterInstr (s : State) (n : Nat) (h : Hearth) : State := s.afterJump n h (s.dev.hearth.pc.toNat % 8192 + 1)

/-- The state with what a read of a codeword posts (R45): a corrected symbol is an L0 MEM notice and event 23 of R661. -/
def State.afterEcc (s : State) (e : Ecc) : State :=
  match e with
  | .corrected => { s with dev := (s.dev.post 4 0 1 0).event 23 1 }
  | _ => s

/-- Data SRAM from byte `a` for `n` bytes is there (R239), and inside the window of user code (R237). -/
abbrev Dev.mayUse (d : Dev) (a n : Nat) : Prop :=
  a + n ≤ 0x20000 ∧
    (d.hearth.user = true → d.get F.SEQ_UWIN_BASE * 256 ≤ a ∧ a + n ≤ (d.get F.SEQ_UWIN_BASE + d.get F.SEQ_UWIN_SIZE) * 256)

/-- The byte of data SRAM at an address. -/
def Mems.byte (m : Mems) (a : Nat) : Byte := Store.read Mems.dataDflt m.data a

/-- The word of data SRAM at an address, its most significant byte first. -/
def Mems.word (m : Mems) (a : Nat) : Word := m.byte a ++ m.byte (a + 1) ++ m.byte (a + 2) ++ m.byte (a + 3)

/-- The registers of a mask, in ascending order (R262). -/
def regsOf (mask : BitVec 16) : List Nat := (List.range 16).filter (fun i => mask.getLsbD i)

/-- In `s` the command `c` completes: the next state has the device that `d` becomes at the end of the cycle, and the memories and the queue of
`s`. -/
def State.becomes (s : State) (c : Instr) (d : Dev) : Prop := exec c s = .next { s with dev := d.settle }

/-- In `s` the command `c` completes with a device of which `P` holds before the end of the cycle; the memories and the queue stay. -/
def State.gives (s : State) (c : Instr) (P : Dev → Prop) : Prop := ∃ d : Dev, s.becomes c d ∧ P d

/-- As `State.gives`, for a command that also acts on the memories. -/
def State.givesM (s : State) (c : Instr) (P : Mems → Dev → Prop) : Prop :=
  ∃ (m : Mems) (d : Dev), exec c s = .next { s with mems := m, dev := d.settle } ∧ P m d

/-- The faults that a command posts beside those that waited already: class, level, code and information of each (R499). -/
def Dev.posts (d t : Dev) (l : List (Nat × Nat × Nat × Word)) : Prop :=
  t.posted = d.posted ++ l.map (fun x => ⟨x.1, x.2.1, x.2.2.1, x.2.2.2, false⟩)

/-- A member accepts a request on a port (R330, R337, R338, R347, R517, R606, R617): it consumes the frame, which is addressed to it alone, stands on a
closed ring, is neither in Lockout nor foreign, and finds the CMAC that the frame carries right. -/
abbrev Dev.accepts (d : Dev) (p : Port) (f : Frame) : Prop :=
  d.isHead = false ∧ d.consumes p f = true ∧ f.dest ≠ 127 ∧ d.side = 0 ∧ d.bit F.FLT_STAT_LKO = false ∧
    d.bit F.SYS_PWRSTAT_FOREIGN = false ∧ d.power.releasedAt ≠ d.cycle ∧ (f.auth = true → (d.authenticate f).1 = .pass)

/-- The member answers a request with a payload: its response waits in the forward stream (R337). -/
def Dev.answers (d t : Dev) (f : Frame) (payload : List Byte) : Prop :=
  ∃ o : Own, t.chain.ownFwd = d.chain.ownFwd ++ [o] ∧ o.response = true ∧ o.frame.ty = f.ty ∧ o.frame.seq = f.seq ∧ o.frame.dest = 0 ∧
    o.frame.orig = true ∧ o.frame.src = BitVec.ofNat 7 d.addr ∧ o.frame.auth = f.auth ∧ o.frame.payload = payload

/-- The lengths of the lists that stand for a fixed number of like things: working registers; drawers, excitation accumulators and trackers; shelves and
charge counts; compares and captures; program banks; first sources, classes and counts of the collector, now and as its cycle began; the factor
sets; counters; Fireguard's words and comparators; compared cells; SAFE outputs; the L0 record counts. -/
def Dev.lengths (d : Dev) : List Nat :=
  [d.hearth.w.length, d.drawers.length, d.excs.length, d.trk.length, d.bal.shelves.length, d.bal.qcell.length, d.tim.tcmp.length,
   d.tim.tcmpLow.length, d.tim.learnt.length, d.tim.pLast.length, d.tim.capH.length, d.load.banks.length, d.flt.first.length,
   d.flt.cls.length, d.flt.cnt.length, d.fltBase.first.length, d.fltBase.cls.length, d.fltBase.cnt.length, d.cal.active.length,
   d.cal.snap.length, d.cal.shadow.length, d.cal.base.length, d.cal.trk.length, d.cal.lastHold.length, d.perf.shadow.length,
   d.perf.tags.length, d.guard.active.length, d.guard.counts.length, d.guard.testFails.length, d.twin.diffRun.length, d.safe.outs.length,
   d.log.l0.length]

end Sys2Proof.Machine
end

