-- ==== Sys2Proof/Certificates/Slice0/Obligations.lean ====
section
/-!
DEFINITION. The statements for the provers. `Claims` holds what is claimed, part by part in the order of the spec; each obligation joins the
claims about one kind of state or family of commands.
-/

open Sys2Proof Sys2Proof.Machine

/-! ### Hearth: arithmetic, logic, moves (R233 to R235, R258 to R260). Each equation gives the whole next state: rd, the flags and the program
counter change, the cycle ends, and everything else of the device and its memories is as before. -/

/-- R258, R235: addition and subtraction, plain, with carry, and saturating. C is the carry out or no borrow, V the signed overflow or
the saturation; a saturating instruction leaves C. -/
def Claims.AdditionAndSubtractionGiveResultAndFlags : Prop :=
  ∀ (s : State) (rd ra rb : BitVec 4), s.awake = true → s.dev.willRun = true →
    let a := s.dev.w ra
    let b := s.dev.w rb
    let h := s.dev.hearth
    exec (.add rd ra rb) s = .next (s.afterInstr 1 (h.result rd (a + b) (decide (2 ^ 32 ≤ a.toNat + b.toNat)) (BitVec.saddOverflow a b))) ∧
    exec (.sub rd ra rb) s = .next (s.afterInstr 1 (h.result rd (a - b) (decide (b.toNat ≤ a.toNat)) (BitVec.ssubOverflow a b))) ∧
    exec (.adc rd ra rb) s = .next (s.afterInstr 1 (h.result rd (a + b + BitVec.ofNat 32 h.c.toNat)
      (decide (2 ^ 32 ≤ a.toNat + b.toNat + h.c.toNat))
      (decide (a.toInt + b.toInt + h.c.toNat < -2 ^ 31 ∨ 2 ^ 31 ≤ a.toInt + b.toInt + h.c.toNat)))) ∧
    exec (.sbc rd ra rb) s = .next (s.afterInstr 1 (h.result rd (a - b - BitVec.ofNat 32 (1 - h.c.toNat))
      (decide (b.toNat + (1 - h.c.toNat) ≤ a.toNat))
      (decide (a.toInt - b.toInt - (1 - h.c.toNat : Nat) < -2 ^ 31 ∨ 2 ^ 31 ≤ a.toInt - b.toInt - (1 - h.c.toNat : Nat))))) ∧
    exec (.addss rd ra rb) s = .next (s.afterInstr 1 (h.result rd
      (if BitVec.saddOverflow a b then (if a.msb then 0x80000000 else 0x7FFFFFFF) else a + b) h.c (BitVec.saddOverflow a b))) ∧
    exec (.subss rd ra rb) s = .next (s.afterInstr 1 (h.result rd
      (if BitVec.ssubOverflow a b then (if a.msb then 0x80000000 else 0x7FFFFFFF) else a - b) h.c (BitVec.ssubOverflow a b))) ∧
    exec (.addus rd ra rb) s = .next (s.afterInstr 1 (h.result rd
      (if 2 ^ 32 ≤ a.toNat + b.toNat then 0xFFFFFFFF else a + b) h.c (decide (2 ^ 32 ≤ a.toNat + b.toNat)))) ∧
    exec (.subus rd ra rb) s = .next (s.afterInstr 1 (h.result rd
      (if a.toNat < b.toNat then 0 else a - b) h.c (decide (a.toNat < b.toNat))))

/-- R258: bitwise operations write Z and N; a shift also writes C with the last bit shifted out, and a shift by 0 leaves C. -/
def Claims.LogicAndShiftsGiveResultAndFlags : Prop :=
  ∀ (s : State) (rd ra rb : BitVec 4), s.awake = true → s.dev.willRun = true →
    let a := s.dev.w ra
    let b := s.dev.w rb
    let n := b.toNat % 32
    let h := s.dev.hearth
    exec (.andR rd ra rb) s = .next (s.afterInstr 1 (h.result rd (a &&& b) h.c h.v)) ∧
    exec (.orR rd ra rb) s = .next (s.afterInstr 1 (h.result rd (a ||| b) h.c h.v)) ∧
    exec (.xorR rd ra rb) s = .next (s.afterInstr 1 (h.result rd (a ^^^ b) h.c h.v)) ∧
    exec (.bic rd ra rb) s = .next (s.afterInstr 1 (h.result rd (a &&& ~~~b) h.c h.v)) ∧
    exec (.shl rd ra rb) s = .next (s.afterInstr 1 (h.result rd (BitVec.ofNat 32 (a.toNat * 2 ^ n))
      (if n = 0 then h.c else (a.toNat * 2 ^ n).testBit 32) h.v)) ∧
    exec (.shr rd ra rb) s = .next (s.afterInstr 1 (h.result rd (BitVec.ofNat 32 (a.toNat / 2 ^ n))
      (if n = 0 then h.c else a.getLsbD (n - 1)) h.v)) ∧
    exec (.sar rd ra rb) s = .next (s.afterInstr 1 (h.result rd (BitVec.ofInt 32 (a.toInt / 2 ^ n))
      (if n = 0 then h.c else a.getLsbD (n - 1)) h.v)) ∧
    exec (.ror rd ra rb) s = .next (s.afterInstr 1 (h.result rd ((a >>> n) ||| (a <<< ((32 - n) % 32)))
      (if n = 0 then h.c else a.getLsbD (n - 1)) h.v))

/-- R258: products take two cycles; minima and maxima, the leading zeros and the saturating absolute value write Z and N (and V); CMP and TST
write flags only; MOV writes no flag. -/
def Claims.ProductsExtremaAndComparisonsGiveResultAndFlags : Prop :=
  ∀ (s : State) (rd ra rb : BitVec 4), s.awake = true → s.dev.willRun = true →
    let a := s.dev.w ra
    let b := s.dev.w rb
    let h := s.dev.hearth
    exec (.mul rd ra rb) s = .next (s.afterInstr 2 (h.result rd (BitVec.ofNat 32 (a.toNat * b.toNat)) h.c h.v)) ∧
    exec (.mulh rd ra rb) s = .next (s.afterInstr 2 (h.result rd ((a.signExtend 64 * b.signExtend 64).extractLsb' 32 32) h.c h.v)) ∧
    exec (.mulhu rd ra rb) s = .next (s.afterInstr 2 (h.result rd ((a.zeroExtend 64 * b.zeroExtend 64).extractLsb' 32 32) h.c h.v)) ∧
    exec (.min rd ra rb) s = .next (s.afterInstr 1 (h.result rd (if a.slt b then a else b) h.c h.v)) ∧
    exec (.max rd ra rb) s = .next (s.afterInstr 1 (h.result rd (if a.slt b then b else a) h.c h.v)) ∧
    exec (.minu rd ra rb) s = .next (s.afterInstr 1 (h.result rd (if a.ult b then a else b) h.c h.v)) ∧
    exec (.maxu rd ra rb) s = .next (s.afterInstr 1 (h.result rd (if a.ult b then b else a) h.c h.v)) ∧
    exec (.cmp ra rb) s = .next (s.afterInstr 1 (h.flagsOf (a - b) (decide (b.toNat ≤ a.toNat)) (BitVec.ssubOverflow a b))) ∧
    exec (.tst ra rb) s = .next (s.afterInstr 1 (h.flagsOf (a &&& b) h.c h.v)) ∧
    exec (.mov rd ra) s = .next (s.afterInstr 1 (h.moved rd a)) ∧
    exec (.clz rd ra) s = .next (s.afterInstr 1 (h.result rd (BitVec.ofNat 32 (if a = 0 then 32 else 31 - a.toNat.log2)) h.c h.v)) ∧
    exec (.abss rd ra) s = .next (s.afterInstr 1 (h.result rd
      (if a = 0x80000000 then 0x7FFFFFFF else if a.msb then -a else a) h.c (decide (a = 0x80000000))))

/-- R259, R260: the immediate forms extend imm18 by sign (ADDI, CMPI) or by zero; SHI selects the shift by imm18[6:5]; MOVL and MOVH build a
constant; CSEL selects by a condition. -/
def Claims.ImmediateAndSelectInstructionsGiveResultAndFlags : Prop :=
  ∀ (s : State) (rd ra rb cond : BitVec 4) (imm : BitVec 18) (m : BitVec 16), s.awake = true → s.dev.willRun = true →
    let a := s.dev.w ra
    let b := s.dev.w rb
    let h := s.dev.hearth
    let i := imm.signExtend 32
    let n := imm.toNat % 32
    exec (.addi rd ra imm) s = .next (s.afterInstr 1 (h.result rd (a + i) (decide (2 ^ 32 ≤ a.toNat + i.toNat)) (BitVec.saddOverflow a i))) ∧
    exec (.andi rd ra imm) s = .next (s.afterInstr 1 (h.result rd (a &&& BitVec.ofNat 32 imm.toNat) h.c h.v)) ∧
    exec (.ori rd ra imm) s = .next (s.afterInstr 1 (h.result rd (a ||| BitVec.ofNat 32 imm.toNat) h.c h.v)) ∧
    exec (.xori rd ra imm) s = .next (s.afterInstr 1 (h.result rd (a ^^^ BitVec.ofNat 32 imm.toNat) h.c h.v)) ∧
    exec (.cmpi ra imm) s = .next (s.afterInstr 1 (h.flagsOf (a - i) (decide (i.toNat ≤ a.toNat)) (BitVec.ssubOverflow a i))) ∧
    exec (.movl rd m) s = .next (s.afterInstr 1 (h.moved rd (BitVec.ofNat 32 m.toNat))) ∧
    exec (.movh rd m) s = .next (s.afterInstr 1 (h.moved rd (BitVec.ofNat 32 (m.toNat * 2 ^ 16 + (s.dev.w rd).toNat % 2 ^ 16)))) ∧
    (imm.toNat < 128 → exec (.shi rd ra imm) s = .next (s.afterInstr 1 (h.result rd
      (if imm.toNat / 32 = 0 then BitVec.ofNat 32 (a.toNat * 2 ^ n) else if imm.toNat / 32 = 1 then BitVec.ofNat 32 (a.toNat / 2 ^ n)
        else if imm.toNat / 32 = 2 then BitVec.ofInt 32 (a.toInt / 2 ^ n) else (a >>> n) ||| (a <<< ((32 - n) % 32)))
      (if n = 0 then h.c else if imm.toNat / 32 = 0 then (a.toNat * 2 ^ n).testBit 32 else a.getLsbD (n - 1)) h.v))) ∧
    (cond ≠ 8 → exec (.csel rd ra rb cond) s = .next (s.afterInstr 1 (h.moved rd (if s.dev.cond cond then a else b))))

/-! ### Hearth: data SRAM (R237, R239, R244, R261, R262) -/

/-- R261: a load reads its bytes, the most significant first (the byte order is the model's DEDUCED choice), extends them and
takes two cycles; it writes no flag, and memory is unchanged. -/
def Claims.LoadsReadDataSram : Prop :=
  ∀ (s : State) (rd ra : BitVec 4) (imm : BitVec 18) (e : Ecc), s.awake = true → s.dev.willRun = true → e ≠ .uncorrectable →
    let a := (s.dev.w ra + imm.signExtend 32).toNat
    let h := s.dev.hearth
    let half := s.mems.byte a ++ s.mems.byte (a + 1)
    (s.dev.mayUse a 4 → a % 4 = 0 → exec (.ldw rd ra imm e) s = .next ((s.afterEcc e).afterInstr 2 (h.moved rd (s.mems.word a)))) ∧
    (s.dev.mayUse a 2 → a % 2 = 0 →
      exec (.ldh rd ra imm e) s = .next ((s.afterEcc e).afterInstr 2 (h.moved rd (half.signExtend 32))) ∧
      exec (.ldhu rd ra imm e) s = .next ((s.afterEcc e).afterInstr 2 (h.moved rd (half.zeroExtend 32)))) ∧
    (s.dev.mayUse a 1 →
      exec (.ldb rd ra imm e) s = .next ((s.afterEcc e).afterInstr 2 (h.moved rd ((s.mems.byte a).signExtend 32))) ∧
      exec (.ldbu rd ra imm e) s = .next ((s.afterEcc e).afterInstr 2 (h.moved rd ((s.mems.byte a).zeroExtend 32))))

/-- R261: a store writes the low bytes of its register at (ra + imm18) and every other byte of every memory stays; STW takes one cycle,
STH and STB take two. -/
def Claims.StoresWriteTheirBytesOnly : Prop :=
  ∀ (s : State) (rs ra : BitVec 4) (imm : BitVec 18) (e : Ecc), s.awake = true → s.dev.willRun = true → e ≠ .uncorrectable →
    let a := (s.dev.w ra + imm.signExtend 32).toNat
    let v := s.dev.w rs
    let h := s.dev.hearth
    (s.dev.mayUse a 4 → a % 4 = 0 →
      ∃ m : Mems, exec (.stw rs ra imm) s = .next ({ s with mems := m }.afterInstr 1 h) ∧ m.word a = v ∧
        (∀ x, (x < a ∨ a + 4 ≤ x) → m.byte x = s.mems.byte x) ∧ m.prog = s.mems.prog ∧ m.nand = s.mems.nand) ∧
    (s.dev.mayUse a 2 → a % 2 = 0 →
      ∃ m : Mems, exec (.sth rs ra imm e) s = .next (({ s with mems := m }.afterEcc e).afterInstr 2 h) ∧
        m.byte a ++ m.byte (a + 1) = v.extractLsb' 0 16 ∧
        (∀ x, (x < a ∨ a + 2 ≤ x) → m.byte x = s.mems.byte x) ∧ m.prog = s.mems.prog ∧ m.nand = s.mems.nand) ∧
    (s.dev.mayUse a 1 →
      ∃ m : Mems, exec (.stb rs ra imm e) s = .next (({ s with mems := m }.afterEcc e).afterInstr 2 h) ∧
        m.byte a = v.extractLsb' 0 8 ∧
        (∀ x, x ≠ a → m.byte x = s.mems.byte x) ∧ m.prog = s.mems.prog ∧ m.nand = s.mems.nand)

/-- R262: PUSH stores the registers of its mask below W14, the lowest-numbered at the lowest address; POP loads them back and raises W14. Each
takes one cycle and one for each register. -/
def Claims.PushAndPopMoveTheMaskedRegisters : Prop :=
  ∀ (s : State) (mask : BitVec 16) (e : Ecc), s.awake = true → s.dev.willRun = true → e ≠ .uncorrectable →
    mask ≠ 0 → mask.getLsbD 14 = false →
    let l := regsOf mask
    let h := s.dev.hearth
    let a := (s.dev.w 14 - BitVec.ofNat 32 (4 * l.length)).toNat
    let b := (s.dev.w 14).toNat
    (s.dev.mayUse a (4 * l.length) → a % 4 = 0 →
      ∃ m : Mems, exec (.push mask) s = .next ({ s with mems := m }.afterInstr (1 + l.length) (h.moved 14 (BitVec.ofNat 32 a))) ∧
        (∀ k r, l[k]? = some r → m.word (a + 4 * k) = s.dev.w (BitVec.ofNat 4 r)) ∧
        (∀ x, (x < a ∨ a + 4 * l.length ≤ x) → m.byte x = s.mems.byte x) ∧ m.prog = s.mems.prog ∧ m.nand = s.mems.nand) ∧
    (s.dev.mayUse b (4 * l.length) → b % 4 = 0 →
      exec (.pop mask e) s = .next ((s.afterEcc e).afterInstr (1 + l.length) { h with
        w := upd (l.zipIdx.foldl (fun w p => upd w p.1 (fun _ => s.mems.word (b + 4 * p.2))) h.w) 14
          (fun _ => s.dev.w 14 + BitVec.ofNat 32 (4 * l.length)) }))

/-- R239, R244: an address outside data SRAM or misaligned raises ADDR, and an uncorrectable codeword MEM 0x02 and the MEM exception: no
data is written and no register is loaded. What the exception then does is stated of its own. -/
def Claims.BadDataAddressesRaiseAddrWithoutEffect : Prop :=
  ∀ (s : State) (r ra : BitVec 4) (imm : BitVec 18) (e : Ecc), s.awake = true → s.dev.willRun = true →
    let a := (s.dev.w ra + imm.signExtend 32).toNat
    let traps (c : Instr) : Prop := exec c s = .next { s with dev := (s.dev.exception (Exc.addr (BitVec.ofNat 32 a)) false).settle }
    let memTraps (c : Instr) : Prop :=
      exec c s = .next { s with dev := ((s.dev.post 4 1 2 0).exception (Exc.mem (BitVec.ofNat 32 a)) false).settle }
    (0x20000 < a + 4 ∨ a % 4 ≠ 0 → traps (.ldw r ra imm e) ∧ traps (.stw r ra imm)) ∧
    (0x20000 < a + 2 ∨ a % 2 ≠ 0 → traps (.ldh r ra imm e) ∧ traps (.ldhu r ra imm e) ∧ traps (.sth r ra imm e)) ∧
    (0x20000 < a + 1 → traps (.ldb r ra imm e) ∧ traps (.ldbu r ra imm e) ∧ traps (.stb r ra imm e)) ∧
    (s.dev.mayUse a 4 → a % 4 = 0 → memTraps (.ldw r ra imm .uncorrectable) ∧ memTraps (.ldh r ra imm .uncorrectable) ∧
      memTraps (.ldhu r ra imm .uncorrectable) ∧ memTraps (.ldb r ra imm .uncorrectable) ∧ memTraps (.ldbu r ra imm .uncorrectable))

/-! ### Hearth: control flow, exceptions, interrupts (R234, R244 to R257, R264 to R266, R304) -/

/-- R264, R234: branches and calls go to a bank offset modulo 8,192 of the active bank; CALL and CALLR leave the return offset in W15. -/
def Claims.ControlTransfersSetTheProgramCounter : Prop :=
  ∀ (s : State) (cond ra : BitVec 4) (off : BitVec 14), s.awake = true → s.dev.willRun = true →
    let h := s.dev.hearth
    let pc := s.dev.hearth.pc.toNat % 8192
    let dest := (((pc : Int) + off.toInt) % 8192).toNat
    (cond ≠ 8 → s.dev.cond cond = true → exec (.branch cond off) s = .next (s.afterJump 2 h dest)) ∧
    (cond ≠ 8 → s.dev.cond cond = false → exec (.branch cond off) s = .next (s.afterInstr 1 h)) ∧
    exec (.call off) s = .next (s.afterJump 2 (h.moved 15 (BitVec.ofNat 32 ((pc + 1) % 8192))) dest) ∧
    exec (.jr ra) s = .next (s.afterJump 2 h (s.dev.w ra).toNat) ∧
    exec (.callr ra) s = .next (s.afterJump 2 (h.moved 15 (BitVec.ofNat 32 ((pc + 1) % 8192))) (s.dev.w ra).toNat)

/-- R257: what each condition code tests, that code c + 8 is its inverse, and that code 8 raises an ILL exception with the bank offset of the
instruction, in a branch and in CSEL. -/
def Claims.ConditionCodesTestTheFlags : Prop :=
  (∀ (d : Dev),
    let h := d.hearth
    d.cond 0 = true ∧ d.cond 1 = h.z ∧ d.cond 2 = h.n ∧ d.cond 3 = h.c ∧ d.cond 4 = h.v ∧ d.cond 5 = (h.c && !h.z) ∧
    d.cond 6 = (h.n ^^ h.v) ∧ d.cond 7 = (h.z || (h.n ^^ h.v)) ∧
    ∀ c : BitVec 4, c.toNat < 8 → d.cond (c + 8) = !d.cond c) ∧
  ∀ (s : State) (rd ra rb : BitVec 4) (off : BitVec 14), s.awake = true → s.dev.willRun = true →
    let ill : Dev := s.dev.exception ⟨1, BitVec.ofNat 32 (s.dev.hearth.pc.toNat % 8192)⟩ false
    exec (.branch 8 off) s = .next { s with dev := ill.settle } ∧ exec (.csel rd ra rb 8) s = .next { s with dev := ill.settle }

/-- R246, R249, R250: what an exception does before the cycle ends. In user mode it enters its vector, saving the offset and the flags, mode
and IEN, and posts an L0 SEQ notice; in supervisor mode an L1 SEQ fault is posted and no vector is entered. -/
def Claims.ExceptionsSaveTheContextAndEnterTheirVector : Prop :=
  ∀ (d : Dev) (e : Exc) (next : Bool), e.cause < 8 →
    let t := d.exception e next
    t.get F.SEQ_EXC_CAUSE = e.cause ∧ t.get F.SEQ_EXCI_INFO = e.info.toNat ∧ t.hearth.w = d.hearth.w ∧
    (d.hearth.user = true →
      t.get F.SEQ_EPC_EPC = (d.hearth.pc.toNat % 8192 + next.toNat) % 8192 ∧
      t.bit F.SEQ_ESR_Z = d.hearth.z ∧ t.bit F.SEQ_ESR_N = d.hearth.n ∧ t.bit F.SEQ_ESR_C = d.hearth.c ∧ t.bit F.SEQ_ESR_V = d.hearth.v ∧
      t.bit F.SEQ_ESR_MODE = true ∧ t.bit F.SEQ_ESR_IEN = d.bit F.SEQ_CTL_IEN ∧ t.bit F.SEQ_CTL_IEN = false ∧
      t.hearth.user = false ∧ t.hearth.busy = 2 ∧ t.hearth.pc = BitVec.ofNat 14 (d.get F.SEQ_BANK_ACT * 8192 + e.cause) ∧
      t.posted = d.posted ++ [⟨8, 0, 1, BitVec.ofNat 32 e.cause, false⟩] ∧
      d.keepsRegs t [R.SEQ_EXC, R.SEQ_EXCI, R.SEQ_EPC, R.SEQ_ESR, R.SEQ_CTL]) ∧
    (d.hearth.user = false →
      t.hearth = d.hearth ∧ t.posted = d.posted ++ [⟨8, 1, 2, BitVec.ofNat 32 e.cause, false⟩] ∧ d.keepsRegs t [R.SEQ_EXC, R.SEQ_EXCI])

/-- R255, R265, R266, R304: an undefined word raises ILL, SVC and YIELD in user mode take their exception with SEQ_EPC at the next instruction, a
fetch outside the user region raises PRIV. -/
def Claims.TrapsTakeTheirException : Prop :=
  ∀ (s : State) (w : Word) (n : BitVec 8), s.awake = true →
    let pc := s.dev.hearth.pc.toNat % 8192
    let takes (c : Instr) (d : Dev) : Prop := exec c s = .next { s with dev := d.settle }
    (s.dev.willRun = true → takes (.illegalOpcode w) (s.dev.exception ⟨1, BitVec.ofNat 32 pc⟩ false)) ∧
    (s.dev.willRun = true → s.dev.hearth.user = true →
      takes (.svc n) (s.dev.exception ⟨6, n.zeroExtend 32⟩ true) ∧ takes .yield (s.dev.exception ⟨7, 0⟩ true)) ∧
    (s.dev.issues = true → s.dev.hearth.user = true → (pc < s.dev.get F.SEQ_UREG_USTART ∨ s.dev.get F.SEQ_UREG_UEND ≤ pc) →
      takes .userFetchOutsideRegion (s.dev.exception ⟨2, BitVec.ofNat 32 pc⟩ false))

/-- R252: RETI in supervisor mode restores the flags, MODE and IEN from SEQ_ESR and goes on at SEQ_EPC. R266: a supervisor YIELD begins to
wait and writes nothing. -/
def Claims.ReturnRestoresAndSupervisorYieldWaits : Prop :=
  ∀ (s : State), s.awake = true → s.dev.willRun = true → s.dev.hearth.user = false →
    let d := s.dev
    exec .reti s = .next ({ s with dev := d.putB F.SEQ_CTL_IEN (d.bit F.SEQ_ESR_IEN) }.afterJump 2 { d.hearth with
      z := d.bit F.SEQ_ESR_Z, n := d.bit F.SEQ_ESR_N, c := d.bit F.SEQ_ESR_C, v := d.bit F.SEQ_ESR_V, user := d.bit F.SEQ_ESR_MODE }
      (d.get F.SEQ_EPC_EPC)) ∧
    exec .yield s = .next { s with dev := ({ d with hearth := { d.hearth with wait := some ⟨.yield, 0, 0, d.cycle⟩ } } : Dev).settle }

/-- R246: at a boundary with IEN = 1 the lowest pending enabled line is taken: SEQ_EPC and SEQ_ESR are saved, supervisor mode and IEN = 0 are
entered, and the vector is 0x10 + line; the pending bit stays. -/
def Claims.InterruptEntryTakesTheLowestLine : Prop :=
  ∀ (s : State) (n : Nat), s.awake = true → s.dev.hearth.run = true → s.dev.hearth.wait = none → s.dev.bit F.SEQ_CTL_IEN = true →
    n < 16 → s.dev.bitAt F.SEQ_IP_IP n = true → s.dev.bitAt F.SEQ_IE_IE n = true →
    (∀ m < n, (s.dev.bitAt F.SEQ_IP_IP m && s.dev.bitAt F.SEQ_IE_IE m) = false) →
    let d := s.dev
    ∃ t : Dev, exec .interruptEntry s = .next { s with dev := t.settle } ∧
      t.get F.SEQ_EPC_EPC = d.hearth.pc.toNat % 8192 ∧
      t.bit F.SEQ_ESR_Z = d.hearth.z ∧ t.bit F.SEQ_ESR_N = d.hearth.n ∧ t.bit F.SEQ_ESR_C = d.hearth.c ∧ t.bit F.SEQ_ESR_V = d.hearth.v ∧
      t.bit F.SEQ_ESR_MODE = d.hearth.user ∧ t.bit F.SEQ_ESR_IEN = true ∧ t.bit F.SEQ_CTL_IEN = false ∧
      t.hearth = { d.hearth with user := false, busy := 2, pc := BitVec.ofNat 14 (d.get F.SEQ_BANK_ACT * 8192 + (16 + n)) } ∧
      t.rd R.SEQ_IP = d.rd R.SEQ_IP ∧
      d.keepsRegs t [R.SEQ_EPC, R.SEQ_ESR, R.SEQ_CTL, R.PRF_SAMP]

/-- R244: an uncorrectable codeword of a fetch halts Hearth before the instruction and raises MEM 0x03 with the bank. -/
def Claims.FetchUncorrectableHaltsHearth : Prop :=
  ∀ (s : State), s.awake = true → s.dev.issues = true →
    let d := s.dev
    exec .fetchUncorrectable s = .next { s with dev := (({ d with hearth := { d.hearth with run := false, wait := none, busy := 0 } }.put
      F.SEQ_STAT_HCAUSE 3).post 4 2 3 (BitVec.ofNat 32 (d.get F.SEQ_BANK_ACT))).settle }

/-! ### Hearth: the register port, waits, and the device instructions (R240 to R242, R267 to R287) -/

/-- R240, R241, R263: with the write buffer empty, LDR loads what a read of the register gives, with the side effects of the read, in three
cycles; an STR is posted to the buffer, and one to the SEQ block has taken effect before the next instruction. -/
def Claims.RegisterPortReadsAndPostsWrites : Prop :=
  ∀ (s : State) (r ra : BitVec 4) (imm : BitVec 18), s.awake = true → s.dev.willRun = true →
    let a := (s.dev.w ra + imm.signExtend 32).toNat % 65536
    let v := s.dev.w r
    let h := s.dev.hearth
    a % 4 = 0 →
    (h.user = true → s.dev.bitAt F.SEQ_GRANT_BLK (a / 4096) = true ∧ a / 4096 ≠ 2 ∧ a / 4096 ≠ 5 ∧ a / 4096 ≠ 9 ∧ a / 4096 ≠ 12) →
    (h.wbuf = [] →
      let x := (s.dev.event 5 1).readReg a
      exec (.ldr r ra imm) s = .next ({ s with dev := x.2 }.afterInstr 3 (x.2.hearth.moved r x.1))) ∧
    (Dev.authOnly a = false → (a = R.BST_CTL → v.getLsbD 8 = false) →
      (a / 4096 ≠ 2 → h.wbuf.length < 2 → exec (.str r ra imm) s = .next (s.afterInstr 1 { h with wbuf := h.wbuf ++ [(BitVec.ofNat 16 a, v)] })) ∧
      (a / 4096 = 2 → h.wbuf = [] →
        let d := (s.dev.writeReg .hearth a v).2.event 5 1
        exec (.str r ra imm) s = .next ({ s with dev := d }.afterInstr 2 d.hearth)))

/-- R240, R242: a misaligned register address raises ADDR, and an STR to a register reserved to authenticated frames, or one of BST_CTL with
LBH = 1, raises PRIV; nothing is read, posted or written. -/
def Claims.RegisterPortTrapsWithoutEffect : Prop :=
  ∀ (s : State) (r ra : BitVec 4) (imm : BitVec 18), s.awake = true → s.dev.willRun = true →
    let a := (s.dev.w ra + imm.signExtend 32).toNat % 65536
    let traps (c : Instr) (e : Exc) : Prop := exec c s = .next { s with dev := (s.dev.exception e false).settle }
    (a % 4 ≠ 0 → traps (.ldr r ra imm) (Exc.addr (BitVec.ofNat 32 a)) ∧ traps (.str r ra imm) (Exc.addr (BitVec.ofNat 32 a))) ∧
    (a % 4 = 0 → (Dev.authOnly a = true ∨ (a = R.BST_CTL ∧ (s.dev.w r).getLsbD 8 = true)) →
      traps (.str r ra imm) (Exc.priv (BitVec.ofNat 32 a)))

/-- R270, R271, R275: WAITT and WAITPH begin a wait on an absolute target or on one relative to the value at issue, with the event mask of
rm[15:0]; fetching stops, and no register or flag is written. -/
def Claims.WaitsFixTheirTargetAtIssue : Prop :=
  ∀ (s : State) (rd ra rb rm : BitVec 4), s.awake = true → s.dev.willRun = true →
    let d := s.dev
    let waits (k : WaitKind) : State :=
      { s with dev := ({ d with hearth := { d.hearth with wait := some ⟨k, rd, (d.w rm).truncate 16, d.cycle⟩ } } : Dev).settle }
    exec (.waitt rd ra rb rm true) s =
      .next (waits (.time (BitVec.ofNat 48 ((d.w rb).toNat % 2 ^ 16 * 2 ^ 32 + (d.w ra).toNat)))) ∧
    exec (.waitt rd ra 0 rm false) s = .next (waits (.time (d.tb + (d.w ra).zeroExtend 48))) ∧
    exec (.waitph rd ra rm true) s = .next (waits (.phase (d.w ra))) ∧
    exec (.waitph rd ra rm false) s = .next (waits (.phase (d.phase + d.w ra)))

/-- R272 to R274: how a WAITT in progress ends. A masked event comes before the target; rd takes SEQ_IP AND mask, and Z tells a timeout, which
only a wait with a mask has. -/
def Claims.WaitsEndByEventOrTarget : Prop :=
  ∀ (s : State) (wt : Wait) (t : BitVec 48), s.awake = true → s.dev.hearth.wait = some wt → wt.kind = .time t → wt.issued < s.dev.cycle →
    let d := s.dev
    let hit := d.get F.SEQ_IP_IP &&& wt.mask.toNat
    let ends (z : Bool) : State := s.afterInstr d.hearth.busy { d.hearth with
      w := upd d.hearth.w wt.rd.toNat (fun _ => BitVec.ofNat 32 hit), z := z, n := false, c := false, v := false, wait := none }
    (hit ≠ 0 → exec .waitEnd s = .next (ends false)) ∧
    (hit = 0 → (d.tb - t).toNat < 2 ^ 47 → exec .waitEnd s = .next (ends (decide (wt.mask ≠ 0)))) ∧
    (hit = 0 → 2 ^ 47 ≤ (d.tb - t).toNat → exec .waitEnd s = .next { s with dev := d.settle })

/-- R267, R269: MEAS acts as CONV_CMD does, and rd takes the CONV_MISSC bit of the cause of a refusal, 0 when accepted. -/
def Claims.MeasActsAsConvCmd : Prop :=
  ∀ (s : State) (rd ra : BitVec 4) (drw : BitVec 2) (aux cur : Bool) (slot : BitVec 4), s.awake = true → s.dev.willRun = true →
    s.dev.isHead = false → (s.dev.hearth.user = true → s.dev.bit F.SEQ_GRANT_MEAS = true) →
    let d := s.dev
    let does (c : Instr) (x : Option Fld × Dev) : Prop := exec c s = .next ({ s with dev := x.2 }.afterInstr 2
      (x.2.hearth.commanded rd (match x.1 with | none => 0 | some f => 2 ^ f.lo)))
    does (.measGo rd) d.softwareTrigger ∧
    does (.measArm rd) (none, { d with conv := { d.conv with armed := true } }) ∧
    does (.measDisarm rd) (none, { d with conv := { d.conv with armed := false } }) ∧
    does (.measStop rd) (none, d.stopSweep) ∧
    does (.measInj rd ra drw aux cur slot) (d.requestInjection (d.w ra) cur aux slot.toNat drw.toNat)

/-- R276, R277, R186: DRAW reads one published result of a member whole, as it stood before a publication of this cycle; the marks set the
flags, and no result changes. -/
def Claims.DrawReadsOneResultWhole : Prop :=
  ∀ (s : State) (rd ra : BitVec 4) (ch : BitVec 6) (drw : BitVec 2) (cr : Bool) (nm1 : BitVec 3), s.awake = true → s.dev.willRun = true →
    s.dev.isHead = false → nm1.toNat < 6 → rd.toNat + nm1.toNat ≤ 15 → (cr = true → ch = 0) →
    let d := s.dev
    let h := d.hearth
    let c := if cr then (d.w ra).toNat % 64 else ch.toNat
    let w := if c < 34 then d.drawer c drw.toNat else d.exc (c - 34)
    let r := w.before.getD w.vis
    let words := (r.status :: (List.range 5).map (fun i => r.word (decide (34 ≤ c)) i)).take (nm1.toNat + 1)
    let windowed := 34 ≤ c ∨ 2 ≤ d.get (F.ACC_DCFG_MODE (groupOf c) drw.toNat)
    c ≤ 37 →
    exec (.draw rd ra ch drw cr nm1) s = .next (s.afterInstr (2 + nm1.toNat) { h with
      w := words.zipIdx.foldl (fun l p => upd l (rd.toNat + p.2) (fun _ => p.1)) h.w
      z := !r.valid, c := r.isNew, n := r.range || r.diag || r.qshort || r.gap || r.sat
      v := r.cstale || r.cmix || (!r.phv && decide windowed) })

/-- R281, R282: BAL commands a transfer with the charge and current of ra, or a stop, which is always accepted; rd takes the cause. -/
def Claims.BalInstructionsCommandTheShelves : Prop :=
  ∀ (s : State) (rd ra : BitVec 4) (sh : Fin 4) (cell : Fin 8) (dir : Bool), s.awake = true → s.dev.willRun = true →
    (s.dev.hearth.user = true → s.dev.bit F.SEQ_GRANT_BAL = true) →
    let d := s.dev
    let q := (d.w ra).toNat % 2 ^ 16
    let i := (d.w ra).toNat / 2 ^ 16
    let x := d.balTransfer sh (8 * sh + cell) dir q i true false
    (q ≠ 0 → i ≤ 3000 →
      exec (.balTransfer rd ra sh cell dir) s = .next ({ s with dev := x.2 }.afterInstr 2 (x.2.hearth.commanded rd x.1))) ∧
    (q = 0 ∨ 3000 < i → exec (.balTransfer rd ra sh cell dir) s = .next { s with dev := (d.exception (Exc.opnd (d.w ra)) false).settle }) ∧
    exec (.balStopShelf rd sh) s = .next ({ s with dev := d.endWork sh 2 }.afterInstr 2 ((d.endWork sh 2).hearth.commanded rd 0)) ∧
    exec (.balStopAll rd) s = .next ({ s with dev := d.endAll 2 }.afterInstr 2 ((d.endAll 2).hearth.commanded rd 0))

/-- R278, R279, R629: SEND builds a report or log transfer frame from data SRAM and queues it, or is refused with FULL, NOKEY or STATE. -/
def Claims.SendQueuesOrRefuses : Prop :=
  ∀ (s : State) (rd ra rb : BitVec 4) (auth blk : Bool) (n : Nat), s.awake = true → s.dev.willRun = true → s.dev.hearth.user = false →
    let d := s.dev
    let w := d.w rb
    let a := (d.w ra).toNat
    let f := d.sendFrame w (Store.readAll Mems.dataDflt s.mems.data a n)
    let cyc := 1 + (n + 7) / 8
    let refuses (k : Nat) : Prop := exec (.send rd ra rb auth blk) s = .next (s.afterInstr cyc (d.hearth.commanded rd k))
    1 ≤ n → n ≤ 256 → w.toNat % 2 ^ 16 = n → w.toNat / 2 ^ 23 < 4 → w.toNat / 2 ^ 23 % 2 = 0 → s.dev.mayUse a n → a % 4 = 0 →
    (d.bit F.FLT_STAT_LKO = true ∨ (auth = true ∧ d.bit F.SEC_STAT_ASTOP = true) → refuses 3) ∧
    (d.bit F.FLT_STAT_LKO = false → (auth = true → d.bit F.SEC_STAT_ASTOP = false) → auth = true → d.keys.ks = none → refuses 2) ∧
    (d.bit F.FLT_STAT_LKO = false → auth = false → 8 ≤ d.txqCount → blk = false → refuses 1) ∧
    (d.bit F.FLT_STAT_LKO = false → auth = false → d.txqCount < 8 →
      let t := ({ d with chain := { d.chain with frameCount := d.chain.frameCount + 1 } } : Dev).pushOwn f true false false
      exec (.send rd ra rb auth blk) s = .next ({ s with dev := t }.afterInstr cyc
        { t.hearth with w := upd t.hearth.w rd.toNat (fun _ => d.chain.frameCount.zeroExtend 32), z := true }))

/-- R280: RECV takes the oldest frame of its queue: the header to rd, as many payload bytes as fit to data SRAM, and the flags; an empty
queue with BLK = 0 sets Z alone, and with BLK = 1 stalls. -/
def Claims.RecvTakesTheOldestFrame : Prop :=
  ∀ (s : State) (rd ra rb : BitVec 4) (blk : Bool), s.awake = true → s.dev.willRun = true → s.dev.hearth.user = false →
    let d := s.dev
    let h := d.hearth
    let n := (d.w rb).toNat
    let a := (d.w ra).toNat
    1 ≤ n → n ≤ 256 → d.mayUse a n → a % 4 = 0 →
    (h.rxq = [] → exec (.recv rd ra rb false) s = .next (s.afterInstr 1 { h with z := true, n := false, c := false, v := false })) ∧
    (h.rxq = [] → exec (.recv rd ra rb true) s =
      .next { s with dev := ({ d with hearth := { h with wait := some (⟨.recv rd ra rb, rd, 0, d.cycle⟩ : Wait) } } : Dev).settle }) ∧
    (∀ f t, h.rxq = f :: t → ∃ m : Mems,
      exec (.recv rd ra rb blk) s = .next ({ s with mems := m }.afterInstr (1 + ((f.frame.payload.take n).length + 7) / 8) { h with
        rxq := t, w := upd h.w rd.toNat (fun _ => BitVec.ofNat 32 (ofBeBytes (frameHeader f.frame)))
        z := false, n := false, c := f.passed, v := decide (n < f.frame.payload.length) }) ∧
      (∀ i, i < (f.frame.payload.take n).length → m.byte (a + i) = nth f.frame.payload i 0) ∧
      (∀ x, (x < a ∨ a + (f.frame.payload.take n).length ≤ x) → m.byte x = s.mems.byte x) ∧ m.prog = s.mems.prog ∧ m.nand = s.mems.nand)

/-- R283, R284, R285: CRC writes CHK_START and CHK_LEN and asks for a scan; LOG appends a record with its tag, or is refused with UNAVAIL
or FULL; RAISE posts a fault of the program, which the end of its cycle latches. -/
def Claims.CrcLogAndRaiseAct : Prop :=
  ∀ (s : State) (rd ra rb : BitVec 4) (sp : BitVec 2) (res blk : Bool) (cls : BitVec 4) (lvl : BitVec 2) (code : Byte) (n : Nat),
    s.awake = true → s.dev.willRun = true → s.dev.hearth.user = false →
    let d := s.dev
    let h := d.hearth
    let a := (d.w ra).toNat
    let x := ((d.wr R.CHK_START (d.w ra)).wr R.CHK_LEN (d.w rb)).chkStart sp.toNat res false
    exec (.crc rd ra rb sp res) s = .next ({ s with dev := x.2 }.afterInstr 2 (x.2.hearth.commanded rd x.1)) ∧
    (1 ≤ n → n ≤ 4096 → (d.w rb).toNat % 2 ^ 16 = n → a % 4 = 0 → d.mayUse a n →
      (d.logFault = true → exec (.logRec rd ra rb blk) s = .next (s.afterInstr (1 + (n + 7) / 8) (h.commanded rd 2))) ∧
      (d.logFault = false → 4 ≤ d.log.progQ.length →
        exec (.logRec rd ra rb false) s = .next (s.afterInstr (1 + (n + 7) / 8) (h.commanded rd 1))) ∧
      (d.logFault = false → d.log.progQ.length < 4 → d.mounted = false →
        let r : LogRec := ⟨0x80, BitVec.ofNat 16 ((d.w rb).toNat / 2 ^ 16), Store.readAll Mems.dataDflt s.mems.data a n, true, 0, 0, d.cycle⟩
        exec (.logRec rd ra rb blk) s = .next ({ s with dev := { d with log := { d.log with progQ := d.log.progQ ++ [r] } } }.afterInstr
          (1 + (n + 7) / 8) (h.commanded rd 0)))) ∧
    (cls.toNat ≤ 8 → cls ≠ 2 → 0x80 ≤ code.toNat →
      exec (.raise ra cls lvl code) s = .next ({ s with dev := { d with
        posted := d.posted ++ [(⟨cls.toNat, lvl.toNat, code.toNat, d.w ra, true⟩ : FaultEvt)] } }.afterInstr 1 h))

/-- R247: a stalled LOG or SEND completes once its queue has room, and a stalled RECV once a frame stands in its queue: it retires and Hearth goes
on behind it. -/
def Claims.StalledInstructionsComplete : Prop :=
  ∀ (s : State) (rd ra rb : BitVec 4) (n i : Nat), s.awake = true → s.dev.hearth.user = false →
    let d := s.dev
    let h := d.hearth
    let a := (d.w ra).toNat
    1 ≤ n → a % 4 = 0 → d.mayUse a n →
    (n ≤ 4096 → (d.w rb).toNat % 2 ^ 16 = n → h.wait = some ⟨.log rd ra rb, rd, 0, i⟩ → d.logFault = false → d.log.progQ.length < 4 →
      d.mounted = false →
      let r : LogRec := ⟨0x80, BitVec.ofNat 16 ((d.w rb).toNat / 2 ^ 16), Store.readAll Mems.dataDflt s.mems.data a n, true, 0, 0, d.cycle⟩
      exec .stallRelease s = .next ({ s with dev := { d with log := { d.log with progQ := d.log.progQ ++ [r] } } }.afterInstr
        (1 + (n + 7) / 8) { h.commanded rd 0 with wait := none })) ∧
    (n ≤ 256 → (d.w rb).toNat = n → h.wait = some ⟨.recv rd ra rb, rd, 0, i⟩ → ∀ f t, h.rxq = f :: t → ∃ m : Mems,
      exec .stallRelease s = .next ({ s with mems := m }.afterInstr (1 + ((f.frame.payload.take n).length + 7) / 8) { h with
        rxq := t, w := upd h.w rd.toNat (fun _ => BitVec.ofNat 32 (ofBeBytes (frameHeader f.frame)))
        z := false, n := false, c := f.passed, v := decide (n < f.frame.payload.length), wait := none }) ∧
      (∀ j, j < (f.frame.payload.take n).length → m.byte (a + j) = nth f.frame.payload j 0) ∧
      (∀ x, (x < a ∨ a + (f.frame.payload.take n).length ≤ x) → m.byte x = s.mems.byte x))

/-! ### Reset, start-up and supply (R5, R32 to R39, R55 to R65, R81 to R97, R588, R608, R643) -/

/-- R5, R608: POWER_ON_RESET takes each strap by the majority of its three samples; every register is at its reset value, reset is held, and
the NAND die keeps what it holds. -/
def Claims.PowerOnResetLatchesTheStraps : Prop :=
  ∀ (s : State) (a b c x y z : Bool),
    s.gives (.powerOnReset a b c x y z) fun t =>
      t.bit F.SYS_STRAP_HEADSEL = ((a && b) || (b && c) || (a && c)) ∧ t.bit F.SYS_STRAP_TWINSEL = ((x && y) || (y && z) || (x && z)) ∧
      t.bit F.SYS_STRAP_UNSTABLE = !(a == b && b == c && x == y && y == z) ∧
      (∀ r, r ≠ R.SYS_STRAP → r ≠ R.TWN_STAT → t.rd r = resetWord r) ∧
      t.power.released = false ∧ t.power.started = false ∧ t.nv = s.dev.nv ∧ t.hearth = Hearth.reset ∧ t.keys.kp = none ∧ t.keys.ks = none ∧
      t.chain = Chain.reset ∧ t.log.staged = [] ∧ t.posted = []

/-- R85, R55: VBUS_RISE starts the count to RESET_RELEASE, which after 200 µs releases reset, initialises both SRAMs, starts the log mount, and posts
MEM 0x07 at L3 when the OTP fails its CRC. -/
def Claims.ResetReleaseStartsTheDevice : Prop :=
  ∀ (s : State) (ok : Bool) (t0 : Nat), s.dev.power.released = false →
    (s.dev.power.vbusRose = none → s.becomes .vbusRise { s.dev with power := { s.dev.power with vbusRose := some s.dev.cycle } }) ∧
    (s.dev.isHead = false → s.becomes .startupRegulatorStart { s.dev with power := { s.dev.power with hvg := true, buck := true } }) ∧
    (s.dev.isHead = false → ∀ on, s.becomes (.buckThreshold on) { s.dev with power := { s.dev.power with buck := on } }) ∧
    (s.dev.power.vbusRose = some t0 → t0 + 20000 ≤ s.dev.cycle → s.dev.power.strapped = true →
      s.givesM (.resetRelease ok) fun m t =>
        m.prog = [] ∧ m.data = [] ∧ m.nand = s.mems.nand ∧ t.power.released = true ∧ t.power.releasedAt = s.dev.cycle ∧
        t.bit F.SYS_CLKSTAT_MAINOK = true ∧ t.get F.LOG_STAT_MOUNT = 1 ∧ t.bit F.SEC_STAT_OTPOK = ok ∧
        t.keys.otp = (ok && !s.dev.bit F.SEC_STAT_TEST) ∧ s.dev.posts t (if ok then [] else [(4, 3, 7, 0)]))

/-- R32, R34 to R37, R39, R59, R60, R65: the steps of start-up, each at its time. -/
def Claims.StartUpStepsActAtTheirTimes : Prop :=
  ∀ (s : State) (inRange within : Bool), s.awake = true →
    let d := s.dev
    let past (n : Nat) : Prop := d.power.started = true ∧ d.power.releasedAt + n ≤ d.cycle
    (past 5000 → d.bit F.GRD_STAT_ARMED = false → s.becomes .fireguardArm (d.putB F.GRD_STAT_ARMED true)) ∧
    (past 10000 → s.becomes .vtrefEnable { d with power := { d.power with vtref := true } }) ∧
    (past 35000 → d.power.wakeIdle = none → s.becomes .twinTxEnable { d with power := { d.power with twinTx := true } }) ∧
    (past 50000 → d.isHead = true → d.get F.SYS_PWRSTAT_WCAUSE = 0 → (d.isTwin = true → d.bit F.SYS_CLKSTAT_FLOCK = true ∨ d.bit F.SYS_CLKSTAT_SOLO = true) →
      d.chain.txOn = false → s.becomes .headTxEnable { d with
        chain := { d.chain with txOn := true }, sent := d.sent ++ [.idleSlots .up, .idleSlots .dn] }) ∧
    (past 2000000 → d.isHead = true → d.isTwin = true → d.get F.TWN_STAT_LINK ≠ 2 →
      s.becomes .soloTimeout (d.putB F.SYS_CLKSTAT_SOLO true)) ∧
    s.becomes .mainOscFail (d.putB F.SYS_CLKSTAT_MAINOK false) ∧
    s.gives (.rcWindowEnd inRange) (fun t => t.bit F.SYS_CLKSTAT_RCOK = inRange ∧ d.keepsRegs t [R.SYS_CLKSTAT] ∧
      d.posts t (if inRange = false ∧ d.bit F.SYS_CLKSTAT_MAINOK = true then [(5, 2, 1, 0)] else [])) ∧
    (d.isHead = false → s.gives (.freqWindowEnd within) (fun t =>
      t.power.lockWindows = (if within then d.power.lockWindows + 1 else 0) ∧
      (within = true → 1 ≤ d.power.lockWindows → t.bit F.SYS_CLKSTAT_FLOCK = true ∧ t.chain.txOn = true))) ∧
    (d.isHead = false → s.gives .lineActivityLost (fun t => t.bit F.SYS_CLKSTAT_FLOCK = false ∧ t.power.lockWindows = 0))

/-- R43, R45: the scrub reads one codeword each 8,138 cycles, program memory first; a corrected one is an L0 MEM notice, an uncorrectable one MEM
0x03 of the bank at L2 or MEM 0x02 of data SRAM at L1. -/
def Claims.ScrubReportsItsCodewords : Prop :=
  ∀ (s : State) (e : Ecc), s.awake = true → s.dev.power.scrubAt + 8138 ≤ s.dev.cycle → s.dev.power.scrubPos < 24576 →
    let d := s.dev
    let w := d.power.scrubPos
    s.gives (.scrubStep e) fun t =>
      t.power.scrubAt = d.cycle ∧ t.power.scrubPos = (w + 1) % 24576 ∧ d.keepsRegs t [] ∧
      d.posts t (match e with
        | .ok => []
        | .corrected => [(4, 0, 1, 0)]
        | .uncorrectable => if w < 8192 then [(4, 2, 3, BitVec.ofNat 32 (w / 4096))] else [(4, 1, 2, 0)])

/-- R81, R85 to R97, R412, R499, R588, R643: what the supply, its comparators and the die's temperature do. -/
def Claims.SupplyEventsActOnTheDevice : Prop :=
  ∀ (s : State) (rail out : Fin 2), s.awake = true →
    let d := s.dev
    let p := d.power
    s.becomes .vbusOvervoltage (({ d with power := { p with overV := true } } : Dev).post 5 2 3 0) ∧
    s.becomes (.regulatorFault rail) (d.post 5 2 5 (BitVec.ofNat 32 rail)) ∧
    s.becomes .dieTempSupply (({ d with power := { p with hot160 := true } } : Dev).post 5 2 4 0) ∧
    s.becomes .dieTempBalResume { d with power := { p with tempStop := false, hot160 := false } } ∧
    (d.isHead = false → s.becomes .dieTempBalStop (({ d with power := { p with tempStop := true } } : Dev).post 6 1 7 0)) ∧
    (d.isHead = true → d.bitAt F.GRD_SAFESTAT_OUT out = true → s.gives (.safeCurrentLimitTrip out) (fun t =>
      t.bitAt F.GRD_SAFESTAT_OUT out = false ∧ t.bitAt F.GRD_SAFESTAT_RBF out = true ∧ d.posts t [(5, 2, 6, BitVec.ofNat 32 out)] ∧
      d.keepsRegs t [R.GRD_SAFESTAT])) ∧
    (p.powerFail = false → s.gives .vbusPowerFail (fun t => t.power.powerFail = true ∧ t.bit F.LOG_STAT_PFW = true ∧ d.posts t [(5, 0, 2, 0)] ∧
      ∀ k, (d.shelf k).act = true → k < 4 → (t.shelf k).act = false ∨ (t.shelf k).phase = .stopping)) ∧
    s.becomes .vbusRecover (({ d with power := { p with powerFail := false } } : Dev).putB F.LOG_STAT_PFW false) ∧
    s.gives .vbusHigh (fun t => t.bal.busHigh = true ∧ ∀ k, k < 4 → (d.shelf k).act = true →
      (((d.shelf k).xmode = true ∨ (d.shelf k).dir = false) → (t.shelf k).act = false ∨ (t.shelf k).phase = .stopping) ∧
      ((d.shelf k).xmode = false → (d.shelf k).dir = true → t.shelf k = d.shelf k)) ∧
    s.givesM .vbusUndervoltage (fun m t => m.prog = [] ∧ m.data = [] ∧ m.nand = s.mems.nand ∧ t.power.released = false ∧
      t.power.strapped = false ∧ t.nv = d.nv ∧ t.regs = [])

/-! ### Banked sleep, waking, the ember watch, the warm reset (R589 to R609) -/

/-- R589 to R592: COMM_TIMEOUT and SLEEP begin the entry to Banked, unless a SAFE output is on; SYS_PWRSTAT.PRES tells the result of SLEEP. Entry
ends 2 ms later in Banked, with the timebase and line state gone. -/
def Claims.EntryToBankedFollowsItsSteps : Prop :=
  ∀ (s : State) (b : Nat), s.awake = true →
    let d := s.dev
    let enters (t : Dev) : Prop := t.power.entering = some d.cycle ∧ t.power.wakePending = none ∧ t.hearth.rxq = [] ∧ t.hearth.run = false ∧
      t.chain.htx = [] ∧ t.chain.outst = [] ∧ t.chain.trigs = []
    (d.isHead = false → d.power.entering = none → d.touch = [] → d.power.commAt + clampNat 10 10000 (d.get F.SYS_COMMTMO_TMO) * 100000 ≤ d.cycle →
      s.gives .commTimeout enters) ∧
    (d.isHead = false → d.power.entering = none → d.touch = [] → s.gives .sleep (fun t => enters t ∧ t.get F.SYS_PWRSTAT_PRES = 1)) ∧
    (d.isHead = true → (d.bitAt F.GRD_SAFESTAT_OUT 0 = true ∨ d.bitAt F.GRD_SAFESTAT_OUT 1 = true) →
      s.becomes .sleep (d.put F.SYS_PWRSTAT_PRES 3)) ∧
    (d.power.entering = some b → b + 200000 ≤ d.cycle → d.power.wakePending = none → s.gives .bankedEntryComplete (fun t =>
      t.get F.SYS_PWRSTAT_STATE = 3 ∧ t.bit F.SYS_PWRSTAT_WOKE = false ∧ t.get F.SYS_SLPT_SEC = 0 ∧ t.power.entering = none ∧
      t.bit F.SYS_CLKSTAT_MAINOK = false ∧ t.bit F.TIM_PHSTAT_HASM = false ∧ t.tim.model = none ∧ t.chain.txOn = false ∧
      t.conv = Sweep.reset ∧ t.inj = Injection.reset))

/-- R597 to R601, R604: the wake events of a Banked device enter Start, or Lockout where it stands, with their cause; a member's address becomes
tentative. -/
def Claims.WakeEventsLeaveBanked : Prop :=
  ∀ (s : State) (p : Port), s.dev.power.released = true → s.dev.banked = true → s.dev.power.ember = none →
    let d := s.dev
    let wakes (cause : Nat) (t : Dev) : Prop :=
      t.get F.SYS_PWRSTAT_STATE = (if d.bit F.FLT_STAT_LKO then 4 else 1) ∧ t.bit F.SYS_PWRSTAT_WOKE = true ∧
      t.get F.SYS_PWRSTAT_WCAUSE = cause ∧ t.power.wakeIdle = some (d.cycle + 20000) ∧ t.power.commAt = d.cycle ∧
      (d.isHead = false → d.bit F.CHN_ADDR_VALID = true → t.bit F.CHN_ADDR_TENT = true)
    (d.isHead = false → s.gives (.lineTrafficWake p) (wakes (if p = .dn then 1 else 2))) ∧
    (d.isHead = true → s.gives .csnWake (wakes 5)) ∧
    (d.isHead = true → s.gives (.wakeToneHead p) (fun t => wakes 4 t ∧ t.bit F.SYS_WAKE_TONE = true ∧ t.bit F.SYS_WAKE_PORT = (p == .up))) ∧
    (d.isHead = false → s.becomes (.wakeToneRelay p) (d.emit (.tone (if p = .dn then .up else .dn))))

/-- R600, R605: WAKE on a woken head sends idle slots and fixes the start of PHTIM, which HEAD_WAKE_PHTIM_START begins; RELEASE appends the pairing
record with its mark. -/
def Claims.HeadWakeAndReleaseAct : Prop :=
  ∀ (s : State) (t0 : Nat), s.awake = true →
    let d := s.dev
    (d.isHead = true → d.get F.SYS_PWRSTAT_WCAUSE ≠ 0 → d.chain.txOn = false → s.gives .wake (fun t =>
      t.chain.txOn = true ∧ t.power.phtimStart = some (d.cycle + 1000000) ∧ t.get F.SYS_PWRSTAT_PRES = 1 ∧
      t.sent = d.sent ++ [.idleSlots .up, .idleSlots .dn])) ∧
    (d.isHead = true → d.power.phtimStart = some t0 → t0 ≤ d.cycle → s.becomes .headWakePhtimStart { d with
      power := { d.power with phtimStart := none }, chain := { d.chain with phtimAt := some d.cycle } }) ∧
    (d.logFault = false → d.log.hwQ = [] → d.mounted = false → s.gives .release (fun t => t.get F.SYS_PWRSTAT_PRES = 1 ∧
      ∃ r, t.log.hwQ = [r] ∧ r.ty = 8 ∧ r.tag = 2 ∧ r.prog = false))

/-- R595, R596, R609: an ember check of a Banked member counts, records its extremes and crossings, sends a tone when TONE asks for it, and holds
the device until it ends. -/
def Claims.EmberChecksWatchTheCells : Prop :=
  ∀ (s : State) (cells aux : List (BitVec 16)) (e : Nat), s.dev.power.released = true → s.dev.banked = true → s.dev.isHead = false →
    let d := s.dev
    let on := ((List.range 32).filter (fun i => d.bitAt F.CONV_CHEN_CELL i)).map (fun i => nth (cells.map BitVec.toNat) i 0)
    let mx := on.foldl max 0
    let mn := on.foldl min mx
    (d.bit F.SYS_EMBCFG_EN = true → d.power.ember = none → d.power.emberAt ≤ d.cycle → on ≠ [] →
      s.gives (.emberCheck cells aux) (fun t =>
        t.get F.SYS_EMBSTAT_CHECKS = min (d.get F.SYS_EMBSTAT_CHECKS + 1) (2 ^ F.SYS_EMBSTAT_CHECKS.width - 1) ∧
        t.get F.SYS_EMBRES_MAX = mx % 2 ^ 16 ∧ t.get F.SYS_EMBRES_MIN = mn % 2 ^ 16 ∧ t.power.ember = some d.cycle ∧ t.power.vtref = true ∧
        (d.get F.SYS_EMBTHV_OV < mx → t.bitAt F.SYS_EMBSTAT_CROSS 0 = true) ∧
        (mn < d.get F.SYS_EMBTHV_UV → t.bitAt F.SYS_EMBSTAT_CROSS 1 = true) ∧
        (d.get F.SYS_EMBTHX_IMB < mx - mn → t.bitAt F.SYS_EMBSTAT_CROSS 2 = true))) ∧
    (d.power.ember = some e → e + 300000 ≤ d.cycle → d.log.programming = none → d.log.staged = [] → d.power.wakePending = none →
      s.becomes .emberCheckEnd { d with power := { d.power with ember := none } })

/-- R608: a write of the key resets the device as at power-on but for what it keeps, and starts it again; any other value is ignored. -/
def Claims.WarmResetKeepsWhatItNames : Prop :=
  ∀ (s : State) (w : Word), s.awake = true →
    let d := s.dev
    (w ≠ 0x52535421 → s.becomes (.warmReset w) d) ∧
    (d.bit F.FLT_STAT_LKO = false → s.givesM (.warmReset 0x52535421) fun m t =>
      m.prog = [] ∧ m.data = [] ∧ m.nand = s.mems.nand ∧ t.power.released = true ∧ t.power.releasedAt = d.cycle ∧
      t.isHead = d.isHead ∧ t.isTwin = d.isTwin ∧ t.bit F.SYS_RSTCAUSE_WARM = true ∧ t.nv = d.nv ∧ t.bal.qcell = d.bal.qcell ∧
      t.bit F.SEC_STAT_LOCKED = d.bit F.SEC_STAT_LOCKED ∧ t.bit F.SEC_STAT_TEST = d.bit F.SEC_STAT_TEST ∧
      t.keys.kp = none ∧ t.keys.ks = none ∧ t.hearth = Hearth.reset ∧ t.tb = 0)

/-! ### Conversion (R105 to R131, R147, R414 to R416) -/

/-- R115, R116, R118, R129: a software launch on a member starts the sweep of the settings that stood at the start of the cycle, with its first
instant at t0 + 23 + COARSE + floor(ftot / 32), t0 being the cycle of the write; a refused one counts, sets its one cause and posts line 4. -/
def Claims.SoftwareLaunchStartsOrCountsAMiss : Prop :=
  ∀ s : State, s.awake = true → s.dev.isHead = false →
    let d := s.dev
    let c := d.sweepCfg
    let refusedFor (f : Fld) : Prop := s.gives .convGo fun t =>
      t.bit f = true ∧ t.get F.CONV_MISS_CNT = min (d.get F.CONV_MISS_CNT + 1) 65535 ∧ t.bitAt F.SEQ_IP_IP 4 = true ∧ t.conv = d.conv ∧
      d.keepsRegs t [R.CONV_MISS, R.CONV_MISSC, R.SEQ_IP] ∧ d.keepsFields t ([F.CONV_MISSC_STATE, F.CONV_MISSC_CAL, F.CONV_MISSC_BUSY,
        F.CONV_MISSC_LATE, F.CONV_MISSC_PHASE, F.CONV_MISSC_RATE, F.CONV_MISSC_INJ].filter (· ≠ f))
    (d.inMeasure = false → refusedFor F.CONV_MISSC_STATE) ∧
    (d.inMeasure = true → d.bit F.CAL_STAT_RUN = true → refusedFor F.CONV_MISSC_CAL) ∧
    (d.inMeasure = true → d.bit F.CAL_STAT_RUN = false → d.conv.infl = true → refusedFor F.CONV_MISSC_BUSY) ∧
    (d.inMeasure = true → d.bit F.CAL_STAT_RUN = false → d.conv.infl = false → c.unit = true → d.plock = false →
      refusedFor F.CONV_MISSC_PHASE) ∧
    (d.inMeasure = true → d.bit F.CAL_STAT_RUN = false → d.conv.infl = false → c.unit = false → c.count ≠ 1 → c.intv < 100 →
      refusedFor F.CONV_MISSC_RATE) ∧
    (d.inMeasure = true → d.bit F.CAL_STAT_RUN = false → d.conv.infl = false → (c.unit = true → d.plock = true) → d.rateTooShort c = false →
      s.gives .convGo fun t =>
        t.conv.infl = true ∧ t.conv.cfg = c ∧ t.conv.idx = 0 ∧ t.conv.noMore = false ∧ t.conv.instants = d.conv.instants ∧
        t.conv.next = d.cycle + 23 + d.get0 F.CONV_DLY_COARSE + d.ftot 0 / 32 ∧ t.conv.fine = d.ftot 0 % 32 ∧
        t.get F.CONV_TSL_TICKL = (d.now + 23 + d.get0 F.CONV_DLY_COARSE + d.ftot 0 / 32) % 2 ^ 32 ∧
        d.keepsRegs t [R.CONV_TSL, R.CONV_AUXCTL])

/-- R25, R110, R116, R147: ARM and DISARM act on the engine alone, STOP makes the next instant the last; a head ignores them all, and reads CONV_TSL
as 0. A read of CONV_TSL latches CONV_TSH. -/
def Claims.SweepCommandsActOnTheEngine : Prop :=
  ∀ s : State, s.awake = true →
    let d := s.dev
    (d.isHead = false →
      s.becomes .convArm { d with conv := { d.conv with armed := true } } ∧
      s.becomes .convDisarm { d with conv := { d.conv with armed := false } } ∧
      (d.conv.infl = true → (∀ i ∈ d.conv.instants, i.hold < d.cycle) →
        s.becomes .convStop { d with conv := { d.conv with stopReq := true } }) ∧
      (d.conv.infl = false → s.becomes .convStop d) ∧
      s.gives .convTslRead (fun t => t.rd R.CONV_TSH = d.conv.tsh ∧ t.sent = d.sent ++ [.value R.CONV_TSL (d.rd R.CONV_TSL)] ∧
        d.keepsRegs t [R.CONV_TSH])) ∧
    (d.isHead = true →
      s.becomes .convGo d ∧ s.becomes .convArm d ∧ s.becomes .convDisarm d ∧ s.becomes .convStop d ∧ (∀ w, s.becomes (.convInjReq w) d) ∧
      s.becomes .convTslRead (d.emit (.value R.CONV_TSL 0)))

/-- R118, step 4, R109: 20 ticks before its hold edge the next instant of a sweep in ticks begins acquisition on the sweep's channels, and the one
after it falls INTV later; the instant that completes the count is the last. -/
def Claims.AcquisitionTakesTheNextInstant : Prop :=
  ∀ s : State, s.awake = true →
    let d := s.dev
    let v := d.conv
    v.infl = true → v.noMore = false → v.next ≤ d.cycle + 20 → v.cfg.unit = false → v.cfg.aux = false → d.inj = Injection.reset →
      s.gives .sweepAcquisition fun t =>
        ∃ i : Instant, t.conv.instants = v.instants ++ [i] ∧ i.hold = v.next ∧ i.cells = v.cfg.cells ∧ i.cur = v.cfg.cur ∧ i.aux = false ∧
          i.injected = false ∧ i.last = (v.stopReq || (v.cfg.count != 0 && decide (v.cfg.count ≤ v.idx + 1))) ∧
          t.conv.next = v.next + v.cfg.intv ∧ t.conv.infl = true ∧ t.conv.noMore = i.last ∧ d.keepsRegs t []

/-- R105, R118 steps 6 to 9: 82 ticks after its hold edge the oldest instant leaves the converters; with the last one the sweep is no longer in
flight and line 4 posts. Without samples nothing else changes. -/
def Claims.CompletionEndsTheSweepWithItsLastInstant : Prop :=
  ∀ (s : State) (i : Instant) (rest : List Instant), s.awake = true →
    let d := s.dev
    (∀ w ∈ d.drawers, w.closed = none) → d.conv.infl = true → d.conv.instants = i :: rest → i.injected = false → i.env.isSome = true →
    i.hold + 82 ≤ d.cycle →
      s.gives (.conversionComplete []) fun t =>
        t.conv.instants = rest ∧ t.conv.infl = !i.last ∧ t.drawers = d.drawers ∧ t.trk = d.trk ∧
        t.get F.SEQ_IP_IP = (if i.last then d.get F.SEQ_IP_IP ||| 16 else d.get F.SEQ_IP_IP) ∧ d.keepsRegs t [R.SEQ_IP]

/-- R105, R152, R157, R168, R172, R177: a sample enters tracker A of its channel and the running SUM drawer that sweeps feed; the N-th one publishes
R, with SEQ one more, NEW, VALID, and LOST when the last result had not been read. -/
def Claims.SumDrawersAccumulateAndPublish : Prop :=
  ∀ (s : State) (i : Instant) (env : HoldEnv) (m : Sample) (n : Fin 4), s.awake = true →
    let d := s.dev
    let ch := m.ch.val
    let x := (d.sampleCode m env.cur).1
    (∀ w ∈ d.drawers, w.closed = none) → d.drawers.length = 136 → d.trk.length = 34 → d.conv.instants = [i] → i.injected = false →
    i.env = some env → i.hold + 82 ≤ d.cycle → ch < 32 → i.cells.getLsbD ch = true → i.diagCells.getLsbD ch = false →
    (∀ k : Fin 4, k ≠ n → d.get (F.ACC_DCFG_MODE 0 k) = 0) → d.get (F.ACC_DCFG_MODE 0 n) = 1 → d.bitAt (F.ACC_DCHEN_CELL n) ch = true →
    d.get (F.ACC_DCFG_SWP 0 n) = 1 →
      s.gives (.conversionComplete [m]) fun t =>
        nth t.trk ch Tracker.reset = ((nth d.trk ch Tracker.reset).addA x |> fun k =>
          if n.val = 0 ∧ sumLength (d.get (F.ACC_DCFG_K 0 n)) ≤ (d.drawer ch n).work.cnt + 1 ∧ (d.drawer ch n).work.discarded = false then
            k.addB (t.drawer ch n).vis.a.toInt else k) ∧
        ((d.drawer ch n).work.cnt + 1 < sumLength (d.get (F.ACC_DCFG_K 0 n)) →
          (t.drawer ch n).work.a = (d.drawer ch n).work.a + x ∧ (t.drawer ch n).work.cnt = (d.drawer ch n).work.cnt + 1 ∧
          (t.drawer ch n).vis = (d.drawer ch n).vis) ∧
        (sumLength (d.get (F.ACC_DCFG_K 0 n)) ≤ (d.drawer ch n).work.cnt + 1 → (d.drawer ch n).work.discarded = false →
          (t.drawer ch n).work = Accum.empty ∧ (t.drawer ch n).vis.seq = (d.drawer ch n).vis.seq + 1 ∧
          (t.drawer ch n).vis.isNew = true ∧ (t.drawer ch n).vis.valid = true ∧ (t.drawer ch n).vis.lost = (d.drawer ch n).vis.isNew ∧
          (t.drawer ch n).vis.a = BitVec.ofInt 40 (sumResult ((d.drawer ch n).work.a + x) (d.get (F.ACC_DCFG_SHIFT 0 n))) ∧
          (t.drawer ch n).vis.dgen = d.flt.gen ∧ t.bitAt F.SEQ_IP_IP (if n.val = 0 then 2 else 3) = true)

/-- R124 to R127, R415: CONV_INJ takes its fields; with REQ it requests an injection, which is refused, with INJ alone, while another one or CAL_RUN is
in progress and outside Measure, and else is pending with its hold edge 23 ticks on when the converters are free. -/
def Claims.InjectionRequestsAreTakenOrRefused : Prop :=
  ∀ (s : State) (w : Word), s.awake = true → s.dev.isHead = false →
    let d := s.dev
    let e := d.writeFields R.CONV_INJ w false
    let free : Prop := d.inj.pend = false ∧ d.inj.run = false ∧ d.bit F.CAL_STAT_RUN = false ∧ d.inMeasure = true
    (w.getLsbD 0 = false → s.becomes (.convInjReq w) e) ∧
    (w.getLsbD 0 = true → ¬ free → s.gives (.convInjReq w) fun t =>
      t.bit F.CONV_MISSC_INJ = true ∧ t.get F.CONV_MISS_CNT = min (d.get F.CONV_MISS_CNT + 1) 65535 ∧ t.inj = d.inj ∧ t.conv = d.conv) ∧
    (w.getLsbD 0 = true → free → d.conv.instants = [] → s.gives (.convInjReq w) fun t =>
      t.inj.pend = true ∧ t.inj.run = false ∧ t.inj.cells.toNat = d.get F.CONV_INJCH_CELL ∧ t.inj.cur = w.getLsbD 1 ∧
      t.inj.aux = w.getLsbD 2 ∧ t.inj.slot = bitsOf w.toNat 4 4 ∧ t.inj.drawer = bitsOf w.toNat 8 2 ∧ t.inj.hold = d.cycle + 23 ∧
      t.conv = d.conv ∧ d.keepsRegs t [R.CONV_INJ])

/-- R125: an injection begins acquisition 20 ticks before its hold edge, and 82 ticks after it the injection is over. -/
def Claims.InjectionsStartAndComplete : Prop :=
  ∀ (s : State) (i : Instant) (rest : List Instant), s.awake = true →
    let d := s.dev
    (d.inj.pend = true → d.inj.hold ≤ d.cycle + 20 → s.gives .injectionStart fun t =>
      t.inj = { d.inj with pend := false, run := true } ∧ d.keepsRegs t [] ∧
      ∃ j : Instant, t.conv.instants = d.conv.instants ++ [j] ∧ j.injected = true ∧ j.hold = d.inj.hold ∧ j.cells = d.inj.cells ∧
        j.cur = d.inj.cur ∧ j.aux = d.inj.aux ∧ j.slot = d.inj.slot ∧ j.drawer = d.inj.drawer ∧ j.qshort = true) ∧
    ((∀ w ∈ d.drawers, w.closed = none) → d.conv.instants = i :: rest → i.injected = true → i.env.isSome = true → i.hold + 82 ≤ d.cycle →
      s.becomes (.injectionComplete []) { d with
        conv := { d.conv with instants := rest }, inj := { d.inj with run := false } })

/-- R414 to R416, R423, R435: a quiet window stops the shelves that honour it and run no excitation; a cycle cut short marks the instant; the window
closes at S + QTRAIL unless another is wanted. -/
def Claims.QuietWindowsStopTheShelves : Prop :=
  ∀ (s : State) (cut : BitVec 4) (k : Fin 4), s.awake = true →
    let d := s.dev
    d.bal.shelves.length = 4 →
    (s.gives (.quietWindowOpen cut) fun t =>
      d.keepsRegs t [] ∧ (t.shelf k) = { d.shelf k with quiet := (d.shelf k).quiet || (d.bitAt F.BAL_CTL_QWEN k && !(d.shelf k).xrunning) } ∧
      (cut = 0 → t.bal.cut = d.bal.cut) ∧
      (cut.getLsbD k = true → d.bitAt F.BAL_CTL_QWEN k = true → (d.shelf k).inCycle = true → (d.shelf k).xrunning = false →
        t.bal.cut = true)) ∧
    (d.bal.quietUntil ≤ d.cycle → d.quietWanted = false → s.gives .quietWindowClose fun t =>
      d.keepsRegs t [] ∧ t.shelf k = { d.shelf k with quiet := false } ∧ t.bal.cut = false) ∧
    ((d.cycle < d.bal.quietUntil ∨ d.quietWanted = true) → s.becomes .quietWindowClose d)

/-! ### Drawers and trackers (R149 to R194) -/

/-- R160 to R164, R168: a boundary of a phase source opens a window in a drawer that follows it, counts a period of an open window, and at the last
one publishes it and opens the next; other drawers stay. -/
def Claims.BoundariesOpenAndCloseWindows : Prop :=
  ∀ (s : State) (src : Fin 5) (i : Fin 136), s.awake = true →
    let d := s.dev
    let g := groupOf (i.val / 4)
    let n := i.val % 4
    let w := nth d.drawers i Drawer.reset
    let m := max 1 (d.get (F.ACC_DPAR_M g n))
    let follows : Prop := d.drawerRuns (i.val / 4) n = true ∧ 2 ≤ d.get (F.ACC_DCFG_MODE g n) ∧ psrcOf (d.get (F.ACC_DCFG_PSRC g n)) = src.val
    d.drawers.length = 136 → (∀ x ∈ d.drawers, x.closed = none) → d.conv.instants = [] →
      s.gives (.windowBoundary src) fun t =>
        (¬ follows → nth t.drawers i Drawer.reset = w) ∧
        (follows → w.work.isOpen = false → (nth t.drawers i Drawer.reset).work.isOpen = d.psrcValid src ∧
          (nth t.drawers i Drawer.reset).work.cnt = 0 ∧ (nth t.drawers i Drawer.reset).periodsLeft = m ∧
          (nth t.drawers i Drawer.reset).vis = w.vis) ∧
        (follows → w.work.isOpen = true → 1 < w.periodsLeft → nth t.drawers i Drawer.reset = { w with periodsLeft := w.periodsLeft - 1 }) ∧
        (follows → w.work.isOpen = true → w.periodsLeft ≤ 1 → w.work.discarded = false →
          (nth t.drawers i Drawer.reset).vis.seq = w.vis.seq + 1 ∧ (nth t.drawers i Drawer.reset).vis.isNew = true ∧
          (nth t.drawers i Drawer.reset).vis.cnt = BitVec.ofNat 24 w.work.cnt ∧ (nth t.drawers i Drawer.reset).work.isOpen = d.psrcValid src ∧
          (w.work.cnt < 2 → (nth t.drawers i Drawer.reset).vis.a = 0 ∧ (nth t.drawers i Drawer.reset).vis.b = 0))

/-- R175, R179, R193: a write to a drawer's configuration and ACC_CMD.RST drop its open accumulations on the channels of the register, without a
publication; TCLR clears every tracker, XRST the open excitation windows. A head ignores them. -/
def Claims.DrawerCommandsDropAccumulations : Prop :=
  ∀ (s : State) (n : Fin 4) (w : Word) (mask : BitVec 4) (i : Fin 136), s.awake = true →
    let d := s.dev
    let dropped (x : Drawer) : Drawer := { x with work := Accum.empty, periodsLeft := 0 }
    d.drawers.length = 136 →
    (d.isHead = true → s.becomes (.drawerConfigWrite (BitVec.ofNat 16 (R.ACC_DCFG 0 n)) w) d ∧ s.becomes (.accCmdRst mask) d ∧
      s.becomes .accCmdTclr d ∧ s.becomes .accCmdXrst d) ∧
    (d.isHead = false →
      (∀ g : Fin 3, s.gives (.drawerConfigWrite (BitVec.ofNat 16 (R.ACC_DCFG g n)) w) fun t =>
        t.rd (R.ACC_DCFG g n) = (d.writeFields (R.ACC_DCFG g n) w false).rd (R.ACC_DCFG g n) ∧ d.keepsRegs t [R.ACC_DCFG g n] ∧
        nth t.drawers i Drawer.reset = (if groupOf (i.val / 4) = g.val ∧ i.val % 4 = n.val then dropped else id) (nth d.drawers i Drawer.reset)) ∧
      (s.gives (.drawerConfigWrite (BitVec.ofNat 16 (R.ACC_DCHEN n)) w) fun t =>
        t.get (F.ACC_DCHEN_CELL n) = w.toNat ∧ d.keepsRegs t [R.ACC_DCHEN n] ∧
        nth t.drawers i Drawer.reset = (if i.val / 4 < 32 ∧ i.val % 4 = n.val then dropped else id) (nth d.drawers i Drawer.reset)) ∧
      (s.gives (.accCmdRst mask) fun t => d.keepsRegs t [] ∧
        nth t.drawers i Drawer.reset = (if mask.getLsbD (i.val % 4) then dropped else id) (nth d.drawers i Drawer.reset)) ∧
      (s.gives .accCmdTclr fun t => d.keepsRegs t [] ∧ t.drawers = d.drawers ∧ ∀ x ∈ t.trk, x.acnt = 0 ∧ x.bcnt = 0 ∧ x.amin = 0 ∧
        x.amax = 0 ∧ x.bmin = 0 ∧ x.bmax = 0) ∧
      (s.gives .accCmdXrst fun t => d.keepsRegs t [] ∧ t.drawers = d.drawers ∧ ∀ x ∈ t.excs, x.work.isOpen = false))

/-- R170, R171, R179, R186, R188: a read of a result's status gives its word, latches the result and clears NEW and LOST; of tracker A gives both extremes
and clears it; of tracker B's minimum latches its maximum and clears it. Reads on a head give 0. -/
def Claims.ResultReadsLatchAndClear : Prop :=
  ∀ (s : State) (r : Fin 136) (ch : Fin 34) (x : Fin 4), s.awake = true →
    let d := s.dev
    let e := d.exc x
    let w := nth d.drawers r Drawer.reset
    let k := nth d.trk ch Tracker.reset
    let a := R.ACC_RSTAT (r.val / 4) (r.val % 4)
    (d.isHead = true → s.becomes (.trackerARead ch) (d.emit (.value (R.ACC_TRKA ch) 0)) ∧
      s.becomes (.resultStatusRead ⟨r, by omega⟩) (d.emit (.value a 0))) ∧
    (d.isHead = false →
      (w.before = none → s.becomes (.resultStatusRead ⟨r, by omega⟩) (({ d with
        drawers := upd d.drawers r (fun _ => { w with snap := w.vis, vis := { w.vis with isNew := false, lost := false } }) } : Dev).emit
          (.value a w.vis.status))) ∧
      (∀ old, w.before = some old → s.becomes (.resultStatusRead ⟨r, by omega⟩) (({ d with
        drawers := upd d.drawers r (fun _ => { w with snap := old, vis := { w.vis with lost := false },
                                                      before := some { old with isNew := false, lost := false } }) } : Dev).emit
          (.value a old.status))) ∧
      (e.before = none → s.becomes (.resultStatusRead ⟨136 + x, by omega⟩) ((d.setExc x { e with
        snap := e.vis, vis := { e.vis with isNew := false, lost := false } }).emit (.value (R.ACC_XSTAT x) e.vis.status))) ∧
      (∀ old, e.before = some old → s.becomes (.resultStatusRead ⟨136 + x, by omega⟩) ((d.setExc x { e with
        snap := old, vis := { e.vis with lost := false }, before := some { old with isNew := false, lost := false } }).emit
          (.value (R.ACC_XSTAT x) old.status))) ∧
      s.becomes (.trackerARead ch) (({ d with trk := upd d.trk ch (fun t => { t with amin := 0, amax := 0, acnt := 0 }) } : Dev).emit
        (.value (R.ACC_TRKA ch) ((BitVec.ofInt 16 k.amax).append (BitVec.ofInt 16 k.amin)))) ∧
      s.becomes (.trackerBRead ch) (({ d with trk := upd d.trk ch (fun t => { t with bmin := 0, bmax := 0, bcnt := 0, bshadow := t.bmax }) } : Dev).emit
        (.value (R.ACC_TRKBL ch) (BitVec.ofInt 32 k.bmin))))

/-! ### Time and phase (R195 to R232) -/

/-- R195 to R197, R218, R231, R390: a read of the low word of the timebase or of the phase model returns it and latches the others of the same
instant; the wraps set their flags. -/
def Claims.TimeReadsLatchTheirPairs : Prop :=
  ∀ (s : State) (m : PhaseModel), s.awake = true →
    let d := s.dev
    (s.gives .timebaseRead fun t => t.sent = d.sent ++ [.value R.TIM_TBL (d.tb.truncate 32)] ∧ t.rd R.TIM_TBH = (d.tb >>> 32).truncate 32 ∧
      d.keepsRegs t [R.TIM_TBH]) ∧
    bitsOf (d.readReg R.TIM_TBH).1.toNat 0 16 = bitsOf (d.rd R.TIM_TBH).toNat 0 16 ∧ (d.readReg R.TIM_TBH).2.rd R.TIM_TBH = d.rd R.TIM_TBH ∧
    (s.gives .timebaseWrap fun t => t.bit F.TIM_STAT_TBWRAP = (d.bit F.TIM_STAT_TBWRAP || d.tb == BitVec.allOnes 48) ∧ t.tb = d.tb ∧
      d.keepsRegs t [R.TIM_STAT]) ∧
    (d.tim.model = none → s.gives .phaseModelRead fun t => t.sent = d.sent ++ [.value R.TIM_PMBL 0] ∧ t.rd R.TIM_PMBH = 0 ∧
      t.rd R.TIM_PMPC = 0 ∧ t.rd R.TIM_PINC = 0 ∧ d.keepsRegs t [R.TIM_PMBH, R.TIM_PMPC, R.TIM_PINC]) ∧
    (d.tim.model = some m → m.tb < 2 ^ 53 → s.gives .phaseModelRead fun t => t.sent = d.sent ++ [.value R.TIM_PMBL (BitVec.ofNat 32 (m.tb / 32))] ∧
      t.get F.TIM_PMBH_FINE = m.tb % 32 ∧ t.get F.TIM_PMBH_TBH = m.tb / 2 ^ 37 % 65536 ∧ t.get F.TIM_PMPC_PC = m.pc.toNat ∧
      t.rd R.TIM_PINC = m.pinc ∧ d.keepsRegs t [R.TIM_PMBH, R.TIM_PMPC, R.TIM_PINC]) ∧
    (d.tim.model = none → s.becomes .periodCountWrap d) ∧
    (d.tim.model = some m → s.gives .periodCountWrap fun t => d.keepsRegs t [R.TIM_PHSTAT] ∧
      t.bit F.TIM_PHSTAT_PWRAP = (d.bit F.TIM_PHSTAT_PWRAP ||
        (decide (m.phaseAt (d.now * 32) ≥ 0xFFFF0000) && decide (m.phaseAt ((d.now + 1) * 32) < 0x10000)))) ∧
    (s.gives .tokenRead fun t => t.sent = d.sent ++ [.value R.CHN_TOKL (d.rd R.CHN_TOKL)] ∧
      t.rd R.CHN_TOKH = (d.chain.token >>> 32).truncate 32 ∧ d.keepsRegs t [R.CHN_TOKH])

/-- R219, R220, R223: a write of TIM_TCMPH commits both words and arms; a write of TIM_PCMP arms; DIS disarms the units of its mask without firing
them. -/
def Claims.CompareWritesArmAndDisarm : Prop :=
  ∀ (s : State) (n : Fin 4) (w : Word) (mask : Byte) (u : Fin 8), s.awake = true →
    let d := s.dev
    (d.tim.tcmp.length = 4 → s.gives (.timebaseCompareArm n w) fun t =>
      nth t.tim.tcmp n 0 = (w.truncate 16).append (nth d.tim.tcmpLow n 0) ∧
      t.bitAt F.TIM_CMPSTAT_ARMED u = (d.bitAt F.TIM_CMPSTAT_ARMED u || u.val == n.val) ∧
      t.get F.TIM_CMPSTAT_FIRED = d.get F.TIM_CMPSTAT_FIRED ∧ d.keepsRegs t [R.TIM_TCMPH n, R.TIM_CMPSTAT]) ∧
    (s.gives (.phaseCompareArm n w) fun t => t.rd (R.TIM_PCMP n) = w ∧
      t.bitAt F.TIM_CMPSTAT_ARMED u = (d.bitAt F.TIM_CMPSTAT_ARMED u || u.val == 4 + n.val) ∧
      t.get F.TIM_CMPSTAT_FIRED = d.get F.TIM_CMPSTAT_FIRED ∧ d.keepsRegs t [R.TIM_PCMP n, R.TIM_CMPSTAT]) ∧
    (s.gives (.compareDisarm mask) fun t =>
      t.bitAt F.TIM_CMPSTAT_ARMED u = (d.bitAt F.TIM_CMPSTAT_ARMED u && !mask.getLsbD u) ∧
      t.get F.TIM_CMPSTAT_FIRED = d.get F.TIM_CMPSTAT_FIRED ∧ t.tim = d.tim ∧ d.keepsRegs t [R.TIM_CMPSTAT])

/-- R219, R221, R222: an armed timebase unit whose value has been reached fires, posts line 0 where TIM_CMPIE enables it, and disarms or goes on by its
increment of at least 100 ticks; an incremented value that has passed is brought ahead, sets LATE and fires once more. Otherwise nothing fires. -/
def Claims.TimebaseComparesFireAtTheirValue : Prop :=
  ∀ (s : State) (n : Fin 4), s.awake = true →
    let d := s.dev
    let v := nth d.tim.tcmp n 0
    let inc := d.get (F.TIM_TCMPINC_INC n)
    let reached : Prop := (d.tb - v).toNat < 2 ^ 47
    d.tim.tcmp.length = 4 → d.tim.again.getLsbD n = false → d.get0 F.CONV_TRIG_SRC ≠ 1 →
    (d.bitAt F.TIM_CMPSTAT_ARMED n = false ∨ ¬ reached → s.becomes (.timebaseCompareFire n) d) ∧
    (d.bitAt F.TIM_CMPSTAT_ARMED n = true → reached → s.gives (.timebaseCompareFire n) fun t =>
      t.bitAt F.TIM_CMPSTAT_FIRED n = true ∧ (d.bitAt F.TIM_CMPIE_IE n = true → t.bitAt F.SEQ_IP_IP 0 = true) ∧
      d.keepsRegs t [R.TIM_CMPSTAT, R.SEQ_IP, R.TIM_TCMPL n, R.TIM_TCMPH n] ∧
      (inc = 0 → t.bitAt F.TIM_CMPSTAT_ARMED n = false ∧ t.tim = { d.tim with again := t.tim.again }) ∧
      (inc ≠ 0 → t.bitAt F.TIM_CMPSTAT_ARMED n = true ∧
        (2 ^ 47 ≤ (d.tb - (v + BitVec.ofNat 48 (max inc 100))).toNat → nth t.tim.tcmp n 0 = v + BitVec.ofNat 48 (max inc 100) ∧
          t.tim.again.getLsbD n = false ∧ t.bitAt F.TIM_CMPSTAT_LATE n = d.bitAt F.TIM_CMPSTAT_LATE n) ∧
        ((d.tb - (v + BitVec.ofNat 48 (max inc 100))).toNat < 2 ^ 47 → t.bitAt F.TIM_CMPSTAT_LATE n = true ∧ t.tim.again.getLsbD n = true ∧
          ∃ k, nth t.tim.tcmp n 0 = v + BitVec.ofNat 48 (k * max inc 100) ∧ nth t.tim.tcmp n 0 - d.tb ≠ 0 ∧
            (nth t.tim.tcmp n 0 - d.tb).toNat ≤ max inc 100)))

/-- R220, R221: an armed phase unit whose value the model has reached fires, posts line 1 where enabled, and disarms or adds its increment; without a
model, or within 100 ticks of its last firing, it waits. -/
def Claims.PhaseComparesFireAtTheirPhase : Prop :=
  ∀ (s : State) (n : Fin 4), s.awake = true →
    let d := s.dev
    let v := d.rd (R.TIM_PCMP n)
    let inc := d.get (F.TIM_PCMPINC_INC n)
    d.tim.again.getLsbD (4 + n) = false → d.get0 F.CONV_TRIG_SRC ≠ 2 →
    (d.bitAt F.TIM_CMPSTAT_ARMED (4 + n) = false ∨ d.tim.model = none ∨ d.phasePassed v = false ∨
        (∃ t0, nth d.tim.pLast n none = some t0 ∧ d.cycle < t0 + 100) →
      s.becomes (.phaseCompareFire n) d) ∧
    (d.bitAt F.TIM_CMPSTAT_ARMED (4 + n) = true → d.phasePassed v = true → nth d.tim.pLast n none = none →
      s.gives (.phaseCompareFire n) fun t =>
        t.bitAt F.TIM_CMPSTAT_FIRED (4 + n) = true ∧ (d.bitAt F.TIM_CMPIE_IE (4 + n) = true → t.bitAt F.SEQ_IP_IP 1 = true) ∧
        d.keepsRegs t [R.TIM_CMPSTAT, R.SEQ_IP, R.TIM_PCMP n] ∧
        (inc = 0 → t.bitAt F.TIM_CMPSTAT_ARMED (4 + n) = false ∧ t.rd (R.TIM_PCMP n) = v) ∧
        (inc ≠ 0 → t.bitAt F.TIM_CMPSTAT_ARMED (4 + n) = true ∧
          (d.phasePassed (v + BitVec.ofNat 32 inc) = false → t.rd (R.TIM_PCMP n) = v + BitVec.ofNat 32 inc) ∧
          (d.phasePassed (v + BitVec.ofNat 32 inc) = true → t.bitAt F.TIM_CMPSTAT_LATE (4 + n) = true ∧ t.tim.again.getLsbD (4 + n) = true)))

/-- R219, R221: a compare that CONV_TRIG selects drives the sweep trigger in the cycle in which it fires; ONESHOT needs an armed engine and disarms
it. -/
def Claims.ComparesDriveTheSweepTrigger : Prop :=
  ∀ (s : State) (n : Fin 4), s.awake = true →
    let d := s.dev
    let c := d.sweepCfg
    d.tim.tcmp.length = 4 → d.get0 F.CONV_TRIG_SRC = 1 → d.get0 F.CONV_TRIG_CMP = n.val → d.bitAt F.TIM_CMPSTAT_ARMED n = true →
    (d.tb - nth d.tim.tcmp n 0).toNat < 2 ^ 47 → d.conv.infl = false → d.inMeasure = true → d.bit F.CAL_STAT_RUN = false →
    c.unit = false → (c.count = 1 ∨ 100 ≤ c.intv) → d.isHead = false →
    (d.get0 F.CONV_TRIG_ONESHOT = 0 ∨ d.conv.armed = true → s.gives (.timebaseCompareFire n) fun t =>
      t.conv.infl = true ∧ t.conv.software = false ∧ t.conv.cfg = c ∧
      t.conv.next = d.cycle + 23 + d.get0 F.CONV_DLY_COARSE + d.ftot 0 / 32 ∧
      t.conv.armed = (d.conv.armed && d.get0 F.CONV_TRIG_ONESHOT == 0)) ∧
    (d.get0 F.CONV_TRIG_ONESHOT = 1 → d.conv.armed = false → s.gives (.timebaseCompareFire n) fun t =>
      t.conv = d.conv ∧ t.get F.CONV_MISS_CNT = d.get F.CONV_MISS_CNT)

/-- R224 to R227: each capture unit that selects a source takes its corrected time, sets FULL or OVR and posts line 7; PHSYNC never fires on a member. A
read of TIM_CAPL clears FULL and latches the high word. The comparator's state follows its edges while it runs. -/
def Claims.CapturesRecordTheirTime : Prop :=
  ∀ (s : State) (u : Fin 4) (step : BitVec 5) (rising : Bool), s.awake = true →
    let d := s.dev
    let takes (src : BitVec 3) (delay : Nat) : Prop := d.get (F.TIM_CAPCFG_SRC u) = src.toNat → s.gives (.captureEvent src step) fun t =>
      let v := (d.now * 32 + step.toNat + 2 ^ 53 - delay) % 2 ^ 53
      t.rd (R.TIM_CAPL u) = BitVec.ofNat 32 (v / 32) ∧ nth t.tim.capH u 0 = BitVec.ofNat 32 (v % 32 * 65536 + v / 2 ^ 37) ∧
      t.bitAt F.TIM_CAPSTAT_FULL u = true ∧
      t.bitAt F.TIM_CAPSTAT_OVR u = (d.bitAt F.TIM_CAPSTAT_OVR u || d.bitAt F.TIM_CAPSTAT_FULL u) ∧ t.bitAt F.SEQ_IP_IP 7 = true
    d.tim.capH.length = 4 →
    takes 3 0 ∧ takes 4 0 ∧ takes 5 640 ∧ takes 6 640 ∧ (d.isHead = true → takes 1 192 ∧ takes 2 192) ∧
    (d.isHead = false → s.becomes (.captureEvent 1 step) d ∧ s.becomes (.captureEvent 2 step) d) ∧
    s.becomes (.captureEvent 0 step) d ∧ s.becomes (.captureEvent 7 step) d ∧
    (s.gives (.captureRead u) fun t => t.sent = d.sent ++ [.value (R.TIM_CAPL u) (d.rd (R.TIM_CAPL u))] ∧
      t.rd (R.TIM_CAPH u) = nth d.tim.capH u 0 ∧ t.bitAt F.TIM_CAPSTAT_FULL u = false ∧
      t.get F.TIM_CAPSTAT_OVR = d.get F.TIM_CAPSTAT_OVR ∧ d.keepsRegs t [R.TIM_CAPH u, R.TIM_CAPSTAT]) ∧
    (d.bit F.TIM_AUXCMP_EN = true → s.becomes (.aux7ComparatorEdge rising step) (d.putB F.TIM_AUXCMP_STATE rising)) ∧
    (d.bit F.TIM_AUXCMP_EN = false → s.becomes (.aux7ComparatorEdge rising step) d)

/-- R200 to R204: a phase timing frame on a member with a valid path delay forms its offset; the first one steps the timebase by −floor(δ / 32),
sets FRAC to δ mod 32 and STEP; a run of missed frames of 4 sets TFLOST and HOLD. -/
def Claims.PhaseTimingFramesAlignAMember : Prop :=
  ∀ (s : State) (f : Frame) (ta : BitVec 48) (step : BitVec 5), s.awake = true → s.dev.isHead = false →
    let d := s.dev
    let delta : Int := wrapDiff 60 ((ta.toNat * 32 + step.toNat) * 128)
      ((fieldAt f.payload 0 6 * 32 + byteAt f.payload 6 % 32) * 128 + d.tim.d)
    (f.payload.length = 36 → d.bit F.CHN_ADDR_TENT = false → d.bit F.TIM_PDLY_VALID = true → d.tim.stepNext = true →
      (∀ i, 7 ≤ i → i < 36 → byteAt f.payload i = 0) → 0 ≤ delta → roundHalfUp (delta % 4096) 128 < 32 → s.gives (.phtim .dn ta step f) fun t =>
        t.tb = d.tb - BitVec.ofNat 48 (delta.toNat / 4096) ∧ t.bit F.TIM_STAT_STEP = true ∧ t.tim.stepNext = false ∧ t.tim.missRun = 0 ∧
        t.tim.expected = d.cycle + 102400 ∧ t.power.commAt = d.cycle ∧
        t.get F.TIM_ALIGN_FRAC = (roundHalfUp (delta % 4096) 128).toNat) ∧
    (f.payload.length ≠ 36 → s.becomes (.phtim .dn ta step f) d) ∧
    (d.tim.everFramed = true → d.tim.expected + 51200 ≤ d.cycle → d.tim.missRun = 3 → s.gives .timingFrameMiss fun t =>
      t.tim.missRun = 4 ∧ t.bit F.TIM_STAT_TFLOST = true ∧ t.bit F.TIM_PHSTAT_HOLD = d.tim.model.isSome ∧
      t.get F.TIM_PHSTAT_MISS = min (d.get F.TIM_PHSTAT_MISS + 1) 255 ∧ d.keepsRegs t [R.TIM_PHSTAT, R.TIM_STAT]) ∧
    (d.tim.everFramed = false ∨ d.cycle < d.tim.expected + 51200 → s.becomes .timingFrameMiss d)

/-- R210, R211, R217: the waiting model takes effect at its TB, with its SEQ, LOCKED and HASM, and STEPM when it is flagged STEP. -/
def Claims.ModelsTakeEffectAtTheirBoundary : Prop :=
  ∀ (s : State) (m : PhaseModel), s.awake = true →
    let d := s.dev
    (d.tim.waiting = none → s.becomes .modelActivate d) ∧
    (d.tim.waiting = some m → 0 < wrapDiff 53 (m.tb / 32 * 32) (d.now * 32) → s.becomes .modelActivate d) ∧
    (d.tim.waiting = some m → wrapDiff 53 (m.tb / 32 * 32) (d.now * 32) ≤ 0 → s.gives .modelActivate fun t =>
      t.tim = { d.tim with model := some m, waiting := none } ∧ t.get F.TIM_PHSTAT_SEQ = m.seq.toNat ∧ t.bit F.TIM_PHSTAT_HASM = true ∧
      t.bit F.TIM_PHSTAT_LOCKED = m.locked ∧ t.bit F.TIM_PHSTAT_STEPM = (d.bit F.TIM_PHSTAT_STEPM || m.step) ∧
      t.plock = (m.locked && (d.isHead || (d.bit F.SYS_CLKSTAT_ALIGNED && decide (d.tim.missRun < 16)))) ∧
      d.keepsRegs t [R.TIM_PHSTAT, R.SYS_CLKSTAT])

/-- R198, R213 to R216, R343: a head sends PHTIM every 1.024 ms; a reference edge of the selected sense drives its phase loop, an edge missing for 1 % of
P counts, and the fourth in a row ends the lock. A member takes neither. -/
def Claims.HeadPhaseLoopFollowsItsReference : Prop :=
  ∀ (s : State) (t0 : Nat) (rising : Bool) (step : BitVec 5), s.awake = true →
    let d := s.dev
    let e := (d.now * 32 + step.toNat + 2 ^ 53 - 192) % 2 ^ 53
    (d.isHead = false → s.becomes .phtimSend d ∧ s.becomes (.phsyncEdge rising step) d ∧ s.becomes .phsyncEdgeMissed d) ∧
    (d.isHead = true → d.chain.phtimAt = some t0 → t0 ≤ d.cycle → s.gives .phtimSend fun t =>
      t.chain.phtimAt = some (t0 + 102400) ∧ t.tb = d.tb ∧ ∃ f crc l, t.sent = d.sent ++ .frame .up f crc :: l ∧ f.ty = 8 ∧ f.dest = 127 ∧
        f.payload.length = 36 ∧ fieldAt f.payload 0 6 = d.now ∧ fieldAt f.payload 22 6 = d.chain.token.toNat) ∧
    (d.isHead = true → d.isTwin = false → d.get F.TIM_PHCFG_SRC = (if rising then 0 else 1) → d.get F.CHN_TRIGCFG_PHS = 0 →
      (d.loop.edges = 0 → s.becomes (.phsyncEdge rising step) { d with
        loop := { d.loop with lastEdge := e, edges := 1, goodRun := 0, missedRun := 0 } }) ∧
      (d.loop.edges = 1 → s.gives (.phsyncEdge rising step) fun t => t.loop.edges = 2 ∧ t.loop.lastEdge = e ∧
        (t.loop.period : Int) = max 0 (wrapDiff 53 e d.loop.lastEdge)) ∧
      (2 ≤ d.loop.edges → d.loop.locked = true → (d.loop.period : Int) < 100 * (wrapDiff 53 e d.loop.predicted).natAbs →
        s.gives (.phsyncEdge rising step) fun t => t.loop.edges = 0 ∧ t.loop.locked = false)) ∧
    (d.isHead = true → d.isTwin = false → d.get F.TIM_PHCFG_SRC ≠ 2 → 2 ≤ d.loop.edges →
      (d.loop.period : Int) ≤ wrapDiff 53 (d.now * 32) d.loop.predicted * 100 → s.gives .phsyncEdgeMissed fun t =>
        t.get F.TIM_PHSTAT_MISS = min (d.get F.TIM_PHSTAT_MISS + 1) 255 ∧ d.keepsRegs t [R.TIM_PHSTAT] ∧
        (3 ≤ d.loop.missedRun → t.loop.locked = false ∧ t.loop.edges = 0) ∧
        (d.loop.missedRun < 3 → t.loop.missedRun = d.loop.missedRun + 1 ∧ t.loop.edges = d.loop.edges))

/-- R37, R205, R212, R454: TIME aligns B0 to A0, the first after SOLO steps it; MODEL gives B0 its model. Every other device, and a message that fails its
check, leaves them without effect but on the link's own run. -/
def Claims.HeadsShareTimeAndModels : Prop :=
  ∀ (s : State) (dep ta : BitVec 53) (m : ModelMsg), s.awake = true →
    let d := s.dev
    (d.isHead = true → d.isTwin = true → d.bit F.SYS_CLKSTAT_SOLO = true → d.bit F.TIM_PHSTAT_PLOCK = false → s.gives (.timeMsg dep ta true) fun t =>
      t.bit F.SYS_CLKSTAT_SOLO = false ∧ t.bit F.TIM_STAT_STEP = true ∧ t.tim.stepNext = false ∧ t.tim.missRun = 0) ∧
    (d.isHead = true → d.isTwin = true → d.bit F.SYS_CLKSTAT_SOLO = false → m.pinc ≠ 0 → d.tim.model = none → d.tim.waiting = none →
      300 * 32 ≤ wrapDiff 53 m.tb.toNat (d.now * 32) → s.gives (.modelMsg m true) fun t =>
        ∃ x : PhaseModel, t.tim.waiting = some x ∧ t.loop.issue = some x ∧ x.tb = m.tb.toNat ∧ x.pc = m.pc ∧ x.pinc = m.pinc ∧ x.seq = m.seq ∧
          x.locked = m.locked) ∧
    (d.isHead = false ∨ d.isTwin = false → s.gives (.modelMsg m true) (fun t => t.tim = d.tim ∧ t.loop = d.loop) ∧
      s.gives (.timeMsg dep ta true) (fun t => t.tim = d.tim ∧ t.tb = d.tb))

/-- R115, R116, R120, R224, R342: a TRIG frame that names the device keeps its target until the timebase reaches it, and one tick later the trigger is
accepted; with another source selected it is consumed alone. -/
def Claims.ChainTriggersLaunchAtTheirTarget : Prop :=
  ∀ (s : State) (f : Frame) (x : TrigTarget), s.awake = true → s.dev.isHead = false →
    let d := s.dev
    (d.chain.targets = [] → s.becomes .chainTriggerTarget d) ∧
    (d.chain.targets = [x] → wrapDiff 48 x.t.toNat d.now ≤ 0 → d.get0 F.CONV_TRIG_SRC ≠ 3 →
      s.becomes .chainTriggerTarget { d with chain := { d.chain with targets := [] } }) ∧
    (d.chain.targets = [x] → x.t = d.tb - 1 → d.get0 F.CONV_TRIG_SRC = 3 → d.get0 F.CONV_TRIG_ONESHOT = 0 → d.conv.infl = false →
      d.inMeasure = true → d.bit F.CAL_STAT_RUN = false → d.sweepCfg.unit = false → (d.sweepCfg.count = 1 ∨ 100 ≤ d.sweepCfg.intv) →
      s.gives .chainTriggerTarget fun t => t.chain.targets = [] ∧ t.conv.infl = true ∧ t.conv.cfg = d.sweepCfg ∧
        t.conv.next = d.cycle + 22 + d.get0 F.CONV_DLY_COARSE + d.ftot x.fine.toNat / 32) ∧
    (f.ty = 7 → f.payload.length = 8 → (f.dest = 127 ∨ f.dest.toNat = d.addr) → d.addrValid = true → d.get0 F.CONV_TRIG_SRC = 3 →
      300 ≤ wrapDiff 48 (fieldAt f.payload 0 6 + d.delayTo (byteAt f.payload 6 % 32)) d.now →
      s.gives (.trig f) fun t => t.chain.targets = d.chain.targets ++ [⟨BitVec.ofNat 48 (fieldAt f.payload 0 6),
        BitVec.ofNat 5 (byteAt f.payload 6)⟩] ∧ t.conv = d.conv ∧ t.power.commAt = d.cycle)

/-! ### Programs (R288 to R304, R341) -/

/-- R289 to R295, R341: an accepted OPEN with a good header opens a session for the inactive bank, whose image or segment becomes invalid, and is
answered with SEQ_LDSTAT; while a SWAP is pending it is refused with RUNPEND. -/
def Claims.OpenStartsALoadSession : Prop :=
  ∀ (s : State) (p : Port) (f : Frame), s.awake = true → s.dev.accepts p f → f.ty = 5 → f.auth = true → f.payload.length = 68 →
    byteAt f.payload 0 = 1 →
    let d := s.dev
    let h : Image := ⟨wordsOf (f.payload.drop 4)⟩
    let b := d.otherBank
    let swapPending := d.bit F.SEQ_RUNSTAT_PEND && d.get F.SEQ_RUNSTAT_FORM == 0
    (swapPending = false → d.headerCause h (d.get F.CHN_PSTAT_BREV) = none → s.gives (.ploadOpen p f) fun t =>
      t.get F.SEQ_LDSTAT_STATE = 1 ∧ t.get F.SEQ_LDSTAT_CAUSE = 0 ∧ t.get F.SEQ_LDSTAT_CHUNKS = 0 ∧ t.bit F.SEQ_LDSTAT_KIND = h.isUser ∧
      t.bit F.SEQ_LDSTAT_MISSING = false ∧ (∀ j : Fin 8, t.rd (R.SEQ_LDMAP j) = 0) ∧ t.load.hdr = h.words ∧
      t.bitAt F.SEQ_BANK_UVAL b = false ∧ t.bitAt F.SEQ_BANK_VALID b = (h.isUser && d.bitAt F.SEQ_BANK_VALID b) ∧
      t.get F.SEQ_BANK_ACT = d.get F.SEQ_BANK_ACT ∧ t.hearth = d.hearth ∧
      d.answers t f ([0, 1] ++ (f.payload.drop 2).take 2 ++ t.rdBytes R.SEQ_LDSTAT)) ∧
    (∀ c, swapPending = false → d.headerCause h (d.get F.CHN_PSTAT_BREV) = some c → s.gives (.ploadOpen p f) fun t =>
      t.get F.SEQ_LDSTAT_STATE = 4 ∧ t.get F.SEQ_LDSTAT_CAUSE = c ∧ d.answers t f ([0, 1] ++ (f.payload.drop 2).take 2 ++ t.rdBytes R.SEQ_LDSTAT)) ∧
    (swapPending = true → s.gives (.ploadOpen p f) fun t =>
      t.get F.SEQ_LDSTAT_STATE = 4 ∧ t.get F.SEQ_LDSTAT_CAUSE = 9 ∧ t.rd R.SEQ_BANK = d.rd R.SEQ_BANK ∧ t.load = d.load)

/-- R292, R294, R295, R341: a DATA frame in an open session writes its chunk, up to LEN, and marks it; CLOSE starts the check once every chunk is
present and sets MISSING before; ABORT, as a frame or by SEQ_LDCTL, abandons the session. -/
def Claims.LoadFramesFillTheInactiveBank : Prop :=
  ∀ (s : State) (p : Port) (f : Frame), s.awake = true →
    let d := s.dev
    let h : Image := ⟨d.load.hdr⟩
    let i := fieldAt f.payload 2 2
    let words := (wordsOf (f.payload.drop 4)).take (h.len - 32 * i)
    let base := d.otherBank * 8192 + h.loadAt + 32 * i
    let taken (n k : Nat) : Prop := d.accepts p f ∧ f.ty = 5 ∧ f.auth = true ∧ f.payload.length = n ∧ byteAt f.payload 0 = k
    (taken 132 2 → d.get F.SEQ_LDSTAT_STATE = 1 → i < h.chunks → i < 256 → s.givesM (.ploadData p f) fun m t =>
      m = { s.mems with prog := Store.writeAll Mems.progDflt s.mems.prog base words } ∧
      t.hasChunk i = true ∧ t.get F.SEQ_LDSTAT_CHUNKS = (d.get F.SEQ_LDSTAT_CHUNKS + (if d.hasChunk i then 0 else 1)) % 65536 ∧
      t.get F.SEQ_LDSTAT_STATE = 1 ∧ d.answers t f ([0, 2] ++ (f.payload.drop 2).take 2 ++ t.rdBytes R.SEQ_LDSTAT)) ∧
    (taken 132 2 → (d.get F.SEQ_LDSTAT_STATE ≠ 1 ∨ h.chunks ≤ i) → s.givesM (.ploadData p f) fun m t => m = s.mems ∧
      t.rd R.SEQ_LDSTAT = d.rd R.SEQ_LDSTAT) ∧
    (taken 20 3 → d.get F.SEQ_LDSTAT_STATE = 1 → s.gives (.ploadClose p f) fun t =>
      ((∀ j, j < h.chunks → d.hasChunk j = true) → t.get F.SEQ_LDSTAT_STATE = 2 ∧ t.load.trailer = f.payload.drop 4) ∧
      (∀ j, j < h.chunks → d.hasChunk j = false → t.get F.SEQ_LDSTAT_STATE = 1 ∧ t.bit F.SEQ_LDSTAT_MISSING = true)) ∧
    (taken 4 4 → d.sessionOpen = true → s.gives (.ploadAbort p f) fun t => t.get F.SEQ_LDSTAT_STATE = 4 ∧ t.get F.SEQ_LDSTAT_CAUSE = 10) ∧
    (d.sessionOpen = true → s.gives .seqLdctlAbort fun t => t.get F.SEQ_LDSTAT_STATE = 4 ∧ t.get F.SEQ_LDSTAT_CAUSE = 10 ∧
      d.keepsRegs t [R.SEQ_LDSTAT]) ∧
    (d.sessionOpen = false → s.becomes .seqLdctlAbort d)

/-- R294, R295: the check of a closed image compares CODECRC, then needs a key, then compares the CMAC under KP; a supervisor image that passes makes
its bank valid and fills the bank's registers. -/
def Claims.ImageChecksAcceptOrReject : Prop :=
  ∀ (s : State) (kp : BitVec 128), s.awake = true → s.dev.get F.SEQ_LDSTAT_STATE = 2 →
    let d := s.dev
    let h : Image := ⟨d.load.hdr⟩
    let b := d.otherBank
    let code := ((imageCode s.mems b h).map wordBytes).flatten
    let mac := Aes.cmac kp ((h.words.map wordBytes).flatten ++ code)
    let rejected (c : Nat) : Prop := s.gives .imageCheckComplete fun t =>
      t.get F.SEQ_LDSTAT_STATE = 4 ∧ t.get F.SEQ_LDSTAT_CAUSE = c ∧ t.rd R.SEQ_BANK = d.rd R.SEQ_BANK
    (Crc.crc32 code ≠ h.codeCrc → rejected 5) ∧
    (Crc.crc32 code = h.codeCrc → d.keys.kp = none → rejected 7) ∧
    (Crc.crc32 code = h.codeCrc → d.keys.kp = some kp → mac ≠ BitVec.ofNat 128 (ofBeBytes d.load.trailer) → rejected 6) ∧
    (Crc.crc32 code = h.codeCrc → d.keys.kp = some kp → mac = BitVec.ofNat 128 (ofBeBytes d.load.trailer) → h.isUser = false →
      d.load.banks.length = 2 → s.gives .imageCheckComplete fun t =>
        t.get F.SEQ_LDSTAT_STATE = 3 ∧ t.bitAt F.SEQ_BANK_VALID b = true ∧ t.get F.SEQ_BANK_ACT = d.get F.SEQ_BANK_ACT ∧
        t.get (F.SEQ_BVER_VERSION b) = h.version ∧ t.get (F.SEQ_BGEN_LREV b) = h.lrev ∧ t.get (F.SEQ_BGEN_IFGEN b) = h.ifgen ∧
        t.get (F.SEQ_BLEN_LEN b) = h.len ∧ t.rd (R.SEQ_BCRC b) = h.codeCrc ∧
        nth t.load.banks b ⟨0, 0, 0⟩ = ⟨h.ustart, h.uend, h.grantMax⟩) ∧
    (Crc.crc32 code = h.codeCrc → d.keys.kp = some kp → mac = BitVec.ofNat 128 (ofBeBytes d.load.trailer) → d.regionBad h = true → rejected 8)

/-- R296 to R298, R301, R341: a RUN frame of form SWAP or RESTART becomes pending, or is refused with its cause and leaves what is pending; HALT halts
Hearth and writes no working register; CANCEL ends what is pending. Every RUN is answered with SEQ_RUNSTAT. -/
def Claims.RunFramesRequestAndCancel : Prop :=
  ∀ (s : State) (p : Port) (f : Frame) (c : Nat), s.awake = true → s.dev.accepts p f → f.ty = 6 → f.auth = true → f.payload.length = 8 →
    let d := s.dev
    let form := byteAt f.payload 0 % 4
    let pcb := fieldAt f.payload 2 2
    let ver : Word := BitVec.ofNat 32 (fieldAt f.payload 4 4)
    let run : Instr := if form = 0 then .runSwap p f else .runRestart p f
    let done (t : Dev) : Prop := d.answers t f ([0, 0, 0, 0] ++ t.rdBytes R.SEQ_RUNSTAT)
    (form < 2 → d.runCause (form == 0) ver pcb = none → s.gives run fun t =>
      t.bit F.SEQ_RUNSTAT_PEND = true ∧ t.get F.SEQ_RUNSTAT_FORM = form ∧ t.get F.SEQ_RUNSTAT_PCB = pcb ∧ t.get F.SEQ_RUNSTAT_CAUSE = 0 ∧
      t.hearth = d.hearth ∧ done t) ∧
    (form < 2 → d.runCause (form == 0) ver pcb = some c → s.gives run fun t =>
      t.get F.SEQ_RUNSTAT_CAUSE = c ∧ t.bit F.SEQ_RUNSTAT_PEND = d.bit F.SEQ_RUNSTAT_PEND ∧ t.get F.SEQ_RUNSTAT_PCB = d.get F.SEQ_RUNSTAT_PCB ∧
      t.hearth = d.hearth ∧ done t) ∧
    (form = 2 → d.hearth.run = true → s.gives (.runHalt p f) fun t =>
      t.hearth = { d.hearth with run := false, wait := none, busy := 0 } ∧ t.get F.SEQ_STAT_HCAUSE = 4 ∧ done t) ∧
    (form = 3 → d.bit F.SEQ_RUNSTAT_PEND = true → s.gives (.runCancel p f) fun t =>
      t.bit F.SEQ_RUNSTAT_PEND = false ∧ t.get F.SEQ_RUNSTAT_CAUSE = 9 ∧ t.hearth = d.hearth ∧ done t)

/-- R55, R233, R299: at the boundary of a pending SWAP the inactive bank becomes active, and its program enters at word 0 with registers, flags and the
sequencer's exception registers clear; the device leaves Start for Measure. Before the boundary nothing happens. -/
def Claims.RunBoundaryEntersTheProgram : Prop :=
  ∀ (s : State) (t0 : Nat), s.awake = true →
    let d := s.dev
    let b := if d.get F.SEQ_RUNSTAT_FORM = 0 then d.otherBank else d.bank
    let due : Prop := wrapDiff 53 (t0 / 32 * 32) (d.now * 32) ≤ 0
    (d.bit F.SEQ_RUNSTAT_PEND = false → s.becomes .runBoundary d) ∧
    (d.bit F.SEQ_RUNSTAT_PEND = true → d.boundaryOf (d.get F.SEQ_RUNSTAT_PCB) = some t0 → ¬ due → s.becomes .runBoundary d) ∧
    (d.bit F.SEQ_RUNSTAT_PEND = true → d.boundaryOf (d.get F.SEQ_RUNSTAT_PCB) = some t0 → due → d.bit F.BST_STAT_LBUSY = false →
      s.gives .runBoundary fun t =>
        t.bank = b ∧ t.hearth.pc.toNat = b * 8192 ∧ t.hearth.w = List.replicate 16 0 ∧ t.hearth.run = true ∧ t.hearth.user = false ∧
        t.hearth.wait = none ∧ t.hearth.z = false ∧ t.hearth.n = false ∧ t.hearth.c = false ∧ t.hearth.v = false ∧
        t.hearth.rxq = d.hearth.rxq ∧ t.bit F.SEQ_CTL_IEN = false ∧ t.get F.SEQ_IE_IE = 0 ∧ t.rd R.SEQ_ESR = 0 ∧ t.get F.SEQ_EPC_EPC = 0 ∧
        t.rd R.SEQ_EXC = 0 ∧ t.rd R.SEQ_EXCI = 0 ∧ t.rd R.SEQ_GRANT = 0 ∧ t.rd R.SEQ_UWIN = 0 ∧ t.bit F.SEQ_RUNSTAT_PEND = false ∧
        t.rd R.SEQ_IP = d.rd R.SEQ_IP ∧ t.pstate = (if d.pstate = 1 then 2 else d.pstate) ∧ t.conv = d.conv ∧ t.drawers = d.drawers ∧
        t.bal = d.bal)

/-- R245, R302: Hearth in supervisor mode writes SEQ_GRANT within GRANTMAX, every other write of it is ignored; a write of SEQ_DOOR sets line 14. -/
def Claims.GrantsAndTheDoorbell : Prop :=
  ∀ (s : State) (who : By) (w : Word), s.awake = true →
    let d := s.dev
    (d.hearth.user = false → s.gives (.seqGrantWrite .hearth w) fun t => d.keepsRegs t [R.SEQ_GRANT] ∧
      t.rd R.SEQ_GRANT = w &&& (nth d.load.banks d.bank ⟨0, 0, 0⟩).grantMax &&& 0x1FFDFB#32) ∧
    ((who ≠ .hearth ∨ d.hearth.user = true) → s.becomes (.seqGrantWrite who w) d) ∧
    (s.gives (.doorbell w) fun t => t.rd R.SEQ_DOOR = w ∧ t.bitAt F.SEQ_IP_IP 14 = true ∧ d.keepsRegs t [R.SEQ_DOOR, R.SEQ_IP])

/-! ### Performance counters and the frame tagger (R658 to R676) -/

/-- R659, R663, R664, R671, R675: CLR clears the counters and OVF; an overflow sets OVF and carries into a chained counter that counts; reads latch
what belongs to them; a tag record closes into its slot and its read clears VALID. -/
def Claims.CountersOverflowLatchAndClear : Prop :=
  ∀ (s : State) (n : Fin 6) (r : Fin 8) (o : TagOpen), s.awake = true →
    let d := s.dev
    let above : Bool := decide (n.val < 5) && d.chained (n + 1)
    (s.gives .prfClr fun t => (∀ k : Fin 6, t.rd (R.PRF_PMC k) = 0) ∧ t.get F.PRF_STAT_OVF = 0 ∧
      d.keepsRegs t (R.PRF_STAT :: (List.range 6).map R.PRF_PMC)) ∧
    (n.val ∉ d.perf.wrapped → s.becomes (.pmcOverflow n) d) ∧
    (n.val ∈ d.perf.wrapped → d.bit (F.PRF_PMCFG_SEN n) = false → s.gives (.pmcOverflow n) fun t =>
      t.bitAt F.PRF_STAT_OVF n = true ∧
      (above = false → t.perf = { d.perf with wrapped := d.perf.wrapped.erase n } ∧ d.keepsRegs t [R.PRF_STAT]) ∧
      (above = true → d.pmcCounts (n + 1) = true → t.rd (R.PRF_PMC (n + 1)) = d.rd (R.PRF_PMC (n + 1)) + 1)) ∧
    (n.val ∈ d.perf.wrapped → d.bit (F.PRF_PMCFG_SEN n) = true → s.gives (.pmcOverflow n) fun t =>
      t.perf.sampling = some n.val ∧ t.bitAt F.SEQ_IP_IP 13 = true ∧ (d.bit F.PRF_CTL_FRZOVF = true → t.bit F.PRF_CTL_FRZ = true)) ∧
    (s.gives (.pmcRead n) fun t => t.sent = d.sent ++ [.value (R.PRF_PMC n) ((nth d.perf.shadow n none).getD (d.rd (R.PRF_PMC n)))] ∧
      d.keepsRegs t [] ∧ (d.perf.shadow.length = 7 → nth t.perf.shadow n none = none ∧
        nth t.perf.shadow (n + 1) none = if above then some (d.rd (R.PRF_PMC (n + 1))) else nth d.perf.shadow (n + 1) none)) ∧
    (s.gives .cycleCounterRead fun t => t.sent = d.sent ++ [.value R.PRF_CYCL (d.perf.cyc.truncate 32)] ∧
      t.rd R.PRF_CYCH = (d.perf.cyc >>> 32).truncate 32 ∧ d.keepsRegs t [R.PRF_CYCH]) ∧
    (d.readReg R.PRF_CYCH).1 = d.rd R.PRF_CYCH ∧ (d.readReg R.PRF_CYCH).2.rd R.PRF_CYCH = d.rd R.PRF_CYCH ∧
    (d.perf.tagOpen = none → ∀ x, s.becomes (.tagRecordClose x) d) ∧
    (d.perf.tagOpen = some o → d.perf.tags.length = 8 → s.gives (.tagRecordClose false) fun t =>
      let k := nth t.perf.tags (d.get F.PRF_TAGSTAT_NEXT) ⟨[], []⟩
      t.perf.tagOpen = none ∧ nth k.words 0 0 = o.hdr ∧ (nth k.words 1 0).getLsbD 31 = true ∧ nth k.words 2 0 = o.tarr ∧
      nth k.words 3 0 = o.tq ∧ nth k.words 4 0 = o.tfwd ∧ nth k.words 5 0 = d.stamp ∧
      t.get F.PRF_TAGSTAT_NEXT = (d.get F.PRF_TAGSTAT_NEXT + 1) % 8 ∧ t.bit F.PRF_TAGSTAT_OPEN = false) ∧
    (d.perf.tags.length = 8 → s.gives (.tagRecordRead r) fun t =>
      let k := nth d.perf.tags r ⟨[], []⟩
      t.sent = d.sent ++ [.value (R.PRF_TAG0 r) (nth k.words 0 0)] ∧ (nth t.perf.tags r ⟨[], []⟩).latched = k.words.drop 1 ∧
      (nth (nth t.perf.tags r ⟨[], []⟩).words 1 0).getLsbD 31 = false ∧ nth (nth t.perf.tags r ⟨[], []⟩).words 0 0 = nth k.words 0 0)

/-! ### Registers, requests and the host interface (R12 to R17, R242, R337 to R340, R359 to R380, R620, R681) -/

/-- R15, R17, R242, R681: an unimplemented offset reads 0, and a write to it has no effect; nor has a chain write without authentication of a register reserved to
authenticated frames, or a write by Hearth of one; a write to a locked register raises the alarm alone. -/
def Claims.RegisterWritesTakeEffectOrAreIgnored : Prop :=
  ∀ (s : State) (who : By) (a : BitVec 16) (w : Word), s.awake = true → a ≠ BitVec.ofNat 16 R.SYS_RSTCMD →
    let d := s.dev
    let n := a.toNat
    (descAt n = none → d.readReg n = (0, d) ∧ s.becomes (.registerWrite who a w) d) ∧
    (who = .plain → d.needsAuth n w = true → s.becomes (.registerWrite who a w) d) ∧
    (who = .hearth → Dev.authOnly n = true → s.becomes (.registerWrite who a w) d) ∧
    (d.inactive n = true → s.becomes (.registerWrite who a w) d) ∧
    (descAt n ≠ none → who = .auth → d.inactive n = false → d.lockedReg n = true → s.gives (.registerWrite who a w) fun t =>
      t.rd n = d.rd n ∧ t.bitAt F.SEC_ALM_SRC 3 = true ∧ t.keys.ks = none ∧ t.bit F.SEC_STAT_ASTOP = true ∧
      ∃ code, d.posts t [(7, 2, code, 3)])

/-- R12, R13: a write of a register that no meaning watches sets its RW fields, clears the W1C bits that it names and that hardware has not set in this
cycle, and leaves its other bits and every other register; here TIM_CMPIE, CONV_SWEEP and TIM_STAT. -/
def Claims.PlainWritesSetTheirFields : Prop :=
  ∀ (s : State) (who : By) (w : Word), s.awake = true → s.dev.touch = [] →
    let d := s.dev
    (s.gives (.registerWrite who (BitVec.ofNat 16 R.TIM_CMPIE) w) fun t =>
      t.get F.TIM_CMPIE_IE = w.toNat % 256 ∧ d.keepsRegs t [R.TIM_CMPIE] ∧ t = { d with regs := t.regs }) ∧
    (d.isHead = false → s.gives (.registerWrite who (BitVec.ofNat 16 R.CONV_SWEEP) w) fun t =>
      t.get F.CONV_SWEEP_COUNT = w.toNat % 65536 ∧ d.keepsRegs t [R.CONV_SWEEP] ∧ t = { d with regs := t.regs }) ∧
    (d.isHead = true → s.becomes (.registerWrite who (BitVec.ofNat 16 R.CONV_SWEEP) w) d) ∧
    (s.gives (.registerWrite who (BitVec.ofNat 16 R.TIM_STAT) w) fun t =>
      t.bit F.TIM_STAT_TBWRAP = (d.bit F.TIM_STAT_TBWRAP && !w.getLsbD 1) ∧ t.bit F.TIM_STAT_STEP = (d.bit F.TIM_STAT_STEP && !w.getLsbD 2) ∧
      t.bit F.TIM_STAT_ALOST = (d.bit F.TIM_STAT_ALOST && !w.getLsbD 3) ∧ t.bit F.TIM_STAT_TFLOST = (d.bit F.TIM_STAT_TFLOST && !w.getLsbD 4) ∧
      t.bit F.TIM_STAT_ALIGNED = d.bit F.TIM_STAT_ALIGNED ∧ d.keepsRegs t [R.TIM_STAT] ∧ t = { d with regs := t.regs })

/-- R337, R339, R340: a member that accepts a REGRD answers its STATUS, ADDR and the register's value, and a REGWR its STATUS and ADDR, with the effect of
the write; a misaligned address is answered with ADDR, and has no effect. -/
def Claims.RegisterRequestsReadAndWrite : Prop :=
  ∀ (s : State) (p : Port) (f : Frame), s.awake = true → s.dev.accepts p f → f.auth = false →
    let d := s.dev
    let e := (d.event 18 1).frameSeen
    let a := fieldAt f.payload 0 2
    let hd (st : Nat) : List Byte := [BitVec.ofNat 8 st, 0, nth f.payload 0 0, nth f.payload 1 0]
    let w : Word := BitVec.ofNat 32 (fieldAt f.payload 4 4)
    (f.ty = 1 → f.payload.length = 4 → a % 4 = 0 → s.gives (.regrd p f) fun t => d.answers t f (hd 0 ++ wordBytes (e.readReg a).1) ∧
      (∀ x, x ≠ R.PRF_TAGSTAT → t.rd x = (e.readReg a).2.rd x)) ∧
    (f.ty = 1 → f.payload.length = 4 → a % 4 ≠ 0 → s.gives (.regrd p f) fun t => d.answers t f (hd 1 ++ [0, 0, 0, 0]) ∧
      d.keepsRegs t [R.PRF_TAGSTAT]) ∧
    (f.ty = 2 → f.payload.length = 8 → a % 4 = 0 → a ≠ R.SYS_RSTCMD → a ≠ R.CHN_ADDR → (e.writeReg .plain a w).2.chain = d.chain →
      (e.writeReg .plain a w).2.side = 0 → s.gives (.regwr p f) fun t => d.answers t f (hd (e.writeReg .plain a w).1) ∧
        (∀ x, x ≠ R.PRF_TAGSTAT → t.rd x = (e.writeReg .plain a w).2.rd x)) ∧
    (f.ty = 2 → f.payload.length = 8 → a % 4 ≠ 0 → s.gives (.regwr p f) fun t => d.answers t f (hd 1) ∧ d.keepsRegs t [R.PRF_TAGSTAT])

/-- R337, R338, R339, R517, R606, R619: a unicast request is refused, without its effect, with AUTH where authentication is required and absent or the CMAC
fails, with LEN for a wrong length, with LOCKOUT in Lockout and with FOREIGN by a foreign unit. -/
def Claims.RefusedRequestsAreAnsweredWithTheirStatus : Prop :=
  ∀ (s : State) (p : Port) (f : Frame), s.awake = true →
    let d := s.dev
    let hd (st : Nat) : List Byte := [BitVec.ofNat 8 st, 0, nth f.payload 0 0, nth f.payload 1 0]
    let heard : Prop := d.isHead = false ∧ d.consumes p f = true ∧ f.dest ≠ 127 ∧ d.side = 0 ∧ d.power.releasedAt ≠ d.cycle ∧ f.ty = 2
    let refusedWith (st : Nat) (t : Dev) : Prop := (∃ o : Own, t.chain.ownFwd = d.chain.ownFwd ++ [o] ∧ o.frame.payload = hd st ∧
      o.frame.auth = false) ∧ t.power.commAt = d.cycle
    (heard → f.payload.length ≠ 8 → s.gives (.regwr p f) fun t => refusedWith 7 t ∧ d.keepsRegs t [R.PRF_TAGSTAT]) ∧
    (heard → f.payload.length = 8 → f.auth = true → d.keys.ks = none → s.gives (.regwr p f) (refusedWith 2)) ∧
    (heard → f.payload.length = 8 → f.auth = false → d.bit F.FLT_STAT_LKO = true → fieldAt f.payload 0 2 = R.CONV_SWEEP →
      s.gives (.regwr p f) fun t => refusedWith 3 t ∧ t.get F.FLT_LKREF_CNT = min (d.get F.FLT_LKREF_CNT + 1) (2 ^ F.FLT_LKREF_CNT.width - 1) ∧
        d.keepsRegs t [R.PRF_TAGSTAT, R.FLT_LKREF]) ∧
    (heard → f.payload.length = 8 → f.auth = false → d.bit F.FLT_STAT_LKO = false → d.bit F.SYS_PWRSTAT_FOREIGN = true →
      s.gives (.regwr p f) fun t => refusedWith 4 t ∧ d.keepsRegs t [R.PRF_TAGSTAT]) ∧
    (heard → f.payload.length = 8 → f.auth = false → d.bit F.FLT_STAT_LKO = false → d.bit F.SYS_PWRSTAT_FOREIGN = false →
      fieldAt f.payload 0 2 = R.GRD_CTL → s.gives (.regwr p f) fun t => refusedWith 2 t ∧ d.keepsRegs t [R.PRF_TAGSTAT]) ∧
    (d.consumes p f = false → s.givesM (.regwr p f) fun m t => m = s.mems ∧ t = d)

/-- R238, R339, R340: a block request of data SRAM reads or writes its bytes, most significant byte first; one that passes the end of its space, or is
misaligned, is answered with ADDR, and one with a wrong COUNT with LEN. -/
def Claims.BlockRequestsReadAndWriteDataSram : Prop :=
  ∀ (s : State) (p : Port) (f : Frame), s.awake = true → s.dev.accepts p f → f.auth = false → byteAt f.payload 0 = 1 →
    let d := s.dev
    let n := fieldAt f.payload 2 2
    let a := fieldAt f.payload 4 4
    let hd (st : Nat) : List Byte := [BitVec.ofNat 8 st, nth f.payload 0 0] ++ (f.payload.drop 2).take 6
    let fine : Prop := 4 ≤ n ∧ n ≤ 248 ∧ n % 4 = 0
    (f.ty = 3 → f.payload.length = 8 → fine → a % 4 = 0 → a + n ≤ 0x20000 → s.gives (.blkrd p f) fun t =>
      d.answers t f (hd 0 ++ (List.range n).map (fun i => s.mems.byte (a + i))) ∧ d.keepsRegs t [R.PRF_TAGSTAT]) ∧
    (f.ty = 3 → f.payload.length = 8 → fine → (a % 4 ≠ 0 ∨ 0x20000 < a + n) → s.gives (.blkrd p f) fun t => d.answers t f (hd 1)) ∧
    (f.ty = 3 → f.payload.length = 8 → ¬ fine → s.gives (.blkrd p f) fun t => d.answers t f (hd 7)) ∧
    (f.ty = 4 → fine → f.payload.length = 8 + n → a % 4 = 0 → a + n ≤ 0x20000 → s.givesM (.blkwr p f) fun m t =>
      (∀ i, i < n → m.byte (a + i) = nth f.payload (8 + i) 0) ∧ (∀ x, (x < a ∨ a + n ≤ x) → m.byte x = s.mems.byte x) ∧
      m.prog = s.mems.prog ∧ m.nand = s.mems.nand ∧ d.answers t f (hd 0) ∧ d.keepsRegs t [R.PRF_TAGSTAT])

/-- R373 to R379, R517, R620: SPI frames at a head. RDREG gives the register, WRREG counts as authenticated and acknowledges its RESULT, TXF queues a frame
in good order, RXF gives the oldest record and takes it out when its trailer has left, an invalid command counts. A member has no SPI. -/
def Claims.SpiFramesServeTheHost : Prop :=
  ∀ (s : State) (a : BitVec 16) (w : Word) (words : List Word) (x : HostRec) (rest : List HostRec), s.awake = true →
    let d := s.dev
    let e := d.spiSeen
    let f := txfFrame words
    d.power.releasedAt ≠ d.cycle →
    (d.isHead = false → s.becomes (.spiRdreg a true) d ∧ s.becomes (.spiWrreg a w true) d ∧ s.becomes (.spiTxf words true) d ∧
      s.becomes (.spiRxf true) d ∧ s.becomes (.spiInvalidFrame true) d) ∧
    (d.isHead = true →
      (s.gives (.spiRdreg a true) fun t => t.regs = (e.readReg a.toNat).2.regs ∧ t.sent = (e.readReg a.toNat).2.sent ++
        [.spi (d.spiStatus ++ wordBytes (e.readReg a.toNat).1 ++ [0, 0, 0, Crc.crc8 (wordBytes (e.readReg a.toNat).1)])]) ∧
      (d.bit F.FLT_STAT_LKO = false → a ≠ BitVec.ofNat 16 R.SYS_RSTCMD → s.gives (.spiWrreg a w true) fun t =>
        t.regs = (e.writeReg .auth a.toNat w).2.regs) ∧
      (d.bit F.FLT_STAT_LKO = true → a.toNat ≠ R.FLT_UNLOCK → a.toNat ≠ R.SYS_RSTCMD → s.gives (.spiWrreg a w true) fun t =>
        d.keepsRegs t [R.FLT_LKREF] ∧ t.sent = d.sent ++ [.spi (d.spiStatus ++ List.replicate 8 0 ++ [7, 0, 0, Crc.crc8 [7, 0, 0]])]) ∧
      (s.gives (.spiWrreg a w false) fun t => d.keepsRegs t [R.CHN_SPIERR] ∧
        t.sent = d.sent ++ [.spi (d.spiStatus ++ List.replicate 8 0 ++ [1, 0, 0, Crc.crc8 [1, 0, 0]])]) ∧
      (d.chain.htx.length < 16 → f.src = 0 → f.orig = false → f.ty.toNat ∈ [1, 2, 3, 4, 5, 6, 9, 11] → f.rev = d.requestRev f.dest.toNat →
        words.length = txfWords words → d.healed = false → d.bit F.FLT_STAT_LKO = false → s.gives (.spiTxf words true) fun t =>
          t.chain.htx = d.chain.htx ++ [f] ∧ d.keepsRegs t []) ∧
      (16 ≤ d.chain.htx.length → s.gives (.spiTxf words true) fun t => t.chain.htx = d.chain.htx ∧ d.keepsRegs t []) ∧
      (d.chain.hrx = x :: rest → s.gives (.spiRxf true) (fun t => t.chain.hrx = rest ∧ d.keepsRegs t []) ∧
        s.gives (.spiRxf false) (fun t => t.chain.hrx = d.chain.hrx ∧ d.keepsRegs t [])) ∧
      (s.gives (.spiInvalidFrame true) fun t => t.bit F.CHN_IRQST_SPIERR = true ∧ t.chain.spiErr = true ∧
        t.get F.CHN_SPIERR_CRC = min (d.get F.CHN_SPIERR_CRC + 1) (2 ^ F.CHN_SPIERR_CRC.width - 1) ∧
        d.keepsRegs t [R.CHN_IRQST, R.CHN_SPIERR]))

/-- R359 to R364, R377, R378: the head sends the next request of its queue and holds it outstanding; a response with its TYPE, SEQ and SRC ends it and enters
the host receive queue; a timeout repeats REGRD, BLKRD and PLOAD DATA and else writes a timeout record. -/
def Claims.HeadTransactionsBeginAndEnd : Prop :=
  ∀ (s : State) (f r : Frame) (rest : List Frame) (o : Outst), s.awake = true → s.dev.isHead = true →
    let d := s.dev
    let room : Prop := d.hostUsed + 4 + (max (frameBytes r).length 4 + 3) / 4 * 4 ≤ 16384
    (d.chain.htx = f :: rest → d.chain.outst = [] → f.dest ≠ 0 → f.dest ≠ 127 → d.healed = false → d.chain.txOn = true →
      d.chain.fwdBusy ≤ d.cycle → f.ty.toNat < 7 → s.givesM .requestSend fun m t => m = s.mems ∧ t.chain.htx = rest ∧
        t.chain.outst = [⟨f, d.cycle + Dev.frameLen f * 25, d.get F.CHN_TMO_RETRY, 0⟩] ∧ t.bit F.CHN_IRQST_TXFREE = true ∧
        t.sent = d.sent ++ [.frame .up f (frameCrc f)]) ∧
    (d.chain.htx = [] → s.givesM .requestSend fun m t => m = s.mems ∧ t = d) ∧
    (d.chain.outst = [o] → o.frame.dest = r.src → o.frame.dest ≠ 127 → o.frame.ty = r.ty → o.frame.seq = r.seq → r.src ≠ 0 → r.dest = 0 →
      r.auth = false → room → s.gives (.responseReceive .dn r) fun t => t.chain.outst = [] ∧
        t.chain.hrx = d.chain.hrx ++ [⟨BitVec.ofNat 32 (frameBytes r).length, frameBytes r⟩] ∧ t.power.commAt = d.cycle) ∧
    (d.chain.outst = [] → r.src ≠ 0 → r.dest = 0 → s.gives (.responseReceive .dn r) fun t => t.chain.hrx = d.chain.hrx) ∧
    (d.chain.outst = [o] → o.sentAt + max 50 (d.get F.CHN_TMO_TMO) * 100 ≤ d.cycle → o.frame.ty = 1 → o.retries ≠ 0 → d.healed = false →
      s.gives .requestTimeout fun t => t.sent = d.sent ++ [.frame .up o.frame (frameCrc o.frame)] ∧
        t.chain.outst = [{ o with sentAt := d.cycle + Dev.frameLen o.frame * 25, retries := o.retries - 1 }]) ∧
    (d.chain.outst = [o] → o.sentAt + max 50 (d.get F.CHN_TMO_TMO) * 100 ≤ d.cycle → o.retries = 0 → o.frame.dest ≠ 127 → room →
      s.gives .requestTimeout fun t => t.chain.outst = [] ∧ t.bit F.CHN_IRQST_TMO = true ∧
        t.chain.hrx = d.chain.hrx ++ [⟨BitVec.ofNat 32 (2 ^ 30 + 4), frameHeader o.frame⟩]) ∧
    (d.chain.outst = [] → s.becomes .requestTimeout d)

/-! ### The line, kindling and breaks (R323 to R388) -/

/-- R327 to R330, R338, R347, R357: a member passes an ordinary frame on at once when its output is free, a failed one with its CRC's last byte inverted
and counted, a stomped one unchanged and counted upstream; a head forwards nothing. -/
def Claims.MembersForwardAndStompFrames : Prop :=
  ∀ (s : State) (f : Frame) (crc : Word), s.awake = true →
    let d := s.dev
    let good := frameCrc f
    let out : Word := if crc = good ∨ crc = good ^^^ 0xFF then crc else crc ^^^ 0xFF
    f.ty = 9 → f.rev = BitVec.ofNat 2 d.linkRev →
    (d.isHead = false → d.chain.insFwd = [] → d.chain.fwdBusy ≤ d.cycle → s.gives (.frameForward .dn f crc) fun t =>
      t.sent = d.sent ++ [.frame .up f out] ∧ t.chain.insFwd = [] ∧
      (crc = good → t.power.commAt = d.cycle ∧ t.get F.CHN_UERR_FAIL = d.get F.CHN_UERR_FAIL) ∧
      (crc = good ^^^ 0xFF → t.get F.CHN_UERR_STOMP = min (d.get F.CHN_UERR_STOMP + 1) (2 ^ F.CHN_UERR_STOMP.width - 1) ∧
        t.bit F.CHN_EFLAG_STOMP = true) ∧
      (crc ≠ good → crc ≠ good ^^^ 0xFF →
        t.get F.CHN_UERR_FAIL = min (d.get F.CHN_UERR_FAIL + 1) (2 ^ F.CHN_UERR_FAIL.width - 1))) ∧
    (d.isHead = false → d.cycle < d.chain.fwdBusy → s.gives (.frameForward .dn f crc) fun t =>
      t.sent = d.sent ∧ t.chain.insFwd = d.chain.insFwd ++ [(f, out)]) ∧
    (d.isHead = true → s.gives (.frameForward .dn f crc) fun t => t.sent = d.sent ∧ t.chain.insFwd = d.chain.insFwd ∧
      t.chain.insRev = d.chain.insRev)

/-- R245, R316, R328: a frame of the device's own starts once the insertion buffer is empty and its output free; a frame that SEND queued posts line 6. It
waits while the transmitters are off or the output is taken. -/
def Claims.OwnFramesStartWhenTheOutputIsFree : Prop :=
  ∀ (s : State) (o : Own) (rest : List Own), s.awake = true →
    let d := s.dev
    d.chain.ownFwd = o :: rest → o.tagged = false →
    (d.chain.txOn = true → d.chain.insFwd = [] → d.chain.fwdBusy ≤ d.cycle → s.gives (.ownFrameStart .up) fun t =>
      t.chain.ownFwd = rest ∧ t.sent = d.sent ++ [.frame .up o.frame (frameCrc o.frame)] ∧
      t.chain.fwdBusy = d.cycle + (Dev.frameLen o.frame + 1) * 25 ∧
      t.get F.SEQ_IP_IP = (if o.sent then d.get F.SEQ_IP_IP ||| 64 else d.get F.SEQ_IP_IP) ∧ d.keepsRegs t [R.SEQ_IP]) ∧
    (d.chain.txOn = false ∨ d.chain.insFwd ≠ [] ∨ d.cycle < d.chain.fwdBusy → s.becomes (.ownFrameStart .up) d)

/-- R332 to R334, R473, R475, R499, R581: a FAULT slot is relayed by a member and latches the LINE source of a head's demand; a port trains from its
factors, comes UP with an eye of 24 or more and keeps them, and a low eye is an L0 CHAIN notice. -/
def Claims.PortsTrainComeUpAndGoDown : Prop :=
  ∀ (s : State) (p : Port) (eye : Byte), s.awake = true →
    let d := s.dev
    let k := Dev.portIndex p
    (d.isHead = false → s.becomes (.faultSymbolReceived p) (d.emit (.faultSlots (if p = .dn then .up else .dn) true))) ∧
    (d.isHead = true → s.gives (.faultSymbolReceived p) fun t => t.bit F.CHN_IRQST_FAULTSYM = true ∧ t.safe.faultSlot = some d.cycle ∧
      t.bitAt F.GRD_SAFESTAT_SRC 0 = true ∧ t.bit F.GRD_SAFESTAT_DEM = true ∧ t.get F.GRD_SAFESTAT_OUT = 0 ∧
      t.sent = (if d.bitAt F.GRD_SAFESTAT_SRC 0 then d.sent else d.sent ++ [.faultWord])) ∧
    (d.portState p = 0 → s.gives (.portTrain p) fun t => t.portState p = 1 ∧ t.rd (R.CAL_EQLIVE0 k) = nth d.cal.active (204 + 2 * k) 0 ∧
      t.rd (R.CAL_EQLIVE1 k) = nth d.cal.active (205 + 2 * k) 0 ∧ d.keepsRegs t [R.CHN_PSTAT, R.CAL_EQLIVE0 k, R.CAL_EQLIVE1 k]) ∧
    (d.portState p ≠ 0 → s.becomes (.portTrain p) d) ∧
    (d.portState p = 1 → 24 ≤ eye.toNat → d.cal.active.length = 209 → s.gives (.portUp p eye) fun t => t.portState p = 2 ∧
      nth t.cal.active (204 + 2 * k) 0 = d.rd (R.CAL_EQLIVE0 k) ∧ nth t.cal.active (205 + 2 * k) 0 = d.rd (R.CAL_EQLIVE1 k) ∧
      d.keepsRegs t [R.CHN_PSTAT, R.CAL_QEYE]) ∧
    ((d.portState p ≠ 1 ∨ eye.toNat < 24) → s.becomes (.portUp p eye) d) ∧
    (d.portState p = 2 → s.gives (.eyeWidthLow p) fun t => t.bit F.CHN_EFLAG_EYELOW = true ∧ d.posts t [(1, 0, 3, BitVec.ofNat 32 k)] ∧
      d.keepsRegs t [R.CHN_EFLAG]) ∧
    (d.portState p = 0 → s.becomes (.portDown p) d) ∧
    (d.portState p ≠ 0 → d.isHead = false → (p = .dn ∨ d.bit F.CHN_ADDR_VALID = false ∨ d.side ≠ 0) → s.gives (.portDown p) fun t =>
      t.portState p = 0 ∧ (if p = .dn then t.bit F.CHN_EFLAG_DNDOWN else t.bit F.CHN_EFLAG_UPDOWN) = true ∧ t.chain = d.chain ∧
      d.keepsRegs t [R.CHN_PSTAT, R.CHN_EFLAG])

/-- R349, R355: the DN port answers an echo request, a reply enters its average, a background echo leaves while no kindling measures; a hop that has
changed by 3 units is reported to the head, once in 100 ms. -/
def Claims.EchoesMeasureTheHop : Prop :=
  ∀ (s : State) (hop : BitVec 24) (fwd rev : BitVec 16), s.awake = true →
    let d := s.dev
    let c := d.chain
    (c.txOn = true → s.becomes (.echoRequest .dn) (d.emit (.echoReply .dn))) ∧
    (s.becomes (.echoRequest .up) d ∧ (c.txOn = false → s.becomes (.echoRequest .dn) d) ∧ s.becomes (.echoReply .dn hop) d) ∧
    (c.kin = none → c.echoN + 1 < 4096 → s.becomes (.echoReply .up hop) { d with
      chain := { c with echoN := c.echoN + 1, echoSum := c.echoSum + hop.toNat } }) ∧
    (c.kin = none → 4096 ≤ c.echoN + 1 → s.gives (.echoReply .up hop) fun t => t.chain.hop = (c.echoSum + hop.toNat + 2048) / 4096 ∧
      t.chain.echoN = 0 ∧ t.chain.echoSum = 0) ∧
    (c.txOn = true → c.kin = none → s.becomes .backgroundEcho (d.emit (.echoRequest .up))) ∧
    ((c.txOn = false ∨ c.kin.isSome = true) → s.becomes .backgroundEcho d) ∧
    (s.gives (.residenceMeasure fwd rev) fun t => t.chain.rhoF = fwd.toInt ∧ t.chain.rhoR = rev.toInt) ∧
    (d.isHead = false → d.addrValid = true → d.side = 0 → c.lastRep = none → 3 ≤ ((c.hop : Int) - c.hopRep).natAbs →
      s.gives (.residenceMeasure fwd rev) fun t => t.chain.hopRep = c.hop ∧ t.chain.lastRep = some d.cycle ∧
        ∃ o : Own, t.chain.ownFwd = c.ownFwd ++ [o] ∧ o.frame.ty = 0xC ∧ o.frame.dest = 0 ∧ byteAt o.frame.payload 0 = 4 ∧
          byteAt o.frame.payload 1 = 1 ∧ fieldAt o.frame.payload 4 4 = c.hop % 2 ^ 32)

/-- R350, R351, R354: a member takes NEXT of a KINDLE as its pending address, drops its delays and echoes the hop above; once that is known it sends the
KINDLE on with its own residences added, and without an echo it sends KEND; above 126 it answers FULL. -/
def Claims.KindlesPassAlongTheChain : Prop :=
  ∀ (s : State) (f : Frame) (k : Kindling) (h : Nat), s.awake = true → s.dev.isHead = false →
    let d := s.dev
    let next := byteAt f.payload 3
    (f.ty = 0xC → f.payload.length = 16 → byteAt f.payload 0 = 1 → byteAt f.payload 1 = 0 → next ≤ 126 → s.gives (.kindle .dn f) fun t =>
      t.chain.pend = some (BitVec.ofNat 7 next) ∧ t.chain.pendKid.toNat = fieldAt f.payload 12 2 ∧ t.bit F.CHN_ADDR_VALID = false ∧
      t.bit F.TIM_PDLY_VALID = false ∧ t.bit F.TIM_PDLYR_VALID = false ∧ t.sent = d.sent ++ [.echoRequest .up] ∧
      t.power.commAt = d.cycle ∧ ∃ x, t.chain.kin = some x ∧ x.next = next + 1 ∧ x.df = fieldAt f.payload 4 4 ∧
        x.sr = fieldAt f.payload 8 4 + residence d.chain.rhoR ∧ x.echoed = none) ∧
    (f.ty = 0xC → f.payload.length = 16 → byteAt f.payload 0 = 1 → 126 < next → s.gives (.kindle .dn f) fun t =>
      t.chain.pend = d.chain.pend ∧ ∃ o l, t.chain.ownRev = o :: l ∧ o.frame.payload.take 3 = [3, 2, nth f.payload 3 0]) ∧
    (d.chain.kin = some k → k.echoed = some h → k.went = false → s.gives .kindleSend fun t =>
      t.chain.hop = h ∧ t.chain.kin = some { k with went := true } ∧ ∃ g, t.sent = d.sent ++ [.frame .up g (frameCrc g)] ∧ g.ty = 0xC ∧
        byteAt g.payload 0 = 1 ∧ byteAt g.payload 3 = k.next % 256 ∧ fieldAt g.payload 4 4 = (k.df + residence d.chain.rhoF + h) % 2 ^ 32 ∧
        fieldAt g.payload 8 4 = (k.sr + h) % 2 ^ 32 ∧ fieldAt g.payload 12 2 = k.kid.toNat) ∧
    (d.chain.kin = none → s.becomes .kindleSend d ∧ s.becomes .kindleNoEcho d) ∧
    (d.chain.kin = some k → k.echoed = none → k.went = false → s.gives .kindleNoEcho fun t => t.chain.kin = some { k with went := true } ∧
      ∃ o l, t.chain.ownRev = o :: l ∧ o.frame.payload.take 3 = [3, 1, BitVec.ofNat 8 k.next])

/-- R352, R353: a TOPO whose KID matches the pending kindling makes the pending address valid with its delays and token; any other drops the address. -/
def Claims.TopologyMakesTheAddressValid : Prop :=
  ∀ (s : State) (f : Frame) (k : Kindling) (a : BitVec 7), s.awake = true → s.dev.isHead = false →
    let d := s.dev
    f.ty = 0xC → f.payload.length = 32 → byteAt f.payload 0 = 2 →
    (d.chain.pend = some a → d.chain.kin = some k → fieldAt f.payload 2 2 = d.chain.pendKid.toNat → s.gives (.topo .dn f) fun t =>
      t.get F.CHN_ADDR_ADDR = a.toNat ∧ t.addrValid = true ∧ t.get F.CHN_ADDR_KID = fieldAt f.payload 2 2 ∧ t.chain.pend = none ∧
      t.bit F.TIM_PDLY_VALID = true ∧ t.bit F.TIM_PDLYR_VALID = !(byteAt f.payload 19).testBit 0 ∧ t.tim.d = k.df ∧ t.tim.sr = k.sr ∧
      t.tim.rtot = fieldAt f.payload 10 4 ∧ t.chain.token.toNat = fieldAt f.payload 4 6 ∧ t.get F.CHN_HEAL_SIDE = 0 ∧
      (d.bit F.TIM_PDLY_VALID = false → t.tim.stepNext = true) ∧ (d.keys.kp = none → t.keys.ks = none)) ∧
    ((d.chain.pend = none ∨ (d.chain.kin = some k ∧ fieldAt f.payload 2 2 ≠ d.chain.pendKid.toNat)) → s.gives (.topo .dn f) fun t =>
      t.bit F.CHN_ADDR_VALID = false ∧ t.bit F.TIM_PDLY_VALID = false ∧ t.chain.pend = none ∧ t.keys.ks = none)

/-- R59, R350, R351, R391: a head starts a kindling 10 ms after reset release or at GO, repeats it every 100 ms, abandons it after 2 s with an open ring; the
KINDLE that returns closes the ring with N = NEXT − 1. -/
def Claims.HeadsRunTheKindling : Prop :=
  ∀ (s : State) (w : Word) (f : Frame) (t0 : Nat), s.awake = true →
    let d := s.dev
    let begins (t : Dev) : Prop := t.get F.CHN_KCTL_KSTATE = 1 ∧ t.get F.CHN_KSTAT_KID = (d.get F.CHN_KSTAT_KID + 1) % 65536 ∧
      t.get F.CHN_KSTAT_N = 0 ∧ t.sent = d.sent ++ [.echoRequest .up] ∧ t.power.kindleAt = d.cycle + 10000000
    (d.isHead = false → s.becomes .kindlingStart d ∧ s.becomes (.kindlingGo w) d ∧ s.becomes .kindlingRepeat d ∧ s.becomes (.kindleReturn f) d) ∧
    (d.isHead = true → d.power.started = true → d.power.releasedAt + 1000000 ≤ d.cycle → d.get F.CHN_KCTL_KSTATE = 0 →
      s.gives .kindlingStart begins) ∧
    (d.isHead = true → s.gives (.kindlingGo w) begins) ∧
    (d.kindling = true → d.power.kindleAt ≤ d.cycle → s.gives .kindlingRepeat begins) ∧
    (d.kindling = true → d.chain.kinSince = some t0 → t0 + 200000000 ≤ d.cycle → s.gives .kindlingAbandon fun t =>
      t.get F.CHN_KCTL_KSTATE = 3 ∧ t.bit F.CHN_KSTAT_OPEN = true ∧ t.get F.CHN_RTOT_RTOT = 0 ∧ t.bit F.CHN_IRQST_KDONE = true ∧
      t.chain.kinSince = none) ∧
    (d.chain.kinSince = none → s.becomes .kindlingAbandon d) ∧
    (d.kindling = true → f.ty = 0xC → byteAt f.payload 0 = 1 → fieldAt f.payload 12 2 = d.get F.CHN_KSTAT_KID → 1 ≤ byteAt f.payload 3 →
      s.gives (.kindleReturn f) fun t => t.get F.CHN_KCTL_KSTATE = 2 ∧ t.bit F.CHN_KSTAT_OPEN = false ∧
        t.get F.CHN_KSTAT_N = (byteAt f.payload 3 - 1) % 128 ∧ t.get F.CHN_BRK_STATE = 0 ∧ t.bit F.CHN_IRQST_KDONE = true ∧
        t.chain.kin = none ∧ t.chain.phtimAt.isSome = true ∧ t.chain.token.toNat / 2 ^ 32 = d.get F.CHN_KSTAT_KID)

/-- R356: a HOPREP at its head queues the change of a hop or residence for the PHTIM frames; a member takes none. -/
def Claims.HoprepsQueueTheirUpdate : Prop :=
  ∀ (s : State) (p : Port) (f : Frame), s.awake = true →
    let d := s.dev
    let kind := byteAt f.payload 1
    let idx := if kind = 1 then f.src.toNat + 1 else f.src.toNat
    f.ty = 0xC → f.payload.length = 8 → byteAt f.payload 0 = 4 →
    (d.isHead = false → s.becomes (.hoprep p f) d) ∧
    (d.isHead = true → f.src ≠ 0 → 1 ≤ kind → kind ≤ 3 → s.gives (.hoprep p f) fun t =>
      (∃ u : PathUpd, t.chain.updates = d.chain.updates ++ [u] ∧ u.kind.toNat = kind ∧ u.idx = BitVec.ofNat 7 idx) ∧
      t.chain.reps.find? (fun x => x.1 == kind * 256 + idx) = some (kind * 256 + idx, fieldAt f.payload 4 4) ∧ t.power.commAt = d.cycle)

/-- R351, R357, R382 to R384: a break indication on a closed ring latches its cause and an L1 CHAIN fault; the head sends the notice, with whose passing
the chain is healed; a member that takes it works on its side from then on, with the L1 fault. -/
def Claims.BreaksAreNoticedAndHealed : Prop :=
  ∀ (s : State) (p : Port) (f : Frame) (blo bhi : BitVec 7) (m t0 : Nat) (tk : BitVec 48) (st : BitVec 5), s.awake = true →
    let d := s.dev
    let broken (cause : Nat) (t : Dev) : Prop := t.get F.CHN_BRK_STATE = 1 ∧ t.get F.CHN_BRK_CAUSE = cause ∧ t.bit F.CHN_IRQST_BREAK = true ∧
      t.chain.drop = true ∧ d.posts t [(1, 1, 1, BitVec.ofNat 32 cause)]
    let w : Word := BitVec.ofNat 32 (fieldAt f.payload 4 4)
    let lo := bitsOf w.toNat 8 7
    let hi := bitsOf w.toNat 16 7
    let side := if d.addr ≤ lo then 1 else if hi ≤ d.addr then 2 else 3
    (d.ringClosed = true → d.chain.marker = some m → wrapDiff 60 (d.now * 4096) m ≤ 1024 → s.becomes .ringReturnMissing d) ∧
    (d.ringClosed = true → d.chain.marker = some m → 1024 < wrapDiff 60 (d.now * 4096) m → s.gives .ringReturnMissing (broken 2)) ∧
    (d.ringClosed = true → d.chain.marker = some m → 1024 < (wrapDiff 60 (tk.toNat * 4096 + st.toNat * 128) m).natAbs →
      s.gives (.ringReturnCheck tk st) (broken 3)) ∧
    (d.chain.marker = some m → (wrapDiff 60 (tk.toNat * 4096 + st.toNat * 128) m).natAbs ≤ 1024 →
      s.becomes (.ringReturnCheck tk st) { d with chain := { d.chain with marker := none } }) ∧
    (d.ringClosed = true → d.kindling = false → f.ty = 0xC → f.payload.length = 8 → byteAt f.payload 0 = 3 → s.gives (.kend p f) fun t =>
      broken 1 t ∧ t.get F.CHN_BRK_BHI = byteAt f.payload 2 % 128 ∧ t.get F.CHN_BRK_BLO = (byteAt f.payload 2 - 1) % 128) ∧
    (d.ringClosed = true → d.portState p ≠ 0 → s.gives (.portDown p) (broken (if p = .up then 4 else 5))) ∧
    (d.isHead = true → d.get F.CHN_BRK_STATE = 1 → d.chain.noticeAt = none → s.gives (.breakNoticeSend blo bhi) fun t =>
      t.chain.noticeAt.isSome = true ∧ (d.get F.CHN_BRK_CAUSE ≠ 1 → t.get F.CHN_BRK_BLO = blo.toNat ∧ t.get F.CHN_BRK_BHI = bhi.toNat) ∧
      ∃ g, t.sent = d.sent ++ [.frame .up g (frameCrc g), .frame .dn g (frameCrc g)] ∧ g.ty = 2 ∧ g.dest = 127 ∧
        fieldAt g.payload 0 2 = R.CHN_HEAL) ∧
    (d.chain.noticeAt = some t0 → t0 ≤ d.cycle → s.gives .chainHealed fun t => t.get F.CHN_BRK_STATE = 2 ∧ t.bit F.CHN_IRQST_HEALED = true ∧
      t.chain = { d.chain with noticeAt := none, drop := false } ∧ d.keepsRegs t [R.CHN_BRK, R.CHN_IRQST]) ∧
    (d.chain.noticeAt = none → s.becomes .chainHealed d) ∧
    (d.isHead = false → f.ty = 2 → f.src = 0 → f.dest = 127 → f.payload.length = 8 → fieldAt f.payload 0 2 = R.CHN_HEAL → d.addrValid = true →
      d.revOk f = true → lo < hi → s.gives (.breakNotice p f) fun t => t.side = side ∧ t.get F.CHN_HEAL_BLO = lo ∧ t.get F.CHN_HEAL_BHI = hi ∧
        d.posts t [(1, 1, 2, BitVec.ofNat 32 side)] ∧ d.keepsRegs t [R.CHN_HEAL])

/-- R280, R306, R365, R366, R378: a REPORT or LOGX for a member, from another device and in a revision it speaks, enters its sequencer receive queue and
posts line 5, or counts an overflow; at a head it enters the host receive queue. -/
def Claims.ReportsReachTheirQueue : Prop :=
  ∀ (s : State) (p : Port) (f : Frame), s.awake = true → f.auth = false →
    let d := s.dev
    let room : Prop := d.hostUsed + 4 + ((frameBytes f).length + 3) / 4 * 4 ≤ 16384
    let entered (t : Dev) : Prop := t.hearth.rxq = d.hearth.rxq ++ [⟨f, false⟩] ∧ t.bitAt F.SEQ_IP_IP 5 = true ∧ d.keepsRegs t [R.SEQ_IP]
    (d.isHead = false → d.takesReport p f = true → d.hearth.rxq.length < 4 → f.ty = 9 → s.gives (.report p f) entered) ∧
    (d.isHead = false → d.takesReport p f = true → d.hearth.rxq.length < 4 → f.ty = 0xB → f.dest ≠ 127 → f.orig = false →
      s.gives (.logx p f) entered) ∧
    (d.isHead = false → d.takesReport p f = true → 4 ≤ d.hearth.rxq.length → f.ty = 9 → s.gives (.report p f) fun t =>
      t.hearth.rxq = d.hearth.rxq ∧ t.bit F.CHN_EFLAG_SQOVF = true ∧ d.posts t [(1, 0, 6, 0)]) ∧
    (d.isHead = false → d.takesReport p f = false → s.becomes (.report p f) d) ∧
    (d.isHead = true → f.src = 0 → d.takesReport p f = true → room → d.bit F.CHN_HQCTL_SEQCOPY = false → f.ty = 9 → s.gives (.report p f) fun t =>
      t.hearth.rxq = d.hearth.rxq ∧ ∃ x : HostRec, t.chain.hrx = d.chain.hrx ++ [x] ∧ x.bytes = frameBytes f)

/-- R367 to R370, R455: a write of CHN_TRIGH commits a trigger that lies LEAD ahead, and counts any other in LATE; a committed trigger leaves as a TRIG frame,
and A0 gives it to B0, at once or 65,000 ticks before T. -/
def Claims.HeadsCommitAndSendTriggers : Prop :=
  ∀ (s : State) (w : Word) (r : TrigReq) (rest : List TrigReq) (tw : BitVec 16) (fine : BitVec 5) (tid : Byte), s.awake = true →
    let d := s.dev
    let t0 := w.toNat % 65536 * 2 ^ 32 + d.get F.CHN_TRIGL_TL
    let q : TrigReq := ⟨BitVec.ofNat 48 t0, BitVec.ofNat 5 (bitsOf w.toNat 16 5), BitVec.ofNat 8 (bitsOf w.toNat 24 8),
      BitVec.ofNat 7 (d.get F.CHN_TRIGCFG_DEST)⟩
    (d.isHead = false → s.becomes (.chnTrighWrite w) d ∧ s.becomes .trigSend d ∧ s.becomes (.trigWord tw fine tid) d) ∧
    (d.isHead = true → d.relaysModels = false → (d.get F.CHN_TRIGCFG_LEAD : Int) ≤ wrapDiff 48 t0 d.now → s.gives (.chnTrighWrite w) fun t =>
      t.chain.trigs = d.chain.trigs ++ [q] ∧ (d.isTwin = true → t.sent = d.sent ∧ t.chain.delayed = d.chain.delayed) ∧
      (d.isTwin = false → wrapDiff 48 t0 d.now ≤ 65000 → t.sent = d.sent ++ [.trigWord (BitVec.ofNat 16 t0) q.fine q.tid]) ∧
      (d.isTwin = false → 65000 < wrapDiff 48 t0 d.now → t.sent = d.sent ∧ t.chain.delayed = d.chain.delayed ++ [q])) ∧
    (d.isHead = true → wrapDiff 48 t0 d.now < d.get F.CHN_TRIGCFG_LEAD → s.gives (.chnTrighWrite w) fun t =>
      t.chain.trigs = d.chain.trigs ∧ t.get F.CHN_TRIGSTAT_LATE = min (d.get F.CHN_TRIGSTAT_LATE + 1) (2 ^ F.CHN_TRIGSTAT_LATE.width - 1)) ∧
    (d.isHead = true → d.chain.trigs = r :: rest → d.healed = false → s.gives .trigSend fun t => t.chain.trigs = rest ∧
      t.get F.CHN_TRIGSTAT_TID = r.tid.toNat ∧ ∃ g, t.sent = d.sent ++ [.frame .up g (frameCrc g)] ∧ g.ty = 7 ∧ g.dest = r.dest ∧
        fieldAt g.payload 0 6 = r.t.toNat ∧ byteAt g.payload 6 = r.fine.toNat ∧ byteAt g.payload 7 = r.tid.toNat) ∧
    (d.chain.trigs = [] → s.becomes .trigSend d) ∧
    (d.isHead = true → d.isTwin = true → s.gives (.trigWord tw fine tid) fun t => ∃ x : TrigReq, t.chain.trigs = d.chain.trigs ++ [x] ∧
      x.fine = fine ∧ x.tid = tid ∧ x.t.toNat % 65536 = tw.toNat ∧ (x.t - d.tb).toNat < 65536) ∧
    (d.chain.delayed = r :: rest → wrapDiff 48 r.t.toNat d.now ≤ 65000 → s.gives .trigWordDelayedStart fun t => t.chain.delayed = rest ∧
      t.sent = d.sent ++ [.trigWord (r.t.truncate 16) r.fine r.tid]) ∧
    (d.chain.delayed = [] → s.becomes .trigWordDelayedStart d)

/-- What an end cause leaves of shelf `k` (R404, R406): work that has ended or is ending stays as it is, a cycle in progress completes first, else the
work ends now, with its charge kept and its selection held for SELHOLD, or off after OWNER and DISCARD. -/
def Claims.workEnds (d t : Dev) (k code : Nat) : Prop :=
  let w := d.shelf k
  let v := t.shelf k
  if w.act = false ∨ w.phase = .stopping then v = w
  else if w.inCycle then v = { w with phase := .stopping, endCause := code }
  else v.act = false ∧ v.phase = .idle ∧ v.xrunning = false ∧ v.qdone = w.qdone ∧ v.cell = w.cell ∧ t.get (F.BAL_SHSTAT_END k) = code ∧
    v.sel = (if code = 5 ∨ code = 6 then none else w.sel) ∧
    v.holdUntil = (if code = 5 ∨ code = 6 ∨ w.sel = none then none else some (d.cycle + bitsOf w.shlim.toNat 12 4 * 100000)) ∧
    (if code = 1 then t.bitAt F.BAL_EVT_DONE k else t.bitAt F.BAL_EVT_END k) = true ∧ t.bitAt F.SEQ_IP_IP 9 = true

/-- The registers that the end of work may move: its END and event bits, line 9, and XDROP for windows open on an excitation (R406, R424). -/
def Claims.endRegs : List Nat :=
  [R.BAL_CMDRES, R.BAL_HOCTL, R.BAL_EVT, R.SEQ_IP, R.ACC_STAT, R.BAL_SHSTAT 0, R.BAL_SHSTAT 1, R.BAL_SHSTAT 2, R.BAL_SHSTAT 3]

/-- What acceptance makes of shelf `k` for work on a cell (R404 steps 1 to 3): counted charge restarts, and the selection of the same cell is kept. -/
def Claims.workAccepted (d t : Dev) (k cell : Nat) : Prop :=
  let w := d.shelf k
  let v := t.shelf k
  let kept := d.bit (F.BAL_SHCFG_FIT k) = true ∧ w.sel = some cell
  v.act = true ∧ v.cell = cell ∧ v.qdone = 0 ∧ v.cycles = 0 ∧ v.sel = w.sel ∧ v.holdUntil = none ∧ v.shlim = d.rd (R.BAL_SHLIM k) ∧
    v.shcfg = d.rd (R.BAL_SHCFG k) ∧ (kept → v.phase = .selecting ∧ v.due = d.cycle + 2) ∧
    (¬ kept → v.phase = .deselecting ∧
      v.due = if w.sel ≠ none ∧ d.bit (F.BAL_SHCFG_FIT k) = true then d.cycle + 1001 else d.cycle + 1)

/-- The causes 1 to 8 of R282 that a member judges for new work on a cell of shelf `k`, in their order, 0 when none applies. -/
def Claims.causeOf (d : Dev) (k cell : Nat) (toBus : Bool) : Nat :=
  if d.pstate ≠ 2 then 1
  else if d.get F.BAL_STAT_OWNER ≠ 1 ∨ d.bal.handing = true then 3
  else if (d.shelf k).faulted = true ∨ (d.flt.first.drop 2).any (·.valid) = true then 4
  else if d.power.tempStop = true then 5
  else if d.bitAt F.CONV_CHEN_CELL cell = false then 6
  else if toBus = true ∧ d.bal.busHigh = true then 7
  else if (d.shelf k).act = true then 8
  else 0

/-- R282, R402 to R404: BAL_CMD's transfer form on the charge and current of BAL_CMDQ; the first cause that applies stands in CMDRES.CAUSE and starts
nothing, and CAUSE 0 takes the transfer. A head ignores it, and so does an unauthenticated chain write. -/
def Claims.TransferCommandsAreJudgedAndTaken : Prop :=
  ∀ (s : State) (by_ : By) (w : Word), s.awake = true → s.dev.bal.shelves.length = 4 →
    let d := s.dev
    let sh := bitsOf w.toNat 16 2
    let cell := 8 * sh + bitsOf w.toNat 13 3
    let q := d.get F.BAL_CMDQ_QMC
    let i := d.get F.BAL_CMDQ_IMA
    let imax := min (d.get (F.BAL_SHLIM_IMAX sh)) 3000
    let idef := min (d.get (F.BAL_SHLIM_IDEF sh)) 3000
    let c := Claims.causeOf d sh cell (!w.getLsbD 12)
    let c := if c = 0 ∧ (q = 0 ∨ 3000 < i ∨ imax = 0 ∨ (i = 0 ∧ idef = 0)) then 9 else c
    (d.isHead = true ∨ by_ = .plain → s.becomes (.balCmdTransfer by_ w) d) ∧
    (d.isHead = false → by_ ≠ .plain → c ≠ 0 → s.becomes (.balCmdTransfer by_ w) (d.put F.BAL_CMDRES_CAUSE c)) ∧
    (d.isHead = false → by_ ≠ .plain → c = 0 → s.gives (.balCmdTransfer by_ w) fun t =>
      t.get F.BAL_CMDRES_CAUSE = 0 ∧ Claims.workAccepted d t sh cell ∧ (t.shelf sh).xmode = false ∧ (t.shelf sh).dir = w.getLsbD 12 ∧
      (t.shelf sh).q = q ∧ (t.shelf sh).current = min (if i = 0 then idef else i) imax ∧ (t.shelf sh).byHearth = decide (by_ = .hearth) ∧
      d.keepsRegs t [R.BAL_CMDRES] ∧ ∀ k, k ≠ sh → t.shelf k = d.shelf k)

/-- R281, R402, R406, R438: a stop form ends the work of its shelf, or of every shelf, with STOP, and is always accepted; BAL_XCTL.STOP ends an
excitation only. -/
def Claims.StopFormsEndTheWork : Prop :=
  ∀ (s : State) (by_ : By) (sh : Fin 4), s.awake = true → s.dev.bal.shelves.length = 4 →
    let d := s.dev
    (d.isHead = true ∨ by_ = .plain → s.becomes (.balCmdStopShelf by_ sh) d ∧ s.becomes (.balCmdStopAll by_) d ∧ s.becomes (.balXctlStop by_ sh) d) ∧
    (d.isHead = false → by_ ≠ .plain →
      (s.gives (.balCmdStopShelf by_ sh) fun t => t.get F.BAL_CMDRES_CAUSE = 0 ∧ Claims.workEnds d t sh.val 2 ∧ d.keepsRegs t Claims.endRegs ∧
        t.posted = d.posted ∧ ∀ k, k ≠ sh.val → t.shelf k = d.shelf k) ∧
      (s.gives (.balCmdStopAll by_) fun t => t.get F.BAL_CMDRES_CAUSE = 0 ∧ (∀ k < 4, Claims.workEnds d t k 2) ∧ t.posted = d.posted ∧
        d.keepsRegs t Claims.endRegs) ∧
      ((d.shelf sh.val).xmode = false → s.becomes (.balXctlStop by_ sh) d) ∧
      ((d.shelf sh.val).xmode = true → s.gives (.balXctlStop by_ sh) fun t => Claims.workEnds d t sh.val 2 ∧ d.keepsRegs t Claims.endRegs ∧
        t.posted = d.posted ∧ ∀ k, k ≠ sh.val → t.shelf k = d.shelf k))

/-- R421, R422, R424: GO judges an excitation and takes it, with its result in XRES; it starts once its selection has settled, or at its boundary, and
ends with XEND at its last period. -/
def Claims.ExcitationsAreJudgedStartedAndEnded : Prop :=
  ∀ (s : State) (by_ : By) (k : Fin 4) (w : Word), s.awake = true → s.dev.bal.shelves.length = 4 →
    let d := s.dev
    let x := d.shelf k.val
    let f := d.writeFields (R.BAL_XCTL k.val) (w ||| 1) false
    let cell := 8 * k.val + d.get (F.BAL_XAMP_CELL k.val)
    let amp := d.get (F.BAL_XAMP_AMP k.val)
    let ofs := signed 13 (d.get (F.BAL_XAMP_OFS k.val))
    let imax := min (d.get (F.BAL_SHLIM_IMAX k.val)) 3000
    let c := Claims.causeOf d k.val cell false
    let c := if c = 0 ∧ (imax = 0 ∨ imax < amp + ofs.natAbs) then 9 else c
    (d.isHead = true ∨ by_ = .plain → s.becomes (.balXctlGo by_ k w) d) ∧
    (d.isHead = false → by_ ≠ .plain → w.getLsbD 1 = false → c ≠ 0 → s.becomes (.balXctlGo by_ k w) (f.put F.BAL_CMDRES_XRES c)) ∧
    (d.isHead = false → by_ ≠ .plain → w.getLsbD 1 = false → c = 0 → s.gives (.balXctlGo by_ k w) fun t =>
      t.get F.BAL_CMDRES_XRES = 0 ∧ Claims.workAccepted d t k.val cell ∧ (t.shelf k.val).xmode = true ∧ (t.shelf k.val).amp = amp ∧
      (t.shelf k.val).ofs = ofs ∧ (t.shelf k.val).nper = f.get (F.BAL_XCTL_NPER k.val) ∧ (t.shelf k.val).xrunning = false ∧
      (t.shelf k.val).pcb = BitVec.ofNat 16 (f.get (F.BAL_XCTL_PCB k.val)) ∧ d.keepsRegs t [R.BAL_CMDRES, R.BAL_XCTL k.val] ∧
      ∀ j, j ≠ k.val → t.shelf j = d.shelf j) ∧
    ((x.act = false ∨ x.xmode = false ∨ x.xrunning = true ∨ x.phase ≠ .running ∨ d.cycle < x.due ∨
        (x.startAtPcb = true ∧ d.phasePassed (BitVec.ofNat 32 (x.pcb.toNat * 65536)) = false)) → s.becomes (.excitationStart k) d) ∧
    (x.act = true → x.xmode = true → x.xrunning = false → x.phase = .running → x.due ≤ d.cycle →
      (x.startAtPcb = true → d.phasePassed (BitVec.ofNat 32 (x.pcb.toNat * 65536)) = true) → s.gives (.excitationStart k) fun t =>
      t.shelf k.val = { x with xrunning := true, angle := 0, xperiods := 0 } ∧ t.psrcValid (k.val + 1) = true) ∧
    ((x.act = false ∨ x.xrunning = false ∨ x.phase ≠ .running ∨ x.nper = 0 ∨ x.xperiods < x.nper) → s.becomes (.excitationBoundary k) d) ∧
    (x.act = true → x.xrunning = true → x.xmode = true → x.phase = .running → x.nper ≠ 0 → x.nper ≤ x.xperiods →
      s.gives (.excitationBoundary k) fun t => (t.shelf k.val).act = false ∧ (t.shelf k.val).qdone = x.qdone ∧
        t.get (F.BAL_SHSTAT_END k.val) = 7 ∧ t.bitAt F.BAL_EVT_XEND k.val = true ∧ t.bitAt F.SEQ_IP_IP 9 = true ∧ t.drawers = d.drawers ∧
        d.keepsRegs t [R.BAL_SHSTAT k.val, R.BAL_EVT, R.SEQ_IP])

/-- R396, R404, R405, R411: the pair of the commanded cell turns on, or the fault of a shelf that is not fitted; it settles 15,000 ticks later and the
shelf runs, judged against the cell's published mean; and a hold ends with the pin off. -/
def Claims.SelectionsTurnOnSettleAndExpire : Prop :=
  ∀ (s : State) (k : Fin 4) (vc : BitVec 16), s.awake = true → s.dev.bal.shelves.length = 4 →
    let d := s.dev
    let x := d.shelf k.val
    let info : Word := BitVec.ofNat 32 (k.val * 32 + x.cell % 32)
    let r := (d.drawer x.cell 0).vis
    let n : Int := sumLength (d.get (F.ACC_DCFG_K 0 0))
    let far := d.get (F.ACC_DCFG_MODE 0 0) = 1 ∧ r.valid = true ∧
      1600 * n < (r.a.toInt * (2 ^ min (d.get (F.ACC_DCFG_SHIFT 0 0)) 8 : Nat) - vc.toNat * n).natAbs
    let paces := x.xmode = false ∧ (if x.dir then d.bal.belowVlo else d.bal.aboveVhi) = true
    ((x.act = false ∨ x.phase ≠ .deselecting ∨ d.cycle < x.due) → s.becomes (.selTurnOn k) d) ∧
    (x.act = true → x.phase = .deselecting → x.due ≤ d.cycle → x.fit = true →
      s.becomes (.selTurnOn k) (d.setShelf k.val fun w => { w with phase := .selecting, sel := some w.cell, due := d.cycle + 15000 })) ∧
    (x.act = true → x.phase = .deselecting → x.due ≤ d.cycle → x.fit = false → s.gives (.selTurnOn k) fun t =>
      (t.shelf k.val).sel = x.sel ∧ d.posts t [(6, 1, 0x0A, info)] ∧ d.keepsRegs t []) ∧
    ((x.act = false ∨ x.phase ≠ .selecting ∨ x.fit = false ∨ d.cycle < x.due) → s.becomes (.selectionSettled k vc) d) ∧
    (x.act = true → x.phase = .selecting → x.fit = true → x.due ≤ d.cycle → s.gives (.selectionSettled k vc) fun t =>
      (∀ p, (p = true ↔ x.paused = true ∨ paces) → t.shelf k.val = { x with phase := .running, due := d.cycle + 1, paused := p }) ∧
      (far → d.posts t [(6, 1, 4, info)]) ∧ (¬ far → t.posted = d.posted) ∧ t.perf.events = d.perf.events ++ [21] ∧
      d.keepsRegs t [R.BAL_BUSSTAT] ∧ ∀ j, j ≠ k.val → t.shelf j = d.shelf j) ∧
    ((∀ u, x.holdUntil = some u → d.cycle < u) → s.becomes (.selHoldExpiry k) d) ∧
    (∀ u, x.holdUntil = some u → u ≤ d.cycle → x.act = false →
      s.becomes (.selHoldExpiry k) (d.setShelf k.val fun w => { w with sel := none, holdUntil := none }))

/-- R398, R399, R404, R406, R407, R409, R431, R531: a switching cycle counts its average over its ticks in QDONE and in the cell's net charge, ends the
work when the charge is reached or a cause is pending, delivery winning, and raises overcurrent at four in a row and loop error at 256. -/
def Claims.SwitchingCyclesCountAndEndTheirWork : Prop :=
  ∀ (s : State) (k : Fin 4) (avg ticks : BitVec 16) (pred : BitVec 32) (ilim overcur : Bool), s.awake = true → s.dev.bal.shelves.length = 4 →
    s.dev.bal.qcell.length = 32 → (s.dev.shelf k.val).cell < 32 →
    let d := s.dev
    let x := d.shelf k.val
    let info : Word := BitVec.ofNat 32 (k.val * 32 + x.cell)
    let q := x.qdone + avg.toInt * ticks.toNat
    let net (p : Int × Int) : Int := p.1 * 1000000000 + p.2
    let c := max 30 (if x.cycles < 32 then x.current * (x.cycles + 1) / 32 else x.current)
    let set : Int := if x.dir then (c : Int) * 10 else -(c : Int) * 10
    let off := ilim = false ∧ 63 ≤ x.cycles ∧ set.natAbs < 10 * (avg.toInt - set).natAbs
    let amps := overcur = true ∧ 4 ≤ x.overRun + 1
    let cmd := Instr.switchingCycleEnd k avg ticks pred ilim overcur
    ((x.act = false ∨ (x.phase ≠ .running ∧ x.phase ≠ .stopping) ∨ (x.xmode = true ∧ x.xrunning = false)) → s.becomes cmd d) ∧
    (x.act = true → (x.phase = .running ∨ x.phase = .stopping) → (x.xmode = true → x.xrunning = true) → s.gives cmd fun t =>
      (t.shelf k.val).qdone = q ∧ (t.shelf k.val).qpred = x.qpred + pred.toInt ∧
      (∀ sum : Int, sum = net (nth d.bal.qcell x.cell (0, 0)) + avg.toInt * ticks.toNat → -2147483648 * 1000000000 ≤ sum →
        sum < 2147483648 * 1000000000 → net (nth t.bal.qcell x.cell (0, 0)) = sum) ∧
      (x.xmode = false → x.q * 1000000000 ≤ q.natAbs → (t.shelf k.val).act = false ∧ t.get (F.BAL_SHSTAT_END k.val) = 1 ∧
        t.bitAt F.BAL_EVT_DONE k.val = true ∧ t.bitAt F.SEQ_IP_IP 9 = true) ∧
      ((x.xmode = true ∨ q.natAbs < x.q * 1000000000) → x.phase = .stopping → (t.shelf k.val).act = false ∧
        t.get (F.BAL_SHSTAT_END k.val) = x.endCause % 16) ∧
      ((x.xmode = true ∨ q.natAbs < x.q * 1000000000) → x.phase = .running → (t.shelf k.val).act = true ∧ (t.shelf k.val).cycles = x.cycles + 1 ∧
        (t.shelf k.val).lastAvg = avg.toInt ∧ (t.shelf k.val).lastTicks = ticks.toNat) ∧
      (x.xmode = false → ∀ l e : List (Nat × Nat × Nat × Word), (amps → l = [(6, 1, 1, info)]) → (¬ amps → l = []) →
        (off ∧ 256 ≤ x.errRun + 1 → e = [(6, 1, 2, info)]) → (¬ (off ∧ 256 ≤ x.errRun + 1) → e = []) → d.posts t (l ++ e)) ∧
      d.keepsRegs t [R.BAL_SHSTAT k.val, R.CAL_QLOOP k.val, R.BAL_EVT, R.SEQ_IP, R.ACC_STAT] ∧ ∀ j, j ≠ k.val → t.shelf j = d.shelf j)

/-- R410, R431, R499: QCLR clears every net charge; the converter's own conditions are L1 BAL faults of their shelf, two drivers of one shelf an L2. -/
def Claims.ConverterConditionsAreFaults : Prop :=
  ∀ (s : State) (k : Fin 4) (cell : Fin 32), s.awake = true →
    let d := s.dev
    let x := d.shelf k.val
    (d.isHead = true → s.becomes .balQclr d ∧ s.becomes (.selectionDriverFault cell) d ∧ s.becomes (.selectionInterlock k) d) ∧
    (d.isHead = false →
      s.becomes .balQclr { d with bal := { d.bal with qcell := d.bal.qcell.map fun _ => (0, 0) } } ∧
      s.becomes (.selectionDriverFault cell) (d.post 6 1 5 (BitVec.ofNat 32 (cell.val / 8 * 32 + cell.val))) ∧
      s.becomes (.selectionInterlock k) (d.post 6 2 6 (BitVec.ofNat 32 k.val))) ∧
    (x.act = false → s.becomes (.noDemagnetisation k) d) ∧
    (x.act = true → s.becomes (.noDemagnetisation k) (d.post 6 1 3 (BitVec.ofNat 32 (k.val * 32 + x.cell % 32))))

/-- R411, R412: bus pacing pauses the transfers of its direction and counts each pause, never an excitation, and resumes them as VBUS returns. -/
def Claims.BusPacingPausesAndResumesTransfers : Prop :=
  ∀ (s : State) (high : Bool), s.awake = true → s.dev.bal.shelves.length = 4 →
    let d := s.dev
    let stops (w : Shelf) : Bool := w.act && (w.phase == .running) && !w.paused && !w.xmode &&
      (if w.dir then (!high || d.bal.belowVlo) else (high || d.bal.aboveVhi))
    let n (dir : Bool) : Nat := ((List.range 4).filter fun k => stops (d.shelf k) && ((d.shelf k).dir == dir)).length
    (s.gives (.busPause high) fun t => (∀ k < 4, t.shelf k = (if stops (d.shelf k) then { d.shelf k with paused := true } else d.shelf k)) ∧
      t.bal.aboveVhi = (high || d.bal.aboveVhi) ∧ t.bal.belowVlo = (!high || d.bal.belowVlo) ∧
      t.get F.BAL_BUSSTAT_PHI = min (d.get F.BAL_BUSSTAT_PHI + n false) (2 ^ F.BAL_BUSSTAT_PHI.width - 1) ∧
      t.get F.BAL_BUSSTAT_PLO = min (d.get F.BAL_BUSSTAT_PLO + n true) (2 ^ F.BAL_BUSSTAT_PLO.width - 1) ∧ t.posted = d.posted ∧
      d.keepsRegs t [R.BAL_BUSSTAT]) ∧
    (s.gives (.busResume high) fun t => (∀ k < 4, t.shelf k = (if (d.shelf k).dir = !high then { d.shelf k with paused := false } else d.shelf k)) ∧
      t.bal.aboveVhi = (if high then false else d.bal.aboveVhi) ∧ t.bal.busHigh = (if high then false else d.bal.busHigh) ∧
      t.bal.belowVlo = (if high then d.bal.belowVlo else false) ∧ t.posted = d.posted ∧ d.keepsRegs t [])

/-- R427, R429, R430: HANDOVER and RETURN as the primary may accept them, and the steps by which the two devices change the owner. -/
def Claims.OwnershipMovesBetweenTheTwins : Prop :=
  ∀ (s : State), s.awake = true → s.dev.bal.shelves.length = 4 →
    let d := s.dev
    let own := d.get F.BAL_STAT_OWNER
    let res (t : Dev) (v : Nat) : Prop := t = d.put F.BAL_HOCTL_RES v
    (d.isHead = true → s.becomes .handover d ∧ s.becomes .returnOwner d) ∧
    (d.isHead = false → d.isTwin = true → s.gives .handover (res · 3) ∧ s.gives .returnOwner (res · 3)) ∧
    (d.isHead = false → d.isTwin = false →
      (d.bal.handing = true → s.becomes .handover d) ∧
      (d.bal.handing = false → d.hoAvail = false → s.gives .handover (res · 2)) ∧
      (d.bal.handing = false → d.hoAvail = true → own ≠ 1 → s.gives .handover (res · 3)) ∧
      (d.bal.handing = false → d.hoAvail = true → own = 1 → s.gives .handover fun t => t.get F.BAL_HOCTL_RES = 1 ∧ t.bal.handing = true ∧
        t.bal.handAuto = false ∧ (∀ k < 4, Claims.workEnds d t k 5) ∧ t.posted = d.posted ∧ d.keepsRegs t Claims.endRegs) ∧
      (own = 1 ∨ own = 3 → s.gives .returnOwner (res · 3)) ∧ (own = 2 → d.bal.returning = true → s.becomes .returnOwner d) ∧
      (own = 2 → d.bal.returning = false → s.gives .returnOwner fun t => t.get F.BAL_HOCTL_RES = 1 ∧ t.bal.returning = true ∧
        t.get F.BAL_STAT_OWNER = 2 ∧ t.sent = d.sent ++ (if d.power.twinTx then [.message 4 [3, 0]] else []) ∧ d.keepsRegs t [R.BAL_HOCTL]) ∧
      (own = 0 → s.gives .returnOwner fun t => t.get F.BAL_HOCTL_RES = 0 ∧ t.get F.BAL_STAT_OWNER = 1 ∧ t.bit F.BAL_EVT_HO = true ∧
        t.bitAt F.SEQ_IP_IP 9 = true ∧ d.keepsRegs t [R.BAL_HOCTL, R.BAL_STAT, R.BAL_EVT, R.SEQ_IP]) ∧
      (d.linkUp = false → d.power.ownDecided = false → d.power.releasedAt + 135000 ≤ d.cycle → own ≠ 1 → s.gives .ownershipTimeout fun t =>
        t.get F.BAL_STAT_OWNER = 1 ∧ t.power.ownDecided = true ∧ t.bit F.BAL_EVT_HO = true ∧ t.bitAt F.SEQ_IP_IP 9 = true ∧
        d.keepsRegs t [R.BAL_STAT, R.BAL_EVT, R.SEQ_IP])) ∧
    ((d.isHead = true ∨ d.isTwin = true ∨ d.linkUp = true ∨ d.power.ownDecided = true ∨ d.cycle < d.power.releasedAt + 135000) →
      s.becomes .ownershipTimeout d)

/-- R427, R428, R430, R456: the OWN messages on an UP link, and what each leaves of the owner on the device that receives it; a message whose CRC fails
counts against the link, the fourth in a row. -/
def Claims.OwnMessagesChangeTheOwner : Prop :=
  ∀ (s : State) (auto : Bool), s.awake = true → s.dev.bal.shelves.length = 4 →
    let d := s.dev
    let own := d.get F.BAL_STAT_OWNER
    let seen (t : Dev) : Prop := t.twin.validRun = d.twin.validRun + 1 ∧ t.twin.failRun = 0 ∧ t.twin.lastValid = d.cycle
    let failed : Dev := { d with twin := { d.twin with failRun := d.twin.failRun + 1, validRun := 0 } }
    let changes (t : Dev) : Prop := t.bit F.BAL_EVT_HO = true ∧ t.bitAt F.SEQ_IP_IP 9 = true
    (d.twin.failRun + 1 < 4 → s.becomes (.ownHandover false auto) failed ∧ s.becomes (.ownAck false) failed ∧ s.becomes (.ownStop false) failed ∧
      s.becomes (.ownStopack false) failed) ∧
    (d.linkUp = true →
      (d.isHead = false → d.isTwin = true → own ≠ 1 → s.gives (.ownHandover true auto) fun t => seen t ∧ t.get F.BAL_STAT_OWNER = 1 ∧ changes t ∧
        t.sent = d.sent ++ (if d.power.twinTx then [.message 4 [2, 0]] else []) ∧
        d.posts t (if auto then [(6, 0, 8, BitVec.ofNat 32 (d.get F.TWN_STAT_PADDR))] else []) ∧
        d.keepsRegs t [R.BAL_STAT, R.BAL_EVT, R.SEQ_IP]) ∧
      (d.isHead = true ∨ d.isTwin = false → s.gives (.ownHandover true auto) fun t => seen t ∧ d.keepsRegs t [] ∧ t.sent = d.sent) ∧
      (d.bal.handing = true → d.isTwin = false → own = 1 → s.gives (.ownAck true) fun t => seen t ∧ t.get F.BAL_STAT_OWNER = 2 ∧ changes t ∧
        t.get F.BAL_HOCTL_RES = 0 ∧ t.bal.handing = false ∧ (∀ k < 4, (t.shelf k).act = false → (t.shelf k).sel = none) ∧
        d.keepsRegs t (R.BAL_STAT :: Claims.endRegs)) ∧
      (d.bal.handing = false ∨ d.isTwin = true → s.gives (.ownAck true) fun t => seen t ∧ d.keepsRegs t [] ∧ t.bal = d.bal) ∧
      (d.isHead = false → d.isTwin = true → own = 1 → s.gives (.ownStop true) fun t => seen t ∧ t.get F.BAL_STAT_OWNER = 2 ∧ changes t ∧
        t.bal.returning = true ∧ (∀ k < 4, (t.shelf k).act = false → (t.shelf k).sel = none) ∧ d.keepsRegs t (R.BAL_STAT :: Claims.endRegs)) ∧
      (d.isHead = true ∨ d.isTwin = false → s.gives (.ownStop true) fun t => seen t ∧ d.keepsRegs t [] ∧ t.bal = d.bal) ∧
      (d.bal.returning = true → d.isTwin = false → own ≠ 1 → s.gives (.ownStopack true) fun t => seen t ∧ t.get F.BAL_STAT_OWNER = 1 ∧ changes t ∧
        t.get F.BAL_HOCTL_RES = 0 ∧ t.bal.returning = false ∧ d.keepsRegs t [R.BAL_STAT, R.BAL_EVT, R.SEQ_IP, R.BAL_HOCTL]) ∧
      (d.bal.returning = false ∨ d.isTwin = true → s.gives (.ownStopack true) fun t => seen t ∧ d.keepsRegs t [] ∧ t.bal = d.bal))

/-- What a message that passed its CRC leaves of the link: its run goes on (R456). -/
def Claims.linkSeen (d t : Dev) : Prop := t.twin.validRun = d.twin.validRun + 1 ∧ t.twin.failRun = 0 ∧ t.twin.lastValid = d.cycle

/-- What a device whose twin link goes DOWN is left with (R429, R433, R456, R464, R472): the comparison ends, DEGR stands, a handover ends, and an owner
that depended on the partner holds nothing. -/
def Claims.linkIsLost (d t : Dev) : Prop :=
  t.get F.TWN_STAT_LINK = 0 ∧ t.bit F.TWN_EVT_DOWN = true ∧ t.bitAt F.SEQ_IP_IP 8 = true ∧ t.bit F.TWN_STAT_DEGR = true ∧
    t.bit F.TWN_STAT_CMPACT = false ∧ t.twin.kept = [] ∧ t.twin.health = none ∧ (d.isHead = true → t.bit F.TWN_CCSTAT_SUSP = true) ∧
    d.posts t [(3, 1, 1, BitVec.ofNat 32 (d.get F.TWN_STAT_PADDR))] ∧
    (if (d.isTwin = true ∧ d.get F.BAL_STAT_OWNER = 1) ∨ (d.isTwin = false ∧ d.get F.BAL_STAT_OWNER = 2) then t.get F.BAL_STAT_OWNER = 0
     else t.get F.BAL_STAT_OWNER = d.get F.BAL_STAT_OWNER) ∧
    d.keepsRegs t ([R.TWN_STAT, R.TWN_EVT, R.TWN_CCSTAT, R.SYS_CLKSTAT, R.BAL_STAT] ++ Claims.endRegs)

/-- R454, R456, R464, R683: HEALTH leaves after 250 µs of idle; the partner's is kept; 1 ms without a valid message or the fourth failed CRC takes the
link DOWN, the third valid message in a row takes it UP. -/
def Claims.TwinLinkMessagesCarryTheLink : Prop :=
  ∀ (s : State) (m : BitVec 48), s.awake = true → s.dev.bal.shelves.length = 4 →
    let d := s.dev
    (d.cycle < d.twin.lastSent + 25000 ∨ d.power.twinTx = false → s.becomes .healthSend d) ∧
    (d.twin.lastSent + 25000 ≤ d.cycle → d.power.twinTx = true → s.gives .healthSend fun t => ∃ p : List Byte,
      t.sent = d.sent ++ [.message 1 p] ∧ p.length = 6 ∧ t.twin.lastSent = d.cycle + 1200 ∧ (nth p 0 0).getLsbD 0 = d.isHead ∧
      (nth p 0 0).getLsbD 1 = d.isTwin ∧ (nth p 1 0).toNat % 128 = d.addr ∧ (nth p 2 0).toNat % 8 = d.pstate ∧
      (nth p 2 0).getLsbD 3 = d.bit F.FLT_STAT_LKO ∧ (nth p 3 0).toNat / 16 % 4 = d.get F.BAL_STAT_OWNER ∧
      (nth p 4 0).getLsbD 4 = d.highFault ∧ d.keepsRegs t []) ∧
    ((d.linkUp = true ∨ d.twin.validRun + 1 < 3) → s.gives (.healthMsg m true) fun t => Claims.linkSeen d t ∧ t.twin.health = some m ∧
      t.get F.TWN_STAT_PADDR = bitsOf m.toNat 32 7 ∧ t.safe.partnerDem = (d.safe.partnerDem && m.getLsbD 12) ∧ d.keepsRegs t [R.TWN_STAT]) ∧
    (d.linkUp = false → 3 ≤ d.twin.validRun + 1 → s.gives (.healthMsg m true) fun t => Claims.linkSeen d t ∧ t.get F.TWN_STAT_LINK = 2 ∧
      t.bit F.TWN_EVT_UP = true ∧ t.bitAt F.SEQ_IP_IP 8 = true ∧ (d.isHead = true → t.bit F.TWN_CCSTAT_SUSP = false) ∧
      (2 ≤ d.get F.LOG_STAT_MOUNT → d.power.twinTx = true → ∃ p, t.sent = d.sent ++ [.message 2 p] ∧ p.length = 14 ∧
        p.take 2 = beBytes 2 (d.get F.TWN_PAIRID_OWN)) ∧ d.keepsRegs t [R.TWN_STAT, R.TWN_EVT, R.SEQ_IP, R.TWN_CCSTAT]) ∧
    (d.twin.failRun + 1 < 4 → s.becomes (.healthMsg m false) { d with twin := { d.twin with failRun := d.twin.failRun + 1, validRun := 0 } }) ∧
    (4 ≤ d.twin.failRun + 1 → d.linkUp = true → s.gives (.healthMsg m false) fun t => Claims.linkIsLost d t) ∧
    (d.linkUp = false ∨ d.cycle < d.twin.lastValid + 100000 → s.becomes .twinLinkDown d) ∧
    (d.linkUp = true → d.twin.lastValid + 100000 ≤ d.cycle → s.gives .twinLinkDown fun t => Claims.linkIsLost d t)

/-- R457 to R459, R464, R605, R607, R683: PAIRSET sets the ID, records it and restarts the exchange; the partner's PAIR is judged in the order UNPAIRED,
FOREIGN, ROLE, ADDR, MATCH, and waits for the mount of the log. -/
def Claims.PairsAreSetAndJudged : Prop :=
  ∀ (s : State) (w : Word) (m : BitVec 112) (echo : BitVec 16), s.awake = true →
    let d := s.dev
    let id := w.toNat % 65536
    let far := bitsOf m.toNat 96 16
    let own := d.get F.TWN_PAIRID_OWN
    let o := if own = 0 ∨ far = 0 then 2 else if own ≠ far then 3 else if m.getLsbD 89 = d.isTwin then 4
      else if d.bit F.CHN_ADDR_VALID = false ∨ d.bit F.CHN_ADDR_TENT = true ∨ m.getLsbD 87 = false then 0
      else if bitsOf m.toNat 80 7 ≠ d.addr then 5 else 1
    (id = 0xFFFF → s.becomes (.pairset w) d) ∧
    (id ≠ 0xFFFF → s.gives (.pairset w) fun t => t.get F.TWN_PAIRID_OWN = id ∧ t.get F.TWN_STAT_PRES = 0 ∧ t.bit F.TWN_STAT_DEGR = true ∧
      t.bit F.TWN_STAT_CMPACT = false ∧ t.twin.kept = [] ∧ t.twin.pairsetDone = true ∧
      (d.logFault = false → d.log.hwQ = [] → ∃ r : LogRec, r.ty = 8 ∧ r.tag = 1 ∧ r.body.take 2 = beBytes 2 id ∧
        (r ∈ t.log.hwQ ∨ .record r ∈ t.log.staged)) ∧
      (d.linkUp = true → 2 ≤ d.get F.LOG_STAT_MOUNT → d.power.twinTx = true → ∃ p, t.sent = d.sent ++ [.message 2 p] ∧
        p.take 2 = beBytes 2 id) ∧
      d.keepsRegs t [R.TWN_PAIRID, R.TWN_STAT, R.LOG_DROP, R.SEQ_IP]) ∧
    (d.linkUp = true → d.get F.LOG_STAT_MOUNT < 2 → s.gives (.pairMsg m true echo) fun t => Claims.linkSeen d t ∧ t.twin.held = some (m, echo) ∧
      d.keepsRegs t []) ∧
    (d.linkUp = true → 2 ≤ d.get F.LOG_STAT_MOUNT → s.gives (.pairMsg m true echo) fun t => Claims.linkSeen d t ∧ t.get F.TWN_STAT_PRES = o ∧
      t.bit F.TWN_DLY_VALID = true ∧ t.get F.TWN_DLY_D = (echo.toNat + 64) / 128 ∧ t.get F.TWN_PAIRID_PARTNER = far ∧
      t.get F.TWN_STAT_PADDR = bitsOf m.toNat 80 7 ∧ t.bit F.TWN_EVT_PAIR = true ∧ t.bit F.TWN_STAT_DEGR = decide (o ≠ 1) ∧
      (o = 1 → t.bit F.TWN_STAT_CMPACT = (!d.isHead && !d.isTwin && d.bit F.TWN_CFG_CMPEN)) ∧ (o ≠ 1 → t.bit F.TWN_STAT_CMPACT = false) ∧
      d.posts t (if 2 ≤ o then [(3, 1, o, BitVec.ofNat 32 (bitsOf m.toNat 80 7))] else []) ∧
      (o = 2 ∨ o = 3 → t.bit F.SYS_PWRSTAT_FOREIGN = true) ∧
      (o = 1 → d.twin.pairsetDone = true → d.keys.kp ≠ none → t.bit F.SYS_PWRSTAT_FOREIGN = false))

/-- R461 to R463: a RESULT is compared with the kept publication of its PH0 among the last four, or counts as a miss; a cell differs beyond TOL, and BALX
where it was balanced, and NDIFF in a row flag it once; MISSMAX misses in a row raise their fault once, and a publication past its deadline is a miss. -/
def Claims.ResultsAreComparedOrMissed : Prop :=
  ∀ (s : State) (m : TwinResult), s.awake = true → s.dev.linkUp = true → s.dev.twin.diffRun.length = 32 →
    let d := s.dev
    let k := d.twin.kept
    let p := (k.drop (k.length - 4)).find? (fun p => p.ph0 == m.ph0)
    let due := (k.filter fun p => decide (p.deadline < d.cycle)).length
    let missMax := max 1 (d.get F.TWN_CFG_MISSMAX)
    let missed (t : Dev) (n : Nat) : Prop :=
      t.get F.TWN_CMPCNT_MISS = min (d.get F.TWN_CMPCNT_MISS + n) 255 ∧ t.twin.missRun = d.twin.missRun + n ∧
        d.posts t (if 0 < n ∧ missMax ≤ d.twin.missRun + n ∧ d.twin.missRaised = false then [(3, 1, 7, 0)] else [])
    let quiet (t : Dev) : Prop := t.posted = d.posted ∧ d.keepsRegs t []
    (d.bit F.TWN_STAT_CMPACT = false → (s.gives (.resultMsg m true) fun t => Claims.linkSeen d t ∧ t.twin.kept = k ∧ quiet t) ∧
      (s.gives .resultDeadline fun t => t.twin.kept = (k.filter fun p => decide (d.cycle ≤ p.deadline)) ∧ quiet t)) ∧
    (d.bit F.TWN_STAT_CMPACT = true →
      (p = none → s.gives (.resultMsg m true) fun t => Claims.linkSeen d t ∧ missed t 1 ∧ t.bit F.TWN_EVT_MISS = true ∧ t.twin.kept = k ∧
        d.keepsRegs t [R.TWN_CMPCNT, R.TWN_EVT]) ∧
      (∀ q, p = some q → s.gives (.resultMsg m true) fun t => Claims.linkSeen d t ∧ t.twin.kept = k.erase q ∧ t.twin.missRun = 0 ∧
        t.twin.missRaised = false ∧ t.get F.TWN_CMPCNT_CMP = min (d.get F.TWN_CMPCNT_CMP + 1) 65535 ∧
        (∀ c < 32, m.mask.getLsbD c = false → nth t.twin.diffRun c 0 = nth d.twin.diffRun c 0) ∧
        (∀ (c : Fin 32) (v : BitVec 18) (vp : Int), m.mask = BitVec.ofNat 32 (2 ^ c.val) → m.vals = [v] →
          q.vals.find? (fun x => x.1 == c.val) = some (c.val, vp) →
          let diff := vp - v.toNat
          let lim := d.get F.TWN_TOL_TOL + (if q.balact.getLsbD c.val then d.get F.TWN_TOL_BALX else 0)
          let run := nth d.twin.diffRun c.val 0 + 1
          (diff.natAbs ≤ lim → nth t.twin.diffRun c.val 0 = 0 ∧ t.posted = d.posted) ∧
          (lim < diff.natAbs → nth t.twin.diffRun c.val 0 = run ∧ t.get F.TWN_LASTD_CELL = c.val ∧
            t.get F.TWN_LASTD_DIFF = (diff.emod 16777216).toNat ∧
            (max 1 (d.get F.TWN_CFG_NDIFF) ≤ run → d.twin.diffRaised.getLsbD c.val = false → t.bitAt F.TWN_DIFF_CELL c.val = true ∧
              t.bit F.TWN_EVT_DIFF = true ∧ t.bitAt F.SEQ_IP_IP 8 = true ∧ d.posts t [(3, 1, 6, BitVec.ofNat 32 c.val)]) ∧
            (run < max 1 (d.get F.TWN_CFG_NDIFF) ∨ d.twin.diffRaised.getLsbD c.val = true → t.posted = d.posted))) ∧
        d.keepsRegs t [R.TWN_CMPCNT, R.TWN_EVT, R.TWN_DIFF, R.TWN_LASTD, R.SEQ_IP]) ∧
      (s.gives .resultDeadline fun t => missed t due ∧ t.twin.kept = (k.filter fun p => decide (d.cycle ≤ p.deadline)) ∧
        d.keepsRegs t [R.TWN_CMPCNT, R.TWN_EVT]))

/-- R465, R466: a member in Measure or Lockout, or a foreign one in Start, sends the SAFETY frame of the period once, ahead of its other frames. -/
def Claims.SafetyFramesLeaveOncePerPeriod : Prop :=
  ∀ (s : State), s.awake = true →
    let d := s.dev
    let p := clampNat 2 100 (bitsOf (d.guardWord 9) 16 7) * 100000
    let ofs := d.addr * p / 128
    let k := (d.tb.toNat - ofs) / p
    let sends := d.isHead = false ∧ d.bit F.CHN_ADDR_VALID = true ∧ d.bit F.CHN_ADDR_TENT = false ∧
      (d.pstate = 2 ∨ d.pstate = 4 ∨ (d.pstate = 1 ∧ d.bit F.SYS_PWRSTAT_FOREIGN = true))
    (¬ sends ∨ d.tb.toNat < ofs ∨ d.twin.lastPeriod = some k → s.becomes .safetyFrameSend d) ∧
    (sends → ofs ≤ d.tb.toNat → d.twin.lastPeriod ≠ some k → d.side ≠ 3 → s.gives .safetyFrameSend fun t => t.twin.lastPeriod = some k ∧
      ∃ (o : Own) (b6 b7 : Byte), (if d.side = 1 then t.chain.ownRev = o :: d.chain.ownRev else t.chain.ownFwd = o :: d.chain.ownFwd) ∧
        o.frame.ty = 0xA ∧ o.frame.src = BitVec.ofNat 7 d.addr ∧ o.frame.dest = 0 ∧ o.frame.orig = true ∧ o.frame.auth = false ∧
        o.frame.payload = beBytes 2 k ++ beBytes 2 (d.get F.TWN_PAIRID_OWN) ++ beBytes 2 (d.get F.GRD_GLATCH_GUARD) ++ [b6, b7] ∧
        b6.toNat = d.flt.hlv + 4 * (d.bit F.FLT_STAT_LKO).toNat ∧ b7.getLsbD 0 = d.bit F.TWN_STAT_DEGR ∧
        b7.getLsbD 1 = decide (d.rd R.TWN_DIFF ≠ 0) ∧ b7.getLsbD 2 = d.bit F.TWN_STAT_CMPACT ∧
        b7.getLsbD 3 = decide (d.get F.BAL_STAT_OWNER = 1) ∧ b7.getLsbD 4 = decide (d.rd R.CAL_STALE ≠ 0) ∧
        b7.getLsbD 5 = d.bit F.SYS_CLKSTAT_ALIGNED ∧ b7.getLsbD 6 = d.bit F.GRD_STAT_LOCKED ∧ b7.getLsbD 7 = decide (d.side ≠ 0))

/-- What a head does with a safety frame that demands the safe state (R470, R473): FRM latches, both outputs open, and a new demand goes to the
partner. -/
def Claims.frameDemands (d t : Dev) (a : Nat) (m : BitVec 128) (sent : List Out) : Prop :=
  let demands := Dev.rawByte m 8 % 4 ≠ 0 ∨ Dev.rawByte m 9 ≠ 0 ∨ 2 ≤ Dev.rawByte m 10 % 4
  (demands → t.bitAt F.GRD_SAFESTAT_SRC 2 = true ∧ t.bit F.GRD_SAFESTAT_DEM = true ∧ t.get F.GRD_SAFESTAT_OUT = 0 ∧ t.safe.frmPair = some a ∧
    t.sent = sent ++ (if d.bitAt F.GRD_SAFESTAT_SRC 2 then [] else [.faultWord])) ∧
  (¬ demands → t.rd R.GRD_SAFESTAT = d.rd R.GRD_SAFESTAT ∧ t.safe.frmPair = d.safe.frmPair ∧ t.sent = sent)

/-- How a frame of pair `a` enters its comparison (R468): the last of its chain is kept, and it counts for the period that its SSEQ names. -/
def Claims.frameEnters (d t : Dev) (a : Nat) (m : BitVec 128) (mine : Bool) : Prop :=
  ∃ q : PairCmp, t.twin.pairs.find? (fun p => p.addr == a) = some q ∧ (if mine then q.lastOwn else q.lastFar) = some m ∧
    (∀ b, b ≠ a → t.twin.pairs.find? (fun p => p.addr == b) = d.twin.pairs.find? (fun p => p.addr == b)) ∧
    ∀ p, d.twin.pairs.find? (fun p => p.addr == a) = some p → q.k = p.k ∧
      (if mine then q.lastFar = p.lastFar ∧ q.far = p.far ∧ q.own = (if Dev.rawSseq m = p.k % 65536 then some m else p.own)
       else q.lastOwn = p.lastOwn ∧ q.own = p.own ∧ q.far = (if Dev.rawSseq m = p.k % 65536 then some m else p.far))

/-- R467, R468, R470: a head compares each safety frame of its own chain and relays it in SFR, and takes the partner's; a frame that demands the safe
state latches FRM, with the link UP or not. -/
def Claims.HeadsRelayAndTakeSafetyFrames : Prop :=
  ∀ (s : State) (p : Port) (f : Frame) (m : BitVec 128), s.awake = true →
    let d := s.dev
    let raw := Dev.rawSafety f
    ((d.isHead = false ∨ f.ty ≠ 0xA ∨ f.dest ≠ 0 ∨ f.src = 0 ∨ f.auth = true ∨ f.payload.length ≠ 8) → s.becomes (.safety p f) d) ∧
    (d.isHead = true → f.ty = 0xA → f.dest = 0 → f.src ≠ 0 → f.auth = false → f.payload.length = 8 → s.gives (.safety p f) fun t =>
      Claims.frameEnters d t f.src.toNat raw true ∧
      Claims.frameDemands d t f.src.toNat raw (d.sent ++ (if d.power.twinTx then [.message 5 (beBytes 16 raw.toNat)] else [])) ∧
      t.bit F.TWN_CCSTAT_OVLD = decide (d.safetyPeriod < d.get F.CHN_KSTAT_N * 5000) ∧ t.posted = d.posted ∧
      d.keepsRegs t [R.TWN_CCSTAT, R.GRD_SAFESTAT]) ∧
    (d.isHead = false → d.linkUp = true → s.gives (.sfrMsg m true) fun t => Claims.linkSeen d t ∧ d.keepsRegs t [] ∧ t.safe = d.safe) ∧
    (d.isHead = true → d.linkUp = true → s.gives (.sfrMsg m true) fun t => Claims.linkSeen d t ∧
      Claims.frameEnters d t (Dev.rawByte m 1 % 128) m false ∧ Claims.frameDemands d t (Dev.rawByte m 1 % 128) m d.sent ∧
      d.keepsRegs t [R.GRD_SAFESTAT]) ∧
    (d.isHead = true → d.linkUp = false → d.twin.validRun + 1 < 3 → s.gives (.sfrMsg m true) fun t => Claims.linkSeen d t ∧
      t.twin.pairs = d.twin.pairs ∧ Claims.frameDemands d t (Dev.rawByte m 1 % 128) m d.sent ∧ d.keepsRegs t [R.GRD_SAFESTAT])

/-- R468, R469, R471, R472, R499: the comparison of a pair closes P + 2 ms after the frame's time with its verdict, which is shown, counted and held if it is
the first departure, and raises its fault; with EN = 0 nothing is recorded. -/
def Claims.ComparisonsCloseWithAVerdict : Prop :=
  ∀ (s : State) (a : BitVec 7) (p : PairCmp), s.awake = true → s.dev.twin.pairs.find? (fun p => p.addr == a.toNat) = some p →
    let d := s.dev
    let per := d.safetyPeriod
    let due := (p.k * per + a.toNat * per / 128 + per + 200000) % 2 ^ 48
    let agree (x y : BitVec 128) : Prop :=
      (∀ i < 4, Dev.rawByte x (4 + i) = Dev.rawByte y (4 + i)) ∧ Dev.rawByte x 8 % 4 = Dev.rawByte y 8 % 4 ∧
        Dev.rawByte x 9 = Dev.rawByte y 9 ∧ (Dev.rawByte x 10).testBit 2 = (Dev.rawByte y 10).testBit 2 ∧
        Dev.rawByte x 11 &&& d.get F.TWN_CCCFG_FMASK = Dev.rawByte y 11 &&& d.get F.TWN_CCCFG_FMASK
    let verdict (v : Nat) : Prop :=
      if d.linkUp = false then p.own = none ∧ v = 4
      else match p.own, p.far with
        | some x, some y => (agree x y ∧ v = 0) ∨ (¬ agree x y ∧ v = 1)
        | none, none => v = 4
        | none, some _ => v = (if d.isTwin then 3 else 2)
        | some _, none => v = (if d.isTwin then 2 else 3)
    let j := a.toNat / 32
    let i := a.toNat % 32
    let next := if 2 ^ 48 ≤ (p.k + 1) * per then 0 else p.k + 1
    let goesOn (t : Dev) : Prop := ∃ q, t.twin.pairs.find? (fun p => p.addr == a.toNat) = some q ∧ q.k = next ∧ q.lastOwn = p.lastOwn ∧
      q.lastFar = p.lastFar
    let isDue := d.isHead = true ∧ 0 ≤ wrapDiff 48 d.tb.toNat due
    (¬ isDue → s.becomes (.safetyCompareClose a) d) ∧
    (isDue → (d.bit F.TWN_CCCFG_EN = false ∨ (d.linkUp = false ∧ p.own ≠ none)) → s.gives (.safetyCompareClose a) fun t => goesOn t ∧
      d.keepsRegs t [] ∧ t.posted = d.posted) ∧
    (∀ v, isDue → d.bit F.TWN_CCCFG_EN = true → verdict v → s.gives (.safetyCompareClose a) fun t => goesOn t ∧
      t.get F.TWN_CCSTAT_SSEQ = p.k % 65536 ∧ t.bitAt (F.TWN_CCMM_PAIR j) i = decide (v = 1) ∧
      t.bitAt (F.TWN_CCSGL_PAIR j) i = decide (v = 2 ∨ v = 3) ∧ t.bitAt (F.TWN_CCLOST_PAIR j) i = decide (v = 4) ∧
      (v ≠ 0 ∨ d.bit F.TWN_CCCFG_EVERY = true → t.bit F.CHN_IRQST_SAFE = true) ∧
      t.get F.TWN_CCCNT_MM = min (d.get F.TWN_CCCNT_MM + (if v = 1 then 1 else 0)) 255 ∧
      t.get F.TWN_CCCNT_SGL = min (d.get F.TWN_CCCNT_SGL + (if v = 2 ∨ v = 3 then 1 else 0)) 255 ∧
      t.get F.TWN_CCCNT_LOST = min (d.get F.TWN_CCCNT_LOST + (if v = 4 then 1 else 0)) 255 ∧
      (d.get F.TWN_CCFIRST_KIND ≠ 0 ∨ v = 0 → t.rd R.TWN_CCFIRST = d.rd R.TWN_CCFIRST) ∧
      (d.rd R.TWN_CCFIRST = 0 → v ≠ 0 → t.get F.TWN_CCFIRST_KIND = v ∧ t.get F.TWN_CCFIRST_PAIR = a.toNat ∧
        t.get F.TWN_CCFIRST_SSEQ = p.k % 65536) ∧
      d.posts t (if v = 0 then [] else if v = 1 then [(3, 1, 8, BitVec.ofNat 32 a.toNat)]
        else if v = 4 then [(3, 2, 10, BitVec.ofNat 32 a.toNat)] else [(3, 1, 9, BitVec.ofNat 32 a.toNat)]) ∧
      d.keepsRegs t [R.TWN_CCSTAT, R.TWN_CCMM j, R.TWN_CCSGL j, R.TWN_CCLOST j, R.CHN_IRQST, R.TWN_CCCNT, R.TWN_CCFIRST])

/-- R471, R498: a read of TWN_CCRAW[0] latches the last frames of the pair of CCSEL, chain A's in words 0 to 3 and chain B's in 4 to 7. -/
def Claims.TheLastFramesOfAPairAreReadable : Prop :=
  ∀ (s : State), s.awake = true →
    let d := s.dev
    let p := d.twin.pairs.find? fun p => p.addr == d.get F.TWN_CCSEL_PAIR
    let own : BitVec 128 := ((p.bind (·.lastOwn))).getD 0
    let far : BitVec 128 := ((p.bind (·.lastFar))).getD 0
    let a := if d.isTwin then far else own
    let b := if d.isTwin then own else far
    s.gives .ccrawRead fun t =>
      (∀ w < 4, t.rd (R.TWN_CCRAW w) = BitVec.ofNat 32 (a.toNat / 2 ^ (96 - 32 * w)) ∧
        t.rd (R.TWN_CCRAW (4 + w)) = BitVec.ofNat 32 (b.toNat / 2 ^ (96 - 32 * w))) ∧
      t.sent = d.sent ++ [.value (R.TWN_CCRAW 0) (BitVec.ofNat 32 (a.toNat / 2 ^ 96))] ∧
      d.keepsRegs t [R.TWN_CCRAW 0, R.TWN_CCRAW 1, R.TWN_CCRAW 2, R.TWN_CCRAW 3, R.TWN_CCRAW 4, R.TWN_CCRAW 5, R.TWN_CCRAW 6, R.TWN_CCRAW 7]

/-- R473 to R475, R495: SAFECTL's commands on a head: a demand opens both outputs and goes to the partner, ACK clears the latch when no source is
active, and ON closes each output that nothing refuses. -/
def Claims.SafeCommandsSwitchTheOutputs : Prop :=
  ∀ (s : State) (mask : BitVec 2), s.awake = true → s.dev.safe.outs.length = 2 →
    let d := s.dev
    let slotIn (n : Nat) : Prop := ∃ u, d.safe.faultSlot = some u ∧ d.cycle ≤ u + n
    let refused (j : Nat) : Prop := d.bit F.GRD_SAFESTAT_DEM = true ∨ d.bit F.GRD_STAT_LOCKED = false ∨
      (d.guardWord 10).testBit (16 + j) = false ∨ slotIn 1000 ∨ d.bitAt F.GRD_SAFESTAT_RBF j = true
    let active := slotIn 1600 ∨ d.safe.partnerDem = true ∨ d.highFault = true ∨
      ∃ a p m, d.safe.frmPair = some a ∧ d.twin.pairs.find? (fun p => p.addr == a) = some p ∧ (p.lastOwn = some m ∨ p.lastFar = some m) ∧
        (Dev.rawByte m 8 % 4 ≠ 0 ∨ Dev.rawByte m 9 ≠ 0 ∨ 2 ≤ Dev.rawByte m 10 % 4)
    let demand (t : Dev) (src : Nat) : Prop := t.bitAt F.GRD_SAFESTAT_SRC src = true ∧ t.bit F.GRD_SAFESTAT_DEM = true ∧
      t.get F.GRD_SAFESTAT_OUT = 0 ∧ (∀ i < 5, i ≠ src → t.bitAt F.GRD_SAFESTAT_SRC i = d.bitAt F.GRD_SAFESTAT_SRC i) ∧
      d.keepsRegs t [R.GRD_SAFESTAT]
    (d.isHead = false → s.becomes (.safeOn mask) d ∧ s.becomes .safeDemand d ∧ s.becomes .safeAck d ∧ s.becomes .faultWord d) ∧
    (d.isHead = true →
      (s.gives .safeDemand fun t => demand t 4 ∧ t.sent = (if d.bitAt F.GRD_SAFESTAT_SRC 4 then d.sent else d.sent ++ [.faultWord])) ∧
      (s.gives .faultWord fun t => demand t 1 ∧ t.sent = d.sent ∧ t.safe.partnerDem = true) ∧
      (active → s.becomes .safeAck d) ∧
      (¬ active → s.gives .safeAck fun t => t.get F.GRD_SAFESTAT_SRC = 0 ∧ t.bit F.GRD_SAFESTAT_DEM = false ∧
        t.get F.GRD_SAFESTAT_OUT = d.get F.GRD_SAFESTAT_OUT ∧ t.safe.frmPair = none ∧ t.safe.outs = d.safe.outs ∧
        d.keepsRegs t [R.GRD_SAFESTAT]) ∧
      (mask = 0 → s.becomes (.safeOn mask) d) ∧
      (mask ≠ 0 → s.gives (.safeOn mask) fun t => (t.bit F.GRD_SAFESTAT_ONREF = true ↔ ∃ j < 2, mask.getLsbD j = true ∧ refused j) ∧
        (∀ j < 2, mask.getLsbD j = true → ¬ refused j → (d.safeOut j).pulse = none → t.bitAt F.GRD_SAFESTAT_OUT j = true) ∧
        (∀ j < 2, mask.getLsbD j = false ∨ refused j → t.bitAt F.GRD_SAFESTAT_OUT j = d.bitAt F.GRD_SAFESTAT_OUT j) ∧
        (mask.getLsbD 0 = true → ¬ refused 0 → (d.safeOut 0).pulse = none → d.bitAt F.GRD_SAFESTAT_OUT 0 = false →
          (t.safeOut 0).nextPulse = d.cycle + d.testInterval ∧
          (t.safeOut 1).nextPulse = d.cycle + d.testInterval + d.testInterval / 2) ∧
        d.keepsRegs t [R.GRD_SAFESTAT] ∧ t.posted = d.posted))

/-- R476 to R479, R495, R499: an output that is on is pulsed off at its schedule or its repetition, its readback is judged 10 µs before the pulse ends, and
it closes again unless a demand or a fault holds it off; a second failure in a row is the readback fault. -/
def Claims.OffPulsesTestTheOutputs : Prop :=
  ∀ (s : State) (j : Fin 2) (high : Bool), s.awake = true → s.dev.safe.outs.length = 2 →
    let d := s.dev
    let o := d.safeOut j.val
    let sched := o.nextPulse ≠ 0 ∧ o.nextPulse ≤ d.cycle
    let retry := ∃ u, o.retryAt = some u ∧ u ≤ d.cycle
    let on := d.bitAt F.GRD_SAFESTAT_OUT j.val
    let atSample := ∃ u, o.pulse = some u ∧ o.sampled = false ∧ u + d.pulseWidth ≤ d.cycle + 1000
    let atEnd := ∃ u, o.pulse = some u ∧ u + d.pulseWidth ≤ d.cycle
    let info : Word := BitVec.ofNat 32 j.val
    ((d.isHead = false ∨ o.pulse ≠ none ∨ (¬ sched ∧ ¬ retry)) → s.becomes (.offPulseStart j) d) ∧
    (d.isHead = true → o.pulse = none → (sched ∨ retry) → s.gives (.offPulseStart j) fun t => (t.safeOut j.val).retryAt = none ∧
      (sched → (t.safeOut j.val).nextPulse = o.nextPulse + d.testInterval) ∧ (¬ sched → (t.safeOut j.val).nextPulse = o.nextPulse) ∧
      (on = true → (t.safeOut j.val).pulse = some d.cycle ∧ t.bitAt F.GRD_SAFESTAT_OUT j.val = false ∧ t.bit F.GRD_SAFESTAT_PULSE = true) ∧
      (on = false → (t.safeOut j.val).pulse = none ∧ d.keepsRegs t []) ∧ d.keepsRegs t [R.GRD_SAFESTAT]) ∧
    (¬ atSample → s.becomes (.offPulseSample j high) d) ∧
    (atSample → s.gives (.offPulseSample j high) fun t => t.bitAt F.GRD_SAFESTAT_RB j.val = high ∧ (t.safeOut j.val).sampled = true ∧
      (high = false → (t.safeOut j.val).fails = 0 ∧ t.posted = d.posted) ∧
      (high = true → t.get F.GRD_SAFECNT_FAIL = min (d.get F.GRD_SAFECNT_FAIL + 1) 65535) ∧
      (high = true → o.fails = 0 → (t.safeOut j.val).fails = 1 ∧ (t.safeOut j.val).retryAt = some (d.cycle + 1000000) ∧
        d.posts t [(5, 0, 7, info)]) ∧
      (high = true → o.fails ≠ 0 → t.bitAt F.GRD_SAFESTAT_RBF j.val = true ∧ t.bitAt F.GRD_SAFESTAT_OUT j.val = false ∧
        d.posts t [(5, 2, 8, info)]) ∧
      d.keepsRegs t [R.GRD_SAFESTAT, R.GRD_SAFECNT]) ∧
    (¬ atEnd → s.becomes (.offPulseEnd j) d) ∧
    (atEnd → s.gives (.offPulseEnd j) fun t => (t.safeOut j.val).pulse = none ∧
      t.get F.GRD_SAFECNT_PULSES = min (d.get F.GRD_SAFECNT_PULSES + 1) 65535 ∧
      t.bitAt F.GRD_SAFESTAT_OUT j.val = (if d.bit F.GRD_SAFESTAT_DEM || d.bitAt F.GRD_SAFESTAT_RBF j.val then on else true) ∧
      t.posted = d.posted ∧ d.keepsRegs t [R.GRD_SAFESTAT, R.GRD_SAFECNT])

/-- R476 to R478: outside a pulse, from 100 µs after the switch changed, three wrong readback samples in a row are the L2 SUPPLY fault, which holds the
output off until L2 is acknowledged and three samples read low; a high one then raises it again. -/
def Claims.ReadbackSamplesJudgeTheSwitch : Prop :=
  ∀ (s : State) (j : Fin 2) (high : Bool), s.awake = true → s.dev.safe.outs.length = 2 →
    let d := s.dev
    let o := d.safeOut j.val
    let held := d.bitAt F.GRD_SAFESTAT_RBF j.val
    let on := d.bitAt F.GRD_SAFESTAT_OUT j.val
    let fault (t : Dev) : Prop := t.bitAt F.GRD_SAFESTAT_RBF j.val = true ∧ t.bitAt F.GRD_SAFESTAT_OUT j.val = false ∧
      d.posts t [(5, 2, 8, BitVec.ofNat 32 j.val)]
    (d.isHead = false ∨ o.pulse ≠ none → s.becomes (.safeReadbackSample j high) d) ∧
    (d.isHead = true → o.pulse = none → s.gives (.safeReadbackSample j high) fun t => t.bitAt F.GRD_SAFESTAT_RB j.val = high ∧
      d.keepsRegs t [R.GRD_SAFESTAT] ∧
      (held = true → d.flt.unack.testBit 2 = true → t.bitAt F.GRD_SAFESTAT_RBF j.val = true ∧ (t.safeOut j.val).lowRun = 0 ∧
        t.posted = d.posted) ∧
      (held = true → d.flt.unack.testBit 2 = false → high = true → fault t) ∧
      (held = true → d.flt.unack.testBit 2 = false → high = false →
        t.bitAt F.GRD_SAFESTAT_RBF j.val = decide (o.lowRun < 2) ∧ (t.safeOut j.val).lowRun = (if o.lowRun < 2 then o.lowRun + 1 else 0) ∧
        t.posted = d.posted) ∧
      (held = false → (d.cycle < o.changedAt + 10000 ∨ high = on) → t.posted = d.posted ∧ t.bitAt F.GRD_SAFESTAT_RBF j.val = false ∧
        t.bitAt F.GRD_SAFESTAT_OUT j.val = on) ∧
      (held = false → o.changedAt + 10000 ≤ d.cycle → high = on → (t.safeOut j.val).wrong = 0) ∧
      (held = false → o.changedAt + 10000 ≤ d.cycle → high ≠ on → o.wrong < 2 → (t.safeOut j.val).wrong = o.wrong + 1 ∧
        t.posted = d.posted ∧ t.bitAt F.GRD_SAFESTAT_OUT j.val = on) ∧
      (held = false → o.changedAt + 10000 ≤ d.cycle → high ≠ on → 2 ≤ o.wrong → fault t))

/-- R441, R443, R445, R466, R499: a strobe advances or restarts each comparator's deglitch count; a count that reaches n latches its guard bit and its
cell's or input's bit, and a guard bit newly latched is an L2 GUARD fault. -/
def Claims.StrobesLatchTheGuardBits : Prop :=
  ∀ (s : State) (tripped : BitVec 76), s.awake = true → s.dev.power.entering = none →
    let d := s.dev
    let n := bitsOf (d.guardWord 9) 0 6 + 1
    let count (i : Nat) : Nat := if d.comparatorOn i = true ∧ tripped.getLsbD i = true then min n (nth d.guard.counts i 0 + 1) else 0
    let hit (b : Nat) : Prop := ∃ i < 76, Guard.bitOf i = b ∧ count i = n
    (d.isHead = true ∨ d.bit F.GRD_STAT_ARMED = false → s.becomes (.fireguardStrobe tripped) d) ∧
    (d.isHead = false → d.bit F.GRD_STAT_ARMED = true → s.gives (.fireguardStrobe tripped) fun t =>
      (∀ i < 76, nth t.guard.counts i 0 = count i) ∧
      (∀ b < 10, t.bitAt F.GRD_GLATCH_GUARD b = true ↔ d.bitAt F.GRD_GLATCH_GUARD b = true ∨ hit b) ∧
      (∀ i < 32, t.bitAt F.GRD_COVL_CELL i = true ↔ d.bitAt F.GRD_COVL_CELL i = true ∨ count i = n) ∧
      (∀ i < 32, t.bitAt F.GRD_CUVL_CELL i = true ↔ d.bitAt F.GRD_CUVL_CELL i = true ∨ count (32 + i) = n) ∧
      (∀ i < 4, t.bitAt F.GRD_TLAT_HOT i = true ↔ d.bitAt F.GRD_TLAT_HOT i = true ∨ count (64 + i) = n) ∧
      (∀ i < 4, t.bitAt F.GRD_TLAT_COLD i = true ↔ d.bitAt F.GRD_TLAT_COLD i = true ∨ count (68 + i) = n) ∧
      (∀ b < 7, hit b → d.bitAt F.GRD_GLATCH_GUARD b = false → ∃ i < 76, Guard.bitOf i = b ∧ count i = n ∧
        (⟨2, 2, b + 1, BitVec.ofNat 32 (Guard.infoOf i), false⟩ : FaultEvt) ∈ t.posted) ∧
      ((∀ b < 7, hit b → d.bitAt F.GRD_GLATCH_GUARD b = true) → t.posted = d.posted) ∧
      d.keepsRegs t [R.GRD_GLATCH, R.GRD_GLIVE, R.GRD_COVL, R.GRD_CUVL, R.GRD_TLAT])

/-- R443, R444, R494, R499: a self-test tests the next enabled comparator; its second failure in a row latches STF, and a failing heartbeat CLK, each an
L2 GUARD fault when new. -/
def Claims.SelfTestsAndTheHeartbeatLatch : Prop :=
  ∀ (s : State) (pass : Bool) (i : Nat), s.awake = true → s.dev.power.entering = none → s.dev.guard.testFails.length = 76 → i < 76 →
    let d := s.dev
    let last := ∀ k < 76, i < k → d.comparatorOn k = false
    let fails := nth d.guard.testFails i 0 + 1
    let latched (t : Dev) (b : Nat) : Prop := t.bitAt F.GRD_GLATCH_GUARD b = true ∧
      d.posts t (if d.bitAt F.GRD_GLATCH_GUARD b then [] else [(2, 2, b + 1, 0)])
    (d.bit F.GRD_STAT_ARMED = false → s.becomes (.comparatorSelfTest pass) d) ∧
    (d.bit F.GRD_STAT_ARMED = true → d.comparatorOn i = true → d.guard.testNext ≤ i →
      (∀ k, d.guard.testNext ≤ k → k < i → d.comparatorOn k = false) → s.gives (.comparatorSelfTest pass) fun t =>
      nth t.guard.testFails i 0 = (if pass then 0 else fails) ∧ (∀ k, k ≠ i → nth t.guard.testFails k 0 = nth d.guard.testFails k 0) ∧
      (last → t.guard.testNext = 0 ∧ t.get F.GRD_STEST_ROT = (d.get F.GRD_STEST_ROT + 1) % 65536) ∧
      (¬ last → t.guard.testNext = i + 1 ∧ t.get F.GRD_STEST_ROT = d.get F.GRD_STEST_ROT) ∧ t.guard.counts = d.guard.counts ∧
      (pass = true → t.posted = d.posted ∧ d.keepsRegs t [R.GRD_STEST]) ∧
      (pass = false → t.get F.GRD_STEST_FAILS = min 255 (d.get F.GRD_STEST_FAILS + 1) ∧ t.get F.GRD_STEST_FIDX = i ∧
        (fails < 2 → t.posted = d.posted ∧ d.keepsRegs t [R.GRD_STEST]) ∧ (2 ≤ fails → latched t 8) ∧
        d.keepsRegs t [R.GRD_STEST, R.GRD_GLATCH])) ∧
    (s.gives .clockHeartbeatFail fun t => latched t 9 ∧ d.keepsRegs t [R.GRD_GLATCH])

/-- R445, R446, R451, R452, R494: LOCK takes the shadow set when its CRC is the one written, and is refused otherwise; the check of the active set shows its
CRC and latches CFG on a mismatch; and a guard bit clears while no comparator of it counts, CFG, STF and CLK never. -/
def Claims.TheConfigurationLocksAndIsChecked : Prop :=
  ∀ (s : State) (w : Word), s.awake = true → s.dev.power.entering = none →
    let d := s.dev
    let crc (l : List Word) : Word := Crc.crc32c (l.map wordBytesLe).flatten
    let shadow := [d.rd R.GRD_OVEN, d.rd (R.GRD_OVEN + 4), d.rd (R.GRD_OVEN + 8), d.rd (R.GRD_OVEN + 12), d.rd (R.GRD_OVEN + 16),
      d.rd (R.GRD_OVEN + 20), d.rd (R.GRD_OVEN + 24), d.rd (R.GRD_OVEN + 28), d.rd (R.GRD_OVEN + 32), d.rd (R.GRD_OVEN + 36),
      if d.isHead then d.rd R.GRD_SAFECFG else 0]
    let expected := if d.bit F.GRD_STAT_LOCKED then d.rd R.GRD_CFGCRC else crc (Guard.resetConfig d.isHead)
    let free := d.touch.find? (fun x => x.addr == R.GRD_GLATCH) = none
    let clears (b : Nat) : Prop := b < 7 ∧ w.getLsbD b = true ∧ ∀ i < 76, Guard.bitOf i = b → nth d.guard.counts i 0 = 0
    (d.bit F.GRD_STAT_LOCKED = true → s.becomes .grdLock d) ∧
    (d.bit F.GRD_STAT_LOCKED = false → crc shadow ≠ d.rd R.GRD_CFGCRC → s.becomes .grdLock (d.put F.GRD_STAT_LRES 2)) ∧
    (d.bit F.GRD_STAT_LOCKED = false → crc shadow = d.rd R.GRD_CFGCRC → s.gives .grdLock fun t => t.guard.active = shadow ∧
      t.bit F.GRD_STAT_LOCKED = true ∧ t.get F.GRD_STAT_LRES = 1 ∧ (∀ i, nth t.guard.counts i 0 = 0) ∧ t.posted = d.posted ∧
      d.keepsRegs t [R.GRD_STAT, R.GRD_GLIVE]) ∧
    (d.bit F.GRD_STAT_ARMED = false → s.becomes .configCrcCheck d) ∧
    (d.bit F.GRD_STAT_ARMED = true → s.gives .configCrcCheck fun t => t.rd R.GRD_ACTCRC = crc d.guard.active ∧
      t.bit F.GRD_STAT_CRCOK = decide (crc d.guard.active = expected) ∧
      (crc d.guard.active = expected → t.posted = d.posted ∧ d.keepsRegs t [R.GRD_ACTCRC, R.GRD_STAT]) ∧
      (crc d.guard.active ≠ expected → t.bitAt F.GRD_GLATCH_GUARD 7 = true ∧
        d.posts t (if d.bitAt F.GRD_GLATCH_GUARD 7 then [] else [(2, 2, 8, 0)])) ∧
      d.keepsRegs t [R.GRD_ACTCRC, R.GRD_STAT, R.GRD_GLATCH]) ∧
    (free → s.gives (.guardLatchClear w) fun t =>
      (∀ b < 10, t.bitAt F.GRD_GLATCH_GUARD b = true ↔ d.bitAt F.GRD_GLATCH_GUARD b = true ∧ ¬ clears b) ∧
      (clears 0 → d.bitAt F.GRD_GLATCH_GUARD 0 = true → t.rd R.GRD_COVL = 0) ∧
      (clears 1 → d.bitAt F.GRD_GLATCH_GUARD 1 = true → t.rd R.GRD_CUVL = 0) ∧
      (clears 2 → d.bitAt F.GRD_GLATCH_GUARD 2 = true → t.get F.GRD_TLAT_HOT = 0) ∧
      (clears 3 → d.bitAt F.GRD_GLATCH_GUARD 3 = true → t.get F.GRD_TLAT_COLD = 0) ∧ t.posted = d.posted ∧
      d.keepsRegs t [R.GRD_GLATCH, R.GRD_COVL, R.GRD_CUVL, R.GRD_TLAT])

/-- R284, R432, R503, R512 to R514, R518, R521: an acknowledgement clears its level, L2 by an authenticated write only and L3 never; the unlock value leaves
Lockout with every level acknowledged, a wrong one is refused; a stamp is read as a pair; and each class's L0 records start anew at the window. -/
def Claims.FaultsAreAcknowledgedAndUnlocked : Prop :=
  ∀ (s : State) (by_ : By) (w : Word) (l : Fin 4), s.awake = true → s.dev.fltNow = [] → s.dev.fltBase = s.dev.flt →
    s.dev.flt.first.length = 4 →
    let d := s.dev
    let f (c : Collector) (l : Nat) : FirstSrc := nth c.first l ⟨false, false, false, false, 0, 0, 0, 0, 0⟩
    let acks (l : Nat) : Prop := (l < 2 ∧ w.getLsbD l = true) ∨ (l = 2 ∧ w.getLsbD 2 = true ∧ by_ = .auth)
    let low (l : Nat) : Word := (f d.flt l).stamp.truncate 32
    let right := ∃ ks, d.keys.ks = some ks ∧ w = Aes.cmac32 ks (wordBytes (d.rd R.SYS_ID) ++ wordBytes d.keys.chal ++ wordBytes (low 3))
    let lko := d.bit F.FLT_STAT_LKO
    (s.gives (.fltAck by_ w) fun t =>
      (∀ l < 4, acks l → f t.flt l = { f d.flt l with valid := false, ovf := false, esc := false }) ∧
      (∀ l < 4, ¬ acks l → f t.flt l = f d.flt l) ∧
      (∀ k l, l < 4 → ((nth t.flt.cls k 0).testBit l = true ↔ (nth d.flt.cls k 0).testBit l = true ∧ ¬ acks l)) ∧
      (w.getLsbD 2 = true → by_ ≠ .auth → t.bit F.FLT_STAT_ACKREF = true) ∧ t.flt.cnt = d.flt.cnt ∧ t.posted = d.posted ∧
      d.keepsRegs t [R.FLT_STAT]) ∧
    (lko = false → s.becomes (.fltUnlock w) d) ∧
    (lko = true → right → s.gives (.fltUnlock w) fun t => t.bit F.FLT_STAT_LKO = false ∧ t.pstate = 2 ∧ t.hearth = d.hearth ∧
      (∀ l < 4, (f t.flt l).valid = false) ∧ t.keys.chal = Config.random d.draws ∧ t.posted = d.posted ∧
      d.keepsRegs t [R.FLT_STAT, R.SYS_PWRSTAT]) ∧
    (lko = true → ¬ right → s.gives (.fltUnlock w) fun t => t.bit F.FLT_STAT_LKO = true ∧ t.pstate = d.pstate ∧ t.flt = d.flt ∧
      (d.get F.SEC_AFAIL_CONSEC + 1 < 16 → t.keys.chal = Config.random d.draws) ∧ (⟨7, 0, 4, 0, false⟩ : FaultEvt) ∈ t.posted ∧
      t.get F.SEC_AFAIL_CONSEC = (if 16 ≤ d.get F.SEC_AFAIL_CONSEC + 1 then 0 else d.get F.SEC_AFAIL_CONSEC + 1)) ∧
    (s.gives (.faultStampRead l) fun t => t.sent = d.sent ++ [.value (R.FLT_FSTL l.val) (low l.val)] ∧
      t.rd (R.FLT_FSTH l.val) = BitVec.ofNat 32 ((f d.flt l.val).stamp.toNat / 2 ^ 32) ∧ d.keepsRegs t [R.FLT_FSTH l.val]) ∧
    (d.cycle < d.log.l0At + 100000000 → s.becomes .l0RateWindow d) ∧
    (d.log.l0At + 100000000 ≤ d.cycle → s.becomes .l0RateWindow { d with
      log := { d.log with l0 := List.replicate 9 0, l0At := d.log.l0At + 100000000 } })

/-- The CRC of a factor set of 209 words (R579): each word least significant byte first, a head's converter words as 0. -/
def Claims.factorCrc (head : Bool) (set : List Word) : Word :=
  Crc.crc32 (((if head then List.replicate 204 (0 : Word) ++ set.drop 204 else set).map wordBytesLe).flatten)

/-- New converter factors are in force in `t` (R570, R572): the generation has advanced, tracking starts afresh from them. -/
def Claims.factorsInForce (d t : Dev) : Prop :=
  t.get F.CAL_GEN_GEN = (d.get F.CAL_GEN_GEN + 1) % 65536 ∧ t.cal.base = t.cal.active ∧ ∀ x ∈ t.cal.trk, x = Track.reset

/-- The active set of `t` is its snapshot, with its CRC in SCRC (R576). -/
def Claims.snapshotTaken (t : Dev) : Prop := t.cal.snap = t.cal.active ∧ t.rd R.CAL_SCRC = Claims.factorCrc t.isHead t.cal.active

/-- R565 to R567, R586: RUN is refused with STATE, HEAD or BUSY in that order, else self-calibration starts, as it does by itself at frequency lock in Start;
the converters are taken once nothing of a sweep or an injection is left in them. -/
def Claims.CalibrationRunsAreJudgedAndStarted : Prop :=
  ∀ (s : State), s.awake = true →
    let d := s.dev
    let c := if d.pstate ≠ 1 ∧ d.pstate ≠ 2 then 2 else if d.isHead then 3 else if d.bit F.CAL_STAT_RUN then 4 else 0
    let auto := d.isHead = false ∧ d.power.calPending = true ∧ d.bit F.SYS_CLKSTAT_FLOCK = true ∧ d.pstate = 1 ∧ d.bit F.CAL_STAT_RUN = false
    let takes := d.bit F.CAL_STAT_RUN = true ∧ d.cal.taken = none ∧ d.inj.pend = false ∧ d.inj.run = false ∧ d.conv.instants = []
    let started (t : Dev) : Prop := t.bit F.CAL_STAT_RUN = true ∧ t.cal.taken = none ∧ t.bit F.BST_STAT_CBUSY = false ∧ t.posted = d.posted ∧
      (d.conv.infl = false → t.conv = d.conv) ∧ (d.conv.infl = true → ∀ i ∈ t.conv.instants, i.injected = true ∨ i.hold ≤ d.cycle) ∧
      (d.diagRuns = true → t.get F.BST_DSTAT_STATE = 5 ∧ t.get F.BST_DSTAT_CAUSE = 8)
    (c ≠ 0 → s.becomes .calCmdRun (d.put F.CAL_STAT_RRES c)) ∧
    (c = 0 → s.gives .calCmdRun fun t => t.get F.CAL_STAT_RRES = 1 ∧ started t) ∧
    (¬ auto → s.becomes .calRunAuto d) ∧
    (auto → s.gives .calRunAuto fun t => t.get F.CAL_STAT_RRES = d.get F.CAL_STAT_RRES ∧ t.power.calPending = false ∧ started t) ∧
    (¬ takes → s.becomes .calConvertersTaken d) ∧
    (takes → s.becomes .calConvertersTaken { d with cal := { d.cal with taken := some d.cycle } })

/-- R567 to R570, R573, R580, R587: 12 ms after the converters were taken the measured factors become active, with the set's metadata, a snapshot and a log
record; the residuals are judged, every stale cause ends, and line 15 posts. -/
def Claims.CalibrationCompletesWithItsFactors : Prop :=
  ∀ (s : State) (factors : List Word) (res : List Byte), s.awake = true → factors.length = 204 → s.dev.cal.active.length = 209 →
    let d := s.dev
    let done := d.bit F.CAL_STAT_RUN = true ∧ ∃ u, d.cal.taken = some u ∧ u + 1200000 ≤ d.cycle
    let tnow := d.get F.CAL_TREF_TNOW
    let bad (c : Nat) : Prop := d.get F.CAL_QLIM_LIM < (nth res c 0).toNat
    (¬ done → s.becomes (.calRunComplete factors res) d) ∧
    (done → s.gives (.calRunComplete factors res) fun t =>
      (∀ i < 204, nth t.cal.active i 0 = nth factors i 0 &&& factorMask i) ∧ (∀ i < 4, nth t.cal.active (204 + i) 0 = nth d.cal.active (204 + i) 0) ∧
      nth t.cal.active 208 0 = BitVec.ofNat 32 (tnow * 65536 + 256) ∧ t.cal.active.length = 209 ∧ t.cal.taken = none ∧
      Claims.factorsInForce d t ∧ Claims.snapshotTaken t ∧ t.bit F.CAL_STAT_RUN = false ∧ t.bit F.CAL_STAT_TRKPAUSE = false ∧
      t.get F.CAL_TREF_TREF = tnow ∧ t.get F.CAL_TREF_TNOW = tnow ∧
      (∀ c < 34, bitsOf (t.rd (R.CAL_QRES (c / 4))).toNat (8 * (c % 4)) 8 = (nth res c 0).toNat) ∧
      (t.bit F.CAL_STAT_QFAIL = true ↔ ∃ c < 34, bad c) ∧ t.get ⟨R.CAL_STALE, 8, 5⟩ = 0 ∧ t.bit F.CAL_STALE_STALE = false ∧
      ((d.bit F.CAL_CTL_QFEN = false ∨ ∀ c < 34, ¬ bad c) → t.posted = d.posted) ∧
      (∀ c < 34, d.bit F.CAL_CTL_QFEN = true → bad c → (∀ b < c, ¬ bad b) → d.posts t [(0, 1, 5, BitVec.ofNat 32 c)]) ∧
      t.bitAt F.SEQ_IP_IP 15 = true ∧
      (d.bit F.CAL_CTL_LOGW = true → d.logFault = false → d.log.hwQ = [] → ∃ r : LogRec, r.ty = 7 ∧ r.body.length = 840 ∧
        r.body.take 836 = (t.cal.active.map wordBytes).flatten ∧ (r ∈ t.log.hwQ ∨ .record r ∈ t.log.staged)) ∧
      d.keepsRegs t ([R.CAL_GEN, R.CAL_SCRC, R.CAL_STAT, R.CAL_TREF, R.CAL_STALE, R.LOG_DROP, R.SEQ_IP] ++ (List.range 9).map R.CAL_QRES))

/-- R575 to R577, R580, R585, R586: the key opens the shadow with the snapshot in it; a factor write fills it and restarts its second; LOCK, and a second
without a write, close it; LOAD takes the newer intact slot; SNAP copies the active set. -/
def Claims.TheShadowIsOpenedFilledAndLocked : Prop :=
  ∀ (s : State) (w : Word) (a : BitVec 16) (i : Nat), s.awake = true →
    let d := s.dev
    let locked := d.bit F.CAL_STAT_LOCKED
    let intact (x : Option CalSlot) (c : CalSlot) : Prop := x = some c ∧ d.mounted = true ∧ c.set.length = 209 ∧
      Claims.factorCrc d.isHead c.set = c.crc
    let none_ (x : Option CalSlot) : Prop := ∀ c, ¬ intact x c
    let loads (c : CalSlot) (n : Nat) : Prop := s.gives .calLoad fun t => t.cal.shadow = c.set ∧ t.cal.wroteAt = d.cycle ∧
      t.cal.active = d.cal.active ∧ t.rd R.CAL_CHECK = c.crc ∧ t.get F.CAL_STAT_LRES = n ∧ d.keepsRegs t [R.CAL_CHECK, R.CAL_STAT]
    (w ≠ 0x43414C21 → s.becomes (.calUnlock w) d) ∧
    (w = 0x43414C21 → s.becomes (.calUnlock w)
      (({ d with cal := { d.cal with shadow := d.cal.snap, wroteAt := d.cycle } }).putB F.CAL_STAT_LOCKED false)) ∧
    (a.toNat = 0xD000 + 4 * i → i < 204 → d.isHead = true → s.becomes (.calShadowWrite a w) d) ∧
    ((a.toNat = 0xD000 + 4 * i ∧ i < 204 ∧ d.isHead = false) ∨ (a.toNat = 0xD340 + 4 * (i - 204) ∧ 204 ≤ i ∧ i < 208) ∨
        (a.toNat = 0xD350 ∧ i = 208) →
      (locked = true → s.gives (.calShadowWrite a w) fun t => t.cal = d.cal ∧ t.bitAt F.SEC_ALM_SRC 3 = true) ∧
      (locked = false → s.becomes (.calShadowWrite a w) { d with
        cal := { d.cal with shadow := upd d.cal.shadow i (fun _ => w &&& factorMask i), wroteAt := d.cycle } })) ∧
    (locked = true ∨ d.cycle < d.cal.wroteAt + 100000000 → s.becomes .calRelock d) ∧
    (locked = false → d.cal.wroteAt + 100000000 ≤ d.cycle → s.becomes .calRelock (d.putB F.CAL_STAT_LOCKED true)) ∧
    s.becomes .calLock (d.putB F.CAL_STAT_LOCKED true) ∧
    (s.gives .calSnap fun t => t.cal.active = d.cal.active ∧ Claims.snapshotTaken t ∧ d.keepsRegs t [R.CAL_SCRC]) ∧
    (locked = true → s.becomes .calLoad (d.put F.CAL_STAT_LRES 4)) ∧
    (locked = false → none_ d.nv.calA → none_ d.nv.calB → s.becomes .calLoad (d.put F.CAL_STAT_LRES 3)) ∧
    (∀ x, locked = false → intact d.nv.calA x → none_ d.nv.calB → loads x 1) ∧
    (∀ x, locked = false → none_ d.nv.calA → intact d.nv.calB x → loads x 2) ∧
    (∀ x y, locked = false → intact d.nv.calA x → intact d.nv.calB y → if x.order < y.order then loads y 2 else loads x 1)

/-- R570, R573, R574, R578: a commit is refused with STATE, BUSY, LOCKED or CHECK in that order; else the parts of CMASK are copied, a snapshot taken and the
block locked; converter factors end NOCAL and TRKLIM and set TREF from the metadata. -/
def Claims.CommitsCopyThePartsOfTheShadow : Prop :=
  ∀ (s : State) (mask : BitVec 2), s.awake = true → s.dev.cal.active.length = 209 → s.dev.cal.shadow.length = 209 →
    let d := s.dev
    let c := if d.pstate ≠ 1 ∧ d.pstate ≠ 2 then 5 else if d.bit F.CAL_STAT_RUN then 4 else if d.bit F.CAL_STAT_LOCKED then 3
      else if Claims.factorCrc d.isHead d.cal.shadow ≠ d.rd R.CAL_CHECK then 2 else 1
    let conv := (mask = 0 ∨ mask.getLsbD 0 = true) ∧ d.isHead = false
    let port := mask = 0 ∨ mask.getLsbD 1 = true
    let temp := bitsOf (nth d.cal.shadow 208 0).toNat 16 16
    (c ≠ 1 → s.becomes (.calCommit mask) (d.put F.CAL_STAT_CRES c)) ∧
    (c = 1 → s.gives (.calCommit mask) fun t => t.get F.CAL_STAT_CRES = 1 ∧ t.bit F.CAL_STAT_LOCKED = true ∧ Claims.snapshotTaken t ∧
      t.cal.active.length = 209 ∧ t.cal.shadow = d.cal.shadow ∧
      (port → ∀ i < 4, nth t.cal.active (204 + i) 0 = nth d.cal.shadow (204 + i) 0) ∧
      (¬ port → ∀ i < 4, nth t.cal.active (204 + i) 0 = nth d.cal.active (204 + i) 0) ∧
      (conv → (∀ i < 204, nth t.cal.active i 0 = nth d.cal.shadow i 0) ∧
        bitsOf (nth t.cal.active 208 0).toNat 16 16 = temp ∧ bitsOf (nth t.cal.active 208 0).toNat 8 8 = 2 ∧ Claims.factorsInForce d t ∧
        t.get F.CAL_TREF_TREF = temp ∧ t.bitAt ⟨R.CAL_STALE, 8, 5⟩ 0 = false ∧ t.bitAt ⟨R.CAL_STALE, 8, 5⟩ 4 = false ∧
        (240 < (signed 16 (d.get F.CAL_TREF_TNOW) - signed 16 temp).natAbs → t.bitAt ⟨R.CAL_STALE, 8, 5⟩ 2 = true)) ∧
      (¬ conv → (∀ i < 204, nth t.cal.active i 0 = nth d.cal.active i 0) ∧ t.get F.CAL_GEN_GEN = d.get F.CAL_GEN_GEN ∧
        nth t.cal.active 208 0 = nth d.cal.active 208 0 ∧ t.rd R.CAL_STALE = d.rd R.CAL_STALE ∧ t.rd R.CAL_TREF = d.rd R.CAL_TREF) ∧
      t.posted = d.posted ∧
      d.keepsRegs t [R.CAL_STAT, R.CAL_SCRC, R.CAL_GEN, R.CAL_STALE, R.CAL_TREF, R.LOG_DROP, R.SEQ_IP])

/-- R571, R572, R574: at each attempt every enabled converter that no acquisition occupies converts zero and reference in turn, and moves one factor by at
most one step after 64 of a kind, once in 10 ms, within its limit; the die temperature judges TEMP. -/
def Claims.TrackingMovesTheFactorsByOneStep : Prop :=
  ∀ (s : State) (moves : List Move) (res : List Byte) (temp : BitVec 16), s.awake = true → s.dev.cal.active.length = 209 →
    s.dev.cal.trk.length = 34 →
    let d := s.dev
    let runs := d.isHead = false ∧ d.bit F.CAL_CTL_TRKEN = true ∧ (d.pstate = 2 ∨ d.pstate = 4) ∧ d.bit F.CAL_STAT_RUN = false ∧
      d.cal.trkAt + 2000 ≤ d.cycle
    let occupied (c : Nat) : Prop := d.cycle < nth d.cal.lastHold c 0 + 180 ∧ nth d.cal.lastHold c 0 ≠ 0
    (¬ runs → s.becomes (.trackingAttempt moves res) d) ∧
    (runs → s.gives (.trackingAttempt moves res) fun t => t.cal.trkAt = d.cycle ∧ t.cal.active.length = 209 ∧
      (∀ c < 34, d.chanEnabled c = false → ∀ j < 6, nth t.cal.active (6 * c + j) 0 = nth d.cal.active (6 * c + j) 0) ∧
      (∀ c < 34, d.chanEnabled c = true → occupied c →
        (nth t.cal.trk c Track.reset).skips = (nth d.cal.trk c Track.reset).skips + 1 ∧
        (nth t.cal.trk c Track.reset).refNext = (nth d.cal.trk c Track.reset).refNext ∧
        ∀ j < 6, nth t.cal.active (6 * c + j) 0 = nth d.cal.active (6 * c + j) 0) ∧
      (∀ c < 34, d.chanEnabled c = true → ¬ occupied c →
        let x := nth d.cal.trk c Track.reset
        let y := nth t.cal.trk c Track.reset
        let g := x.refNext
        let n := (if g then x.refs else x.zeros) + 1
        let due := 64 ≤ n ∧ (if g then x.refAt else x.zeroAt) + 1000000 ≤ d.cycle
        let i := 6 * c + (if g then 1 else 0)
        let val (l : List Word) : Int := if g then ((nth l i 0).toNat : Int) else signed 16 (nth l i 0).toNat
        let lim := if g then d.get F.CAL_TRKLIM_GLIM else d.get F.CAL_TRKLIM_OLIM
        let v := val d.cal.active
        y.skips = 0 ∧ y.refNext = !g ∧ (¬ due → (if g then y.refs else y.zeros) = n) ∧ (due → (if g then y.refs else y.zeros) = 0) ∧
        (¬ due → ∀ j < 6, nth t.cal.active (6 * c + j) 0 = nth d.cal.active (6 * c + j) 0) ∧
        (due → (∀ j < 6, 6 * c + j ≠ i → nth t.cal.active (6 * c + j) 0 = nth d.cal.active (6 * c + j) 0) ∧
          nth t.cal.active i 0 = (BitVec.ofInt 32 (if lim < (v - val d.cal.base).natAbs then v
            else match nth moves c .stay with | .down => v - 1 | .stay => v | .up => v + 1) &&& factorMask i))) ∧
      (t.get F.CAL_TRKCNT_ROUNDS = d.get F.CAL_TRKCNT_ROUNDS ∨
        (t.get F.CAL_TRKCNT_ROUNDS = (d.get F.CAL_TRKCNT_ROUNDS + 1) % 65536 ∧ t.get F.CAL_TREF_TREF = d.get F.CAL_TREF_TNOW ∧
          (∀ x ∈ t.cal.trk, x.zeroDone = false ∧ x.refDone = false) ∧
          ∀ c < 34, bitsOf (t.rd (R.CAL_QRES (c / 4))).toNat (8 * (c % 4)) 8 = (nth res c 0).toNat)) ∧ t.posted = d.posted ∧
      d.keepsRegs t ([R.CAL_STAT, R.CAL_STALE, R.CAL_TRKCNT, R.CAL_TREF, R.SEQ_IP] ++ (List.range 9).map R.CAL_QRES)) ∧
    (s.gives (.dieTempConversion temp) fun t => t.get F.CAL_TREF_TNOW = temp.toNat ∧ t.get F.CAL_TREF_TREF = d.get F.CAL_TREF_TREF ∧
      (240 < (temp.toInt - signed 16 (d.get F.CAL_TREF_TREF)).natAbs → t.bitAt ⟨R.CAL_STALE, 8, 5⟩ 2 = true ∧ t.bit F.CAL_STALE_STALE = true) ∧
      ((temp.toInt - signed 16 (d.get F.CAL_TREF_TREF)).natAbs ≤ 240 → t.rd R.CAL_STALE = d.rd R.CAL_STALE) ∧
      d.keepsRegs t [R.CAL_TREF, R.CAL_STALE, R.SEQ_IP])

/-- R403, R522 to R525, R530, R560: DGO is refused with the first cause that applies, or starts its run; a BT run begins with its transfer into the cell,
whose refusal is cause 7, and an unauthenticated one from the chain has no effect. -/
def Claims.DiagnosticRunsAreJudgedAndStarted : Prop :=
  ∀ (s : State) (by_ : By), s.awake = true → s.dev.bal.shelves.length = 4 →
    let d := s.dev
    let kind := d.get F.BST_DCFG_KIND
    let drw := d.get F.BST_DCFG_DRW
    let cells : Word := BitVec.ofNat 32 (d.get F.BST_DCELL_CELL &&& d.get F.CONV_CHEN_CELL)
    let cur := decide (kind = 0) && d.bit F.CONV_DEVEN_CUR
    let aux := decide (kind = 0) && d.bit F.CONV_DEVEN_AUX
    let tested (g : Nat) : Prop := (g = 0 ∧ cells ≠ 0) ∨ (g = 1 ∧ cur = true) ∨ (g = 2 ∧ aux = true)
    let badDrawer := ∃ g < 3, tested g ∧ (d.get (F.ACC_DCFG_MODE g drw) ≠ 1 ∨ d.get (F.ACC_DCFG_SWP g drw) = 1)
    let pinOn := ∃ k < 4, bitsOf cells.toNat (8 * k) 8 ≠ 0 ∧ (d.shelf k).sel ≠ none
    let sh := d.get F.BST_BTCFG_SH
    let cell := 8 * sh + d.get F.BST_BTCFG_CELL
    let i := d.get F.BST_BTI_I
    let imax := min (d.get (F.BAL_SHLIM_IMAX sh)) 3000
    let idef := min (d.get (F.BAL_SHLIM_IDEF sh)) 3000
    let b := Claims.causeOf d sh cell false
    let b := if b = 0 ∧ (imax = 0 ∨ (i = 0 ∧ idef = 0)) then 9 else b
    let injects := d.inj.pend = true ∨ d.inj.run = true
    let refused (c : Nat) : Dev := (d.put F.BST_DSTAT_STATE 4).put F.BST_DSTAT_CAUSE c
    let may := ¬ (kind = 3 ∧ by_ = .plain) ∧ d.diagRuns = false ∧ ¬ injects
    let may3 := may ∧ d.pstate = 2 ∧ d.isHead = false
    let may5 := may3 ∧ (kind ≠ 3 → ¬ badDrawer) ∧ d.bit F.CAL_STAT_RUN = false
    (kind = 3 → by_ = .plain → s.becomes (.diagGo by_) d) ∧
    (¬ (kind = 3 ∧ by_ = .plain) → d.diagRuns = true → s.becomes (.diagGo by_) (d.put F.BST_DSTAT_CAUSE 1)) ∧
    (¬ (kind = 3 ∧ by_ = .plain) → d.diagRuns = false → injects → s.becomes (.diagGo by_) (refused 1)) ∧
    (may → d.pstate ≠ 2 → s.becomes (.diagGo by_) (refused 2)) ∧
    (may → d.pstate = 2 → d.isHead = true → s.becomes (.diagGo by_) (refused 3)) ∧
    (may3 → kind ≠ 3 → badDrawer → s.becomes (.diagGo by_) (refused 4)) ∧
    (may3 → (kind ≠ 3 → ¬ badDrawer) → d.bit F.CAL_STAT_RUN = true → s.becomes (.diagGo by_) (refused 5)) ∧
    (may5 → kind = 2 → pinOn → s.becomes (.diagGo by_) (refused 6)) ∧
    (may5 → kind = 3 → b ≠ 0 → s.becomes (.diagGo by_) ((refused 7).put F.BST_BTSTAT_BALC b)) ∧
    (may5 → kind = 3 → b = 0 → s.gives (.diagGo by_) fun t => t.get F.BST_DSTAT_STATE = 1 ∧ t.get F.BST_DSTAT_KIND = 3 ∧
      t.get F.BST_DSTAT_CAUSE = 0 ∧ t.get F.BST_BTSTAT_HALF = 1 ∧ t.diag.half = 1 ∧ Claims.workAccepted d t sh cell ∧ (t.shelf sh).dir = true ∧
      (t.shelf sh).q = max 1 (d.get F.BST_BTCFG_Q) ∧ (t.shelf sh).current = min (if i = 0 then idef else i) imax ∧
      d.keepsRegs t [R.BST_DSTAT, R.BST_BTSTAT] ∧ ∀ k, k ≠ sh → t.shelf k = d.shelf k) ∧
    (may5 → kind ≠ 3 → ¬ (kind = 2 ∧ pinOn) → s.gives (.diagGo by_) fun t => t.get F.BST_DSTAT_STATE = 1 ∧ t.get F.BST_DSTAT_KIND = kind ∧
      t.get F.BST_DSTAT_CAUSE = 0 ∧ t.diag.cells = cells ∧ t.diag.cur = cur ∧ t.diag.aux = aux ∧ t.diag.step = 0 ∧ t.diag.start = d.cycle ∧
      t.diag.stepAt = d.cycle ∧ t.diag.left = t.diag.n ∧ t.diag.dacA = d.get F.BST_DDAC_DACA ∧ t.diag.dacB = d.get F.BST_DDAC_DACB ∧
      t.diag.means = [] ∧ (∀ g < 3, tested g → sumLength (d.get (F.ACC_DCFG_K g drw)) ≤ t.diag.n) ∧ t.bal = d.bal ∧
      d.keepsRegs t [R.BST_DSTAT])

/-- R524 to R526, R530, R533: the engine's injections and the steps of a run, the second half of a BT run, and DSTOP. -/
def Claims.DiagnosticStepsRunAndStop : Prop :=
  ∀ (s : State), s.awake = true → s.dev.bal.shelves.length = 4 →
    let d := s.dev
    let g := d.diag
    let kind := d.get F.BST_DSTAT_KIND
    let p := (if kind = 0 then 0 else 4000) + 200 * g.n
    let idle := g.left = 0 ∧ d.inj.pend = false ∧ d.inj.run = false
    let last := (if kind = 2 then 4 else 2) ≤ g.step + 1
    let sh := d.get F.BST_BTCFG_SH
    let cell := 8 * sh + d.get F.BST_BTCFG_CELL
    let settled := d.diagRuns = true ∧ kind ≠ 3 ∧ g.left ≠ 0 ∧ g.stepAt + (if kind = 0 then 0 else 4000) ≤ d.cycle ∧ d.inj.pend = false ∧
      d.inj.run = false
    (d.diagRuns = false → s.becomes .diagStop d ∧ s.becomes .diagStep d ∧ s.becomes .diagInjection d) ∧
    (d.diagRuns = true → s.gives .diagStop fun t => t.get F.BST_DSTAT_STATE = 5 ∧ t.get F.BST_DSTAT_CAUSE = 10 ∧ t.posted = d.posted ∧
      t.inj = d.inj ∧ ((kind = 1 ∨ kind = 2) → t.diag.marked = g.cells ∧ t.diag.markUntil = d.cycle + 4000 ∧ d.keepsRegs t [R.BST_DSTAT]) ∧
      (kind = 3 → Claims.workEnds d t sh 2 ∧ d.keepsRegs t (R.BST_DSTAT :: Claims.endRegs))) ∧
    (¬ settled → s.becomes .diagInjection d) ∧
    (settled → d.bit F.CAL_STAT_RUN = false → d.pstate = 2 → s.gives .diagInjection fun t => t.inj.pend = true ∧ t.inj.run = false ∧
      t.inj.fromDiag = true ∧ t.inj.cells = g.cells ∧ t.inj.cur = g.cur ∧ t.inj.aux = g.aux ∧ t.inj.slot = (if g.step = 0 then 11 else 13) ∧
      t.inj.drawer = g.drw ∧ t.inj.diagCells = g.cells ∧ d.cycle + 23 ≤ t.inj.hold ∧ t.diag.left = g.left - 1 ∧ t.diag.issued = true ∧
      t.posted = d.posted) ∧
    (d.diagRuns = true → kind ≠ 3 → (last ∨ ¬ idle ∨ d.cycle < g.start + (g.step + 1) * p) → s.becomes .diagStep d) ∧
    (d.diagRuns = true → kind ≠ 3 → ¬ last → idle → g.start + (g.step + 1) * p ≤ d.cycle → s.becomes .diagStep { d with
      diag := { g with step := g.step + 1, stepAt := d.cycle, left := g.n, issued := false, means := g.means ++ [d.diagMeans] } }) ∧
    (∀ x ∈ d.diagMeans, x.2 =
      roundHalfAway (d.drawer x.1 g.drw).vis.b.toInt (sumLength (d.get (F.ACC_DCFG_K (groupOf x.1) g.drw)))) ∧
    (d.diagRuns = true → kind = 3 → (g.half ≠ 1 ∨ (d.shelf sh).act = true) → s.becomes .diagStep d) ∧
    (d.diagRuns = true → kind = 3 → g.half = 1 → (d.shelf sh).act = false → d.get (F.BAL_SHSTAT_END sh) ≠ 1 → s.gives .diagStep fun t =>
      t.get F.BST_DSTAT_STATE = 5 ∧ t.get F.BST_DSTAT_CAUSE = 11 ∧ t.get F.BST_BTSTAT_END = d.get (F.BAL_SHSTAT_END sh) ∧
      t.posted = d.posted ∧ d.keepsRegs t [R.BST_DSTAT, R.BST_BTSTAT]) ∧
    (d.diagRuns = true → kind = 3 → g.half = 1 → (d.shelf sh).act = false → d.get (F.BAL_SHSTAT_END sh) = 1 →
      Claims.causeOf d sh cell true = 0 → d.get F.BST_BTI_I ≠ 0 → min (d.get (F.BAL_SHLIM_IMAX sh)) 3000 ≠ 0 → s.gives .diagStep fun t =>
      t.get F.BST_BTSTAT_HALF = 2 ∧ t.diag.half = 2 ∧ Claims.workAccepted d t sh cell ∧ (t.shelf sh).dir = false ∧
      (t.shelf sh).q = max 1 (d.get F.BST_BTCFG_Q) ∧ t.get F.BST_DSTAT_STATE = 1 ∧ t.posted = d.posted ∧ d.keepsRegs t [R.BST_BTSTAT])

/-- R527, R528, R531, R532, R560: a run that reaches its end is judged: codes against their tolerances, each pin OPEN, RES or OK from the two phases of its
parity, a transfer by charge and count; STATE, the events and the one fault of R522 follow. -/
def Claims.DiagnosticRunsEndWithTheirVerdict : Prop :=
  ∀ (s : State), s.awake = true → s.dev.diagRuns = true →
    let d := s.dev
    let g := d.diag
    let kind := d.get F.BST_DSTAT_KIND
    let p := (if kind = 0 then 0 else 4000) + 200 * g.n
    let steps := if kind = 2 then 4 else 2
    let done := steps ≤ g.step + 1 ∧ g.left = 0 ∧ d.inj.pend = false ∧ d.inj.run = false ∧ g.start + (g.step + 1) * p ≤ d.cycle
    let means := g.means ++ [d.diagMeans]
    let want (st ch : Nat) : Int := if kind = 1 then ((if st = 0 then g.dacA else g.dacB) * 16 : Nat) else if st = 1 then 0
      else if ch < 32 then 8000 else if ch = 32 then 6400 else 12412
    let tol (st ch : Nat) : Nat := if kind = 1 then d.get F.BST_DTOL_TDAC else if st = 1 then d.get F.BST_DTOL_TZ
      else if ch < 33 then d.get F.BST_DTOL_TREF else d.get F.BST_DTOL_TAUX
    let fails (ch : Nat) : Prop := ∃ st < 2, ∃ m, (ch, m) ∈ nth means st [] ∧ tol st ch < (m - want st ch).natAbs
    let mean (st c : Nat) : Int := (((nth means st []).find? (fun x => x.1 == c)).map (·.2)).getD 0
    let twoD (pin c : Nat) : Int := if pin % 2 = 0 then mean 0 c - mean 1 c else mean 2 c - mean 3 c
    let bounds (pin c : Nat) : Prop := c < 32 ∧ g.cells.getLsbD c = true ∧ (pin = c ∨ pin = c + 1)
    let isOpen (pin : Nat) : Prop := ∃ c, bounds pin c ∧ 2 * d.get F.BST_OWCFG_OPEN ≤ (twoD pin c).natAbs
    let isOff (pin : Nat) : Prop :=
      ∃ c, bounds pin c ∧ 2 * d.get F.BST_OWCFG_TOL < (twoD pin c - (if pin = c then -640 else 640)).natAbs
    let verdict (t : Dev) (bad : Prop) : Prop := t.bit F.BST_EVT_DDONE = true ∧ (bad → t.get F.BST_DSTAT_STATE = 3 ∧ t.bit F.BST_EVT_DFAIL = true) ∧
      (¬ bad → t.get F.BST_DSTAT_STATE = 2 ∧ t.posted = d.posted)
    let sh := d.get F.BST_BTCFG_SH
    let w := d.shelf sh
    let q := max 1 (d.get F.BST_BTCFG_Q)
    let halfOk := q * 1000000000 ≤ w.qdone.natAbs ∧ w.qdone.natAbs ≤ q * 1000000000 + w.current * w.lastTicks * 10 ∧
      100 * (w.qpred - w.qdone).natAbs ≤ d.get F.BST_BTCFG_TOL * w.qdone.natAbs
    (kind ≠ 3 → ¬ done → s.becomes .diagRunEnd d) ∧
    ((kind = 0 ∨ kind = 1) → done → g.means.length = 1 → s.gives .diagRunEnd fun t =>
      (∀ c < 32, t.bitAt F.BST_DFAIL_CELL c = true ↔ fails c) ∧ (t.bit F.BST_DFAILX_CUR = true ↔ fails 32) ∧
      (t.bit F.BST_DFAILX_AUX = true ↔ fails 33) ∧ verdict t (∃ c < 34, fails c) ∧
      (∀ c < 34, fails c → (∀ b < c, ¬ fails b) → d.posts t [(0, 1, kind + 1, BitVec.ofNat 32 c)]) ∧
      d.keepsRegs t [R.BST_DSTAT, R.BST_DFAIL, R.BST_DFAILX, R.BST_DLAST, R.BST_EVT]) ∧
    (kind = 2 → done → s.gives .diagRunEnd fun t =>
      (∀ c < 32, (t.bitAt F.BST_OWOPEN_PIN c = true ↔ isOpen c) ∧ (t.bitAt F.BST_OWRES_PIN c = true ↔ ¬ isOpen c ∧ isOff c)) ∧
      (t.bit F.BST_OWX_OPEN32 = true ↔ isOpen 32) ∧ (t.bit F.BST_OWX_RES32 = true ↔ ¬ isOpen 32 ∧ isOff 32) ∧
      verdict t (∃ c < 33, isOpen c ∨ isOff c) ∧
      (∀ c < 33, isOpen c ∨ isOff c → (∀ b < c, ¬ isOpen b ∧ ¬ isOff b) → d.posts t [(0, 2, 3, BitVec.ofNat 32 c)]) ∧
      t.diag.marked = g.cells ∧ t.diag.markUntil = d.cycle + 4000 ∧
      d.keepsRegs t [R.BST_DSTAT, R.BST_OWOPEN, R.BST_OWRES, R.BST_OWX, R.BST_DLAST, R.BST_EVT]) ∧
    (kind = 3 → (g.half ≠ 2 ∨ w.act = true) → s.becomes .diagRunEnd d) ∧
    (kind = 3 → g.half = 2 → w.act = false → d.get (F.BAL_SHSTAT_END sh) ≠ 1 → s.gives .diagRunEnd fun t => t.get F.BST_DSTAT_STATE = 5 ∧
      t.get F.BST_DSTAT_CAUSE = 11 ∧ t.posted = d.posted ∧ d.keepsRegs t [R.BST_DSTAT, R.BST_BTSTAT]) ∧
    (kind = 3 → g.half = 2 → w.act = false → d.get (F.BAL_SHSTAT_END sh) = 1 → s.gives .diagRunEnd fun t =>
      verdict t (g.btFail = true ∨ ¬ halfOk) ∧ t.get F.BST_BTSTAT_END = 1 ∧
      (g.btFail = true ∨ ¬ halfOk → d.posts t [(6, 1, 9, BitVec.ofNat 32 (sh * 32 + (8 * sh + d.get F.BST_BTCFG_CELL)))]) ∧
      d.keepsRegs t [R.BST_DSTAT, R.BST_BTSTAT, R.BST_EVT])

/-- R535, R537, R538: the automatic rotation tests the next enabled converter at its interval when the power account allows; a failed test sets the
channel's bit and is an L1 MEAS fault. -/
def Claims.ConvertersAreTestedInRotation : Prop :=
  ∀ (s : State) (pass : Bool), s.awake = true →
    let d := s.dev
    let due := d.isHead = false ∧ d.bit F.BST_STAT_MBUSY = false ∧ d.bit F.BST_STAT_CBUSY = false ∧ d.bit F.BST_STAT_LBUSY = false ∧
      (d.pstate = 2 ∨ d.pstate = 4) ∧ d.powerAccount + 5 ≤ 661 ∧ d.bit F.BST_CCFG_AUTO = true ∧
      d.bist.convAt + max 1 (d.get F.BST_CCFG_INTV) * 1000000 ≤ d.cycle
    let enabled (c : Nat) : Prop := if c < 32 then d.bitAt F.CONV_CHEN_CELL c = true else if c = 32 then d.bit F.CONV_DEVEN_CUR = true
      else d.bit F.CONV_DEVEN_AUX = true
    let ch := d.get F.BST_STAT_CCH
    (¬ due ∨ (∀ c < 34, ¬ enabled c) → s.becomes .converterBistStep d) ∧
    (∀ i < 34, due → enabled ((d.bist.convNext + i) % 34) → (∀ j < i, ¬ enabled ((d.bist.convNext + j) % 34)) →
      s.gives .converterBistStep fun t => t.bit F.BST_STAT_CBUSY = true ∧ t.get F.BST_STAT_CCH = (d.bist.convNext + i) % 34 ∧
        t.bist.convAt = d.cycle ∧ d.keepsRegs t [R.BST_STAT]) ∧
    (d.bit F.BST_STAT_CBUSY = false → s.becomes (.converterBistEnd pass) d) ∧
    (d.bit F.BST_STAT_CBUSY = true → s.gives (.converterBistEnd pass) fun t => t.bit F.BST_STAT_CBUSY = false ∧ t.get F.BST_CSTAT_LCH = ch ∧
      t.bist.convNext = (ch + 1) % 34 ∧ (pass = true → t.posted = d.posted ∧ d.keepsRegs t [R.BST_STAT, R.BST_CSTAT]) ∧
      (pass = false → (if ch < 32 then t.bitAt F.BST_CFAIL_CELL ch = true else if ch = 32 then t.bit F.BST_CFAILX_CUR = true
          else t.bit F.BST_CFAILX_AUX = true) ∧ t.bit F.BST_EVT_CFAIL = true ∧ d.posts t [(0, 1, 4, BitVec.ofNat 32 ch)]) ∧
      d.keepsRegs t [R.BST_STAT, R.BST_CSTAT, R.BST_CFAIL, R.BST_CFAILX, R.BST_EVT])

/-- R536, R539 to R544: the steps of memory BIST: started by the rotation or by MGO, through copy, test and restore, paused and resumed by the power
account; failing reads are recorded and counted, and a failed block is an L1 MEM fault, and remapped with REMAP = 1. -/
def Claims.MemoryBlocksAreTestedInRotation : Prop :=
  ∀ (s : State) (fails : BitVec 16) (word : BitVec 9) (bit : Fin 80) (unc : Bool), s.awake = true →
    let d := s.dev
    let first := min (d.get F.BST_MCFG_FIRST) 48
    let last := max (min (d.get F.BST_MCFG_LAST) 48) first
    let busy := d.bit F.BST_STAT_MBUSY = true ∨ d.bit F.BST_STAT_CBUSY = true ∨ d.bit F.BST_STAT_LBUSY = true
    let due := ¬ busy ∧ d.bit F.BST_MSTAT_RMV = false ∧ d.powerAccount + 40 ≤ 661 ∧ (d.pstate = 2 ∨ d.pstate = 4) ∧
      (d.bist.single = true ∨ (d.bit F.BST_MCFG_AUTO = true ∧ d.bist.memAt + max 1 (d.get F.BST_MCFG_INTV) * 1000000 ≤ d.cycle))
    let next := clampNat first last d.bist.memNext
    let blk := d.get F.BST_STAT_MBLK
    let phase := d.get F.BST_STAT_MPHASE
    let runs := d.bit F.BST_STAT_MBUSY = true ∧ d.bit F.BST_STAT_MPAUSE = false
    let past (n : Nat) : Prop := d.bist.phaseAt + n ≤ d.cycle
    let cmd := Instr.memoryBistPhaseEnd fails word bit unc
    let stepOver (t : Dev) : Prop := t.bit F.BST_STAT_MBUSY = false ∧ t.get F.BST_MSTAT_LBLK = blk ∧
      t.bist.memNext = (if last ≤ blk then first else blk + 1) ∧
      t.get F.BST_MSTAT_ROT = (if last ≤ blk then (d.get F.BST_MSTAT_ROT + 1) % 65536 else d.get F.BST_MSTAT_ROT)
    let testOver := d.bist.stop = true ∨ d.bist.bkgs.length ≤ 1
    let failed := fails ≠ 0 ∨ d.bist.failed = true
    s.becomes .memoryBistGo { d with bist := { d.bist with single := true, memNext := first } } ∧
    (d.bit F.BST_STAT_MBUSY = false → s.becomes .memoryBistStop { d with bist := { d.bist with single := false } }) ∧
    (d.bit F.BST_STAT_MBUSY = true → s.gives .memoryBistStop fun t => t.bist.stop = true ∧ t.bit F.BST_STAT_MPAUSE = false ∧
      d.keepsRegs t [R.BST_STAT]) ∧
    (¬ due → s.becomes .memoryBistStep d) ∧
    (due → s.gives .memoryBistStep fun t => t.bit F.BST_STAT_MBUSY = true ∧ t.get F.BST_STAT_MBLK = next ∧
      t.get F.BST_STAT_MPHASE = (if next = 48 then 1 else 0) ∧ t.bist.memAt = d.cycle ∧ t.bist.phaseAt = d.cycle ∧ t.bist.failed = false ∧
      t.bist.bkgs ≠ [] ∧ d.keepsRegs t [R.BST_STAT]) ∧
    (d.bit F.BST_STAT_MPAUSE = false ∨ 661 < d.powerAccount + 40 → s.becomes .memoryBistResume d) ∧
    (d.bit F.BST_STAT_MPAUSE = true → d.powerAccount + 40 ≤ 661 → s.gives .memoryBistResume fun t => t.bit F.BST_STAT_MPAUSE = false ∧
      t.bist.phaseAt = d.cycle ∧ d.keepsRegs t [R.BST_STAT]) ∧
    (¬ runs → s.becomes cmd d) ∧
    (runs → phase = 0 → ¬ past 512 → d.bist.stop = false → s.becomes cmd d) ∧
    (runs → phase = 0 → past 512 ∨ d.bist.stop = true → s.gives cmd fun t => t.get F.BST_STAT_MPHASE = (if d.bist.stop then 2 else 1) ∧
      t.bist.phaseAt = d.cycle ∧ d.posts t (if unc then [if blk < 16 then (4, 2, 3, BitVec.ofNat 32 (blk / 8)) else (4, 1, 2, 0)] else []) ∧
      d.keepsRegs t [R.BST_STAT]) ∧
    (runs → phase = 1 → ¬ past 15360 → d.bist.stop = false → s.becomes cmd d) ∧
    (runs → phase = 1 → past 15360 ∨ d.bist.stop = true → s.gives cmd fun t =>
      t.get F.BST_MFCNT_CNT = min (d.get F.BST_MFCNT_CNT + fails.toNat) 65535 ∧
      (fails ≠ 0 → d.bit F.BST_MFAIL_VALID = false → t.bit F.BST_MFAIL_VALID = true ∧ t.get F.BST_MFAIL_BLK = blk ∧
        t.get F.BST_MFAIL_WORD = word.toNat ∧ t.get F.BST_MFAIL_BIT = bit.val) ∧
      (fails = 0 ∨ d.bit F.BST_MFAIL_VALID = true → t.rd R.BST_MFAIL = d.rd R.BST_MFAIL) ∧
      (¬ testOver → t.get F.BST_STAT_MPHASE = 1 ∧ t.bist.bkgs = d.bist.bkgs.drop 1 ∧ t.posted = d.posted) ∧
      (testOver → d.posts t (if fails = 0 ∧ d.bist.failed = false then [] else [(4, 1, 5, BitVec.ofNat 32 blk)])) ∧
      (testOver → failed → t.bit F.BST_EVT_MFAIL = true) ∧
      (testOver → failed → d.bit F.BST_MCFG_REMAP = true → blk ≠ 48 → t.bit F.BST_MSTAT_RMV = true ∧ t.get F.BST_MSTAT_RMBLK = blk ∧ stepOver t) ∧
      (testOver → blk = 48 → stepOver t) ∧
      (testOver → blk ≠ 48 → ¬ (failed ∧ d.bit F.BST_MCFG_REMAP = true) → t.get F.BST_STAT_MPHASE = 2 ∧ t.bit F.BST_STAT_MBUSY = true) ∧
      d.keepsRegs t [R.BST_STAT, R.BST_MSTAT, R.BST_MFAIL, R.BST_MFCNT, R.BST_EVT]) ∧
    (runs → 2 ≤ phase → ¬ past 512 → s.becomes cmd d) ∧
    (runs → 2 ≤ phase → past 512 → s.gives cmd fun t => stepOver t ∧ t.posted = d.posted ∧ d.keepsRegs t [R.BST_STAT, R.BST_MSTAT, R.BST_EVT])

/-- R545 to R549: Hearth's logic BIST runs once after reset and on LBH, which names its refusal; secrets are cleared before it, and its end compares the
signature, sets Hearth to its entry values and reloads the keys. Fireguard's own failure latches STF. -/
def Claims.LogicTestsRunOnceAndOnCommand : Prop :=
  ∀ (s : State) (pass : Bool), s.awake = true →
    let d := s.dev
    let auto := d.bit F.BST_STAT_LBUSY = false ∧ d.bit F.BST_LSTAT_HRUN = false ∧ d.power.releasedAt + 10000 ≤ d.cycle ∧ d.pstate = 1
    let c := if d.hearth.run then 1 else if d.bit F.BST_STAT_LBUSY then 2 else if d.pstate ≠ 1 ∧ d.pstate ≠ 2 then 3 else 0
    let started (t : Dev) : Prop := t.bit F.BST_STAT_LBUSY = true ∧ t.bist.lbAt = d.cycle ∧ t.bist.lbCompared = false ∧ t.keys.ks = none ∧
      t.keys.kp = none ∧ t.keys.otp = false ∧ t.bit F.SEC_STAT_KSV = false ∧ t.bit F.SEC_STAT_KPV = false ∧ t.posted = d.posted ∧
      d.keepsRegs t [R.BST_STAT, R.BST_LSTAT, R.SEC_STAT, R.SEC_KVER]
    let early := d.bist.lbAt ≤ d.power.releasedAt + 10000
    let compares := d.bit F.BST_STAT_LBUSY = true ∧ d.bist.lbCompared = false ∧ d.bist.lbAt + (if early then 24000 else 24002) ≤ d.cycle
    let done := d.bit F.BST_STAT_LBUSY = true ∧ (compares ∨ d.bist.lbCompared = true) ∧
      d.bist.lbAt + (if early then 24000 else 26002) ≤ d.cycle
    (¬ auto → s.becomes .hearthLogicBist d) ∧ (auto → s.gives .hearthLogicBist started) ∧
    (c ≠ 0 → s.gives .lbh fun t => t.bit F.BST_LSTAT_HREF = true ∧ t.get F.BST_LSTAT_HCAUSE = c ∧ t.keys = d.keys ∧ d.keepsRegs t [R.BST_LSTAT]) ∧
    (c = 0 → s.gives .lbh fun t => t.bit F.BST_LSTAT_HREF = false ∧ started t) ∧
    (d.bit F.BST_STAT_LBUSY = false → s.becomes (.hearthLogicBistEnd pass) d) ∧
    (d.bit F.BST_STAT_LBUSY = true → ¬ compares → ¬ done → s.becomes (.hearthLogicBistEnd pass) d) ∧
    (compares → s.gives (.hearthLogicBistEnd pass) fun t => t.bit F.BST_LSTAT_HFAIL = !pass ∧ t.hearth.w = List.replicate 16 0 ∧
      t.hearth.pc.toNat % 8192 = 0 ∧ t.hearth.user = false ∧ t.bit F.SEQ_CTL_IEN = false ∧
      t.keys.otp = (d.bit F.SEC_STAT_OTPOK && !d.bit F.SEC_STAT_TEST) ∧ t.keys.ks = d.keys.ks ∧ (d.mounted = false → t.keys.kp = none) ∧
      t.posted = d.posted) ∧
    (done → s.gives (.hearthLogicBistEnd pass) fun t => t.bit F.BST_STAT_LBUSY = false ∧ t.bit F.BST_LSTAT_HRUN = true ∧
      t.bit F.BST_EVT_LDONE = true ∧ (t.bit F.BST_LSTAT_HFAIL = true → t.bit F.BST_EVT_LFAIL = true) ∧ t.hearth.run = (d.bist.enterAfter || d.hearth.run) ∧
      t.posted = d.posted) ∧
    (s.gives (.fireguardLogicBistEnd pass) fun t => t.bit F.BST_LSTAT_GRUN = true ∧ t.bit F.BST_LSTAT_GFAIL = !pass ∧
      (pass = true → t.posted = d.posted ∧ d.keepsRegs t [R.BST_LSTAT]) ∧
      (pass = false → t.bitAt F.GRD_GLATCH_GUARD 8 = true ∧ d.posts t [(2, 2, 9, 0)]) ∧ d.keepsRegs t [R.BST_LSTAT, R.GRD_GLATCH])

/-- R550, R551, R553 to R557: GO starts a scan over CHK_START and CHK_LEN or is refused with BUSY or RANGE, STOP ends it, and its completion writes and
compares the result, whose mismatch posts the fault of CHK_FLT within its limits; an uncorrectable codeword ends it with ECC. -/
def Claims.ScansAreStartedStoppedAndCompleted : Prop :=
  ∀ (s : State) (by_ : By) (w : Word), s.awake = true →
    let d := s.dev
    let busy := d.bit F.CHK_STAT_BUSY = true
    let space := bitsOf w.toNat 3 2
    let start := d.get F.CHK_START_START
    let len := d.get F.CHK_LEN_LEN
    let ok := len ≠ 0 ∧ (space = 0 ∨ space = 2 → start % 4 = 0 ∧ len % 4 = 0) ∧
      start + len ≤ (if space = 0 ∨ space = 2 then 0x10000 else if space = 1 then 0x20000 else 0xF0000000)
    let width (cfg : Word) : Nat := max 8 (bitsOf cfg.toNat 0 5 + 1)
    let rem := d.get F.CHK_REM_REM
    let cfg := d.check.cfg
    let n := width cfg
    let res : Word := BitVec.ofNat 32 (Crc.finish n (cfg.getLsbD 8) (cfg.getLsbD 9) (d.get F.CHK_RUN_RUN))
    let ends (t : Dev) (e : Nat) : Prop := t.bit F.CHK_STAT_BUSY = false ∧ t.get F.CHK_STAT_END = e ∧ t.bitAt F.SEQ_IP_IP 10 = true
    let cls := d.get F.CHK_FLT_CLS
    let lvl := d.get F.CHK_FLT_LVL
    let flt : FaultEvt := ⟨if cls = 2 ∨ 9 ≤ cls then 8 else cls, if d.check.user then min 1 lvl else lvl, d.get F.CHK_FLT_CODE % 128 + 128, res, true⟩
    let matches_ := res.toNat = d.get F.CHK_EXP_EXP % 2 ^ n
    let completes (t : Dev) : Prop := ends t 1 ∧ t.rd R.CHK_RES = res ∧
      (cfg.getLsbD 11 = false → t.bit F.CHK_STAT_MATCH = d.bit F.CHK_STAT_MATCH ∧ t.bit F.CHK_STAT_MISM = d.bit F.CHK_STAT_MISM) ∧
      (cfg.getLsbD 11 = true → (t.bit F.CHK_STAT_MATCH = true ↔ matches_)) ∧ (cfg.getLsbD 11 = true → ¬ matches_ → t.bit F.CHK_STAT_MISM = true) ∧
      (if cfg.getLsbD 11 = true ∧ ¬ matches_ ∧ cfg.getLsbD 12 = true then t.posted = d.posted ++ [flt] else t.posted = d.posted) ∧
      d.keepsRegs t [R.CHK_STAT, R.CHK_RES, R.SEQ_IP]
    (busy → s.becomes (.chkGo by_ w) (d.put F.CHK_STAT_RCAUSE 1)) ∧
    (¬ busy → ¬ ok → s.becomes (.chkGo by_ w) (d.put F.CHK_STAT_RCAUSE 2)) ∧
    (¬ busy → ok → s.gives (.chkGo by_ w) fun t => t.bit F.CHK_STAT_BUSY = true ∧ t.get F.CHK_STAT_SPC = space ∧ t.get F.CHK_STAT_RCAUSE = 0 ∧
      t.get F.CHK_RUN_RUN = (if w.getLsbD 2 then d.get F.CHK_RUN_RUN else d.get F.CHK_INIT_INIT) % 2 ^ width (d.rd R.CHK_CFG) ∧
      t.get F.CHK_POS_POS = start ∧ t.get F.CHK_REM_REM = len ∧ t.check.cfg = d.rd R.CHK_CFG ∧ t.check.poly = d.rd R.CHK_POLY ∧
      t.check.user = false ∧ d.keepsRegs t [R.CHK_STAT, R.CHK_RUN, R.CHK_POS, R.CHK_REM]) ∧
    (¬ busy → s.becomes .chkStop d ∧ s.becomes (.scanEnd false) d ∧ s.becomes (.scanEnd true) d) ∧
    (busy → rem ≠ 0 → (s.gives .chkStop fun t => ends t 2 ∧ t.posted = d.posted ∧ d.keepsRegs t [R.CHK_STAT, R.SEQ_IP]) ∧
      s.becomes (.scanEnd false) d) ∧
    (busy → rem = 0 → s.gives .chkStop completes ∧ s.gives (.scanEnd false) completes) ∧
    (busy → d.get F.CHK_STAT_SPC = 2 → s.becomes (.scanEnd true) d) ∧
    (busy → d.get F.CHK_STAT_SPC ≠ 2 → s.gives (.scanEnd true) fun t => ends t 3 ∧
      d.posts t [if d.get F.CHK_STAT_SPC = 0 then (4, 2, 3, BitVec.ofNat 32 (d.get F.CHK_POS_POS / 0x8000 % 2))
        else if d.get F.CHK_STAT_SPC = 1 then (4, 1, 2, 0) else (4, 1, 6, 0)] ∧ d.keepsRegs t [R.CHK_STAT, R.SEQ_IP])

/-- The device answers a key frame with a STATUS, without authentication (R622, R623): a member's response waits in the forward stream. -/
def Claims.keyReply (d t : Dev) (f : Frame) (status : Byte) : Prop :=
  d.isHead = false → d.side = 0 → d.power.releasedAt ≠ d.cycle → ∃ o : Own, t.chain.ownFwd = d.chain.ownFwd ++ [o] ∧ o.response = true ∧
    o.frame.ty = 4 ∧ o.frame.auth = false ∧ o.frame.dest = 0 ∧ o.frame.seq = f.seq ∧
    o.frame.payload = [status, nth f.payload 0 0] ++ (f.payload.drop 2).take 6

/-- R606, R621 to R623: a key frame is judged under KW over SEC_DNONCE; it installs or erases KP, with a wrong CMAC counted and a wrong OP or KVER refused, and
each one judged draws a new SEC_DNONCE; one that is not a whole, unicast, authenticated key frame changes no key. -/
def Claims.KeyFramesInstallOrEraseTheProvisioningKey : Prop :=
  ∀ (s : State) (p : Port) (f : Frame), s.awake = true →
    let d := s.dev
    let addr := ofBeBytes ((f.payload.drop 4).take 4)
    let mine := d.consumes p f = true ∧ f.ty = 4 ∧ (nth f.payload 0 0).toNat = 0 ∧ R.SEC_PROVBUF 0 ≤ addr ∧ addr ≤ R.SEC_PROVBUF 5
    let six := addr = R.SEC_PROVBUF 0 ∧ ofBeBytes ((f.payload.drop 2).take 2) = 24 ∧ f.payload.length = 32
    let whole := mine ∧ f.dest ≠ 127 ∧ six ∧ f.auth = true ∧ d.bit F.FLT_STAT_LKO = false
    let isKw (k : BitVec 128) : Prop := d.keys.kp = some k ∨
      ((d.keys.kp = none ∨ d.bit F.SEC_STAT_RELEASED = true) ∧ d.keys.otp = true ∧ k = transportKey (d.rd R.SYS_ID))
    let right (k : BitVec 128) : Prop := isKw k ∧ frameMac k f d.keys.dnonce.toNat = f.mac
    let ws := wordsOf (f.payload.drop 8)
    let kver := nth ws 4 0
    let op := nth ws 5 0
    let cmd := Instr.keyFrame p f
    let sameKeys (t : Dev) : Prop := t.keys.kp = d.keys.kp ∧ t.keys.installing = d.keys.installing ∧ t.nv.keyA = d.nv.keyA ∧ t.nv.keyB = d.nv.keyB
    (¬ mine → s.becomes cmd d) ∧
    (mine → f.dest = 127 → s.gives cmd fun t => t.keys = d.keys ∧ t.nv = d.nv ∧ t.chain = d.chain ∧ d.keepsRegs t []) ∧
    (mine → f.dest ≠ 127 → ¬ six → s.gives cmd fun t => t.keys = d.keys ∧ t.nv = d.nv ∧ Claims.keyReply d t f 7) ∧
    (mine → f.dest ≠ 127 → six → f.auth = false → s.gives cmd fun t => t.keys = d.keys ∧ t.nv = d.nv ∧ Claims.keyReply d t f 2) ∧
    (mine → f.dest ≠ 127 → six → f.auth = true → d.bit F.FLT_STAT_LKO = true → s.gives cmd fun t => t.keys = d.keys ∧ t.nv = d.nv ∧
      Claims.keyReply d t f 3 ∧ t.get F.FLT_LKREF_CNT = min (d.get F.FLT_LKREF_CNT + 1) (2 ^ F.FLT_LKREF_CNT.width - 1)) ∧
    (whole → (∀ k, ¬ right k) → d.get F.SEC_AFAIL_CONSEC + 1 < 16 → s.gives cmd fun t => sameKeys t ∧ t.get F.SEC_PROVRES_RES = 2 ∧
      t.get F.SEC_AFAIL_CONSEC = d.get F.SEC_AFAIL_CONSEC + 1 ∧ (d.isHead = false → d.posts t [(7, 0, 1, 0)]) ∧ t.keys.dnonce = Config.random d.draws ∧
      Claims.keyReply d t f 2) ∧
    (whole → (∃ k, right k) → (kver = 0 ∨ (op ≠ 1 ∧ op ≠ 2)) → s.gives cmd fun t => sameKeys t ∧ t.get F.SEC_PROVRES_RES = 3 ∧
      t.keys.ks = d.keys.ks ∧ t.keys.dnonce = Config.random d.draws ∧ (d.isHead = false → t.posted = d.posted) ∧ t.get F.SEC_AFAIL_CONSEC = 0 ∧ Claims.keyReply d t f 0) ∧
    (whole → (∃ k, right k) → kver ≠ 0 → op = 2 → s.gives cmd fun t => t.keys.kp = none ∧ t.keys.ks = none ∧ t.nv.keyA = none ∧
      t.nv.keyB = none ∧ t.get F.SEC_PROVRES_RES = 1 ∧ t.bit F.SEC_STAT_KPV = false ∧ t.bit F.SEC_STAT_KSV = false ∧
      t.bit F.SEC_STAT_ASTOP = true ∧ t.keys.dnonce = Config.random d.draws ∧ (d.isHead = false → t.posted = d.posted) ∧ t.get F.SEC_AFAIL_CONSEC = 0 ∧ Claims.keyReply d t f 0) ∧
    (whole → (∃ k, right k) → kver ≠ 0 → op = 1 → s.gives cmd fun t => t.keys.kp = d.keys.kp ∧ t.get F.SEC_PROVRES_RES = 1 ∧
      (∃ k, right k ∧ t.keys.installing = some (Aes.decrypt k (Aes.ofBytes (((f.payload.drop 8).take 16).map BitVec.toNat)), kver)) ∧
      t.keys.dnonce = Config.random d.draws ∧ (d.isHead = false → t.posted = d.posted) ∧ t.get F.SEC_AFAIL_CONSEC = 0 ∧ Claims.keyReply d t f 0)

/-- R624 to R628: an alarm erases the keys of its policy's step, stops authenticated commands, is an L2 SEC fault and draws new challenges; a wrong test token
is one, a right one enters test mode in Start with secrets cleared, or is refused; and LOCK closes SEC_POLICY. -/
def Claims.AlarmsEraseKeysAndTokensAreJudged : Prop :=
  ∀ (s : State) (hi : Word), s.awake = true →
    let d := s.dev
    let step2 (src : Nat) : Prop := bitsOf (d.rd R.SEC_POLICY).toNat (2 * src) 2 = 2 ∨
      (bitsOf (d.rd R.SEC_POLICY).toNat (2 * src) 2 = 3 ∧ d.bitAt F.SEC_ALM_SRC src = true)
    let alarmed (t : Dev) (src n : Nat) : Prop := t.keys.ks = none ∧ t.bit F.SEC_STAT_KSV = false ∧ t.bit F.SEC_STAT_ASTOP = true ∧
      t.bitAt F.SEC_ALM_SRC src = true ∧ t.get F.SEC_ALM_CNT = min (d.get F.SEC_ALM_CNT + 1) 255 ∧
      (step2 src → t.keys.kp = none ∧ t.nv.keyA = none ∧ t.nv.keyB = none ∧ t.get F.SEC_ALM_STEP = 2 ∧
        d.posts t [(7, 2, 3, BitVec.ofNat 32 src)]) ∧
      (¬ step2 src → t.keys.kp = d.keys.kp ∧ t.nv.keyA = d.nv.keyA ∧ t.get F.SEC_ALM_STEP = 1 ∧ d.posts t [(7, 2, 2, BitVec.ofNat 32 src)]) ∧
      t.keys.dnonce = Config.random n ∧ t.keys.tch = Config.random (n + 1) ∧
      d.keepsRegs t [R.SEC_STAT, R.SEC_ALM, R.SEC_KVER, R.LOG_DROP, R.SEQ_IP]
    let id := d.rd R.SYS_ID
    let kx := Aes.encrypt Config.rootKey (Aes.ofBytes ((beBytes 2 0x5454 ++ wordBytes id ++ beBytes 8 Config.traceCode.toNat ++ [0, 0]).map
      BitVec.toNat))
    let token := (Aes.cmac kx (wordBytes id ++ wordBytes d.keys.tch ++ beBytes 8 Config.traceCode.toNat)).toNat / 2 ^ 64
    let given := hi.toNat * 2 ^ 32 + d.keys.tokL.toNat
    let admitted := d.pstate = 1 ∧ d.hearth.run = false ∧ d.get F.GRD_SAFESTAT_OUT = 0
    (s.gives .glitchDetect fun t => alarmed t 0 d.draws) ∧
    (given ≠ token → s.gives (.testToken hi) fun t => alarmed t 2 (d.draws + 1) ∧ t.bit F.SEC_STAT_TEST = d.bit F.SEC_STAT_TEST) ∧
    (given = token → ¬ admitted → s.becomes (.testToken hi) (d.putB F.SEC_STAT_TREF true)) ∧
    (given = token → admitted → s.gives (.testToken hi) fun t => t.bit F.SEC_STAT_TEST = true ∧ t.bit F.SEC_STAT_TREF = false ∧ t.keys.ks = none ∧
      t.keys.kp = none ∧ t.keys.otp = false ∧ t.posted = d.posted ∧ d.keepsRegs t [R.SEC_STAT, R.SEC_KVER, R.LOG_DROP, R.SEQ_IP]) ∧
    s.becomes .secLock (d.putB F.SEC_STAT_LOCKED true)

/-- R641, R642: the open segment is closed at its age limit or by FLUSH; a program starts when a segment is full and nothing holds it, writes the segment's bytes
at the head of the ring, commits the records that end in it, and the head moves on by 1,024 bytes. -/
def Claims.SegmentsAreClosedAndProgrammed : Prop :=
  ∀ (s : State), s.awake = true →
    let d := s.dev
    let closed : Dev := if d.log.total % 1024 = 0 then d else { d with log := { d.log with staged := d.log.staged ++ [.cut] } }
    let due := ∃ u, d.log.oldest = some u ∧ u + max 1 (d.get F.LOG_CFG_FLUSH) * 10000000 ≤ d.cycle
    let may := d.get F.LOG_STAT_MOUNT = 2 ∧ d.log.programming = none ∧ d.power.powerFail = false ∧ d.bit F.BST_STAT_LBUSY = false ∧
      d.bit F.LOG_STAT_RDONLY = false ∧ d.needsErase = false ∧ 1024 ≤ d.log.total
    let bytes := (Log.bytesOf (logKey (d.rd R.SYS_ID)) d.nv.ct d.log.skip 0 d.log.staged).take 1024
    let cut := Log.split 1024 0 d.log.skip d.log.staged
    s.becomes .logFlush closed ∧ (due → s.becomes .flushTimer closed) ∧ (¬ due → s.becomes .flushTimer d) ∧
    (¬ may → s.becomes .segmentProgramStart d) ∧
    (may → s.givesM .segmentProgramStart fun m t => m.prog = s.mems.prog ∧ m.data = s.mems.data ∧
      (∀ i < bytes.length, Store.read Mems.nandDflt m.nand (d.nv.ofs + i) = nth bytes i 0) ∧
      (∀ a, a < d.nv.ofs ∨ d.nv.ofs + bytes.length ≤ a → Store.read Mems.nandDflt m.nand a = Store.read Mems.nandDflt s.mems.nand a) ∧
      t.log.programming = some d.cycle ∧ t.nv.ofs = (d.nv.ofs + 1024) % 0xF0000000 ∧ t.log.staged = cut.2.1 ∧ t.log.skip = cut.2.2 ∧
      t.nv.starts.length = d.nv.starts.length + cut.1.length ∧ (cut.1 = [] → t.nv.seq = d.nv.seq ∧ t.nv.ct = d.nv.ct) ∧
      (∀ x, cut.1.getLast? = some x → t.nv.seq = x.2.seq ∧ t.bitAt F.SEQ_IP_IP 11 = true) ∧ t.posted = d.posted ∧
      d.keepsRegs t [R.SEC_STAT, R.SEQ_IP])

/-- R613, R623, R642, R650: the end of a program frees the controller and lets an installed key take effect; a failed block takes a spare, and the log is
read-only when none is left. -/
def Claims.ProgramsEndWithTheirBlock : Prop :=
  ∀ (s : State) (ok : Bool), s.awake = true →
    let d := s.dev
    let cmd := Instr.segmentProgramComplete ok
    (d.log.programming = none → s.becomes cmd d) ∧
    (d.log.programming ≠ none → s.gives cmd fun t => t.log.programming = none ∧
      (d.keys.installing = none → t.keys = d.keys) ∧
      (∀ kp kver, d.keys.installing = some (kp, kver) → t.keys.kp = some kp ∧ t.keys.installing = none ∧ t.keys.ks = none ∧
        t.bit F.SEC_STAT_KPV = true ∧ t.bit F.SEC_STAT_ASTOP = true ∧ t.get F.SEC_KVER_KVER = kver.toNat) ∧
      (ok = true → t.nv.spares = d.nv.spares ∧ t.nv.rdonly = d.nv.rdonly ∧ d.keepsRegs t [R.SEC_STAT, R.SEC_KVER, R.SYS_PWRSTAT, R.LOG_DROP, R.SEQ_IP]) ∧
      (ok = false → t.nv.spares = d.nv.spares - 1 ∧ t.nv.rdonly = (d.nv.rdonly || decide (d.nv.spares = 0)) ∧
        t.bit F.LOG_STAT_RDONLY = t.nv.rdonly ∧ t.get F.LOG_STAT_SPARE = t.nv.spares % 64) ∧ t.posted = d.posted ∧
      d.keepsRegs t [R.SEC_STAT, R.SEC_KVER, R.LOG_STAT, R.SYS_PWRSTAT, R.LOG_DROP, R.SEQ_IP])

/-- R57, R457, R605, R613, R644, R645: the mount takes the pair ID, the key and the spares from the system area, and its POWERUP record comes first; a mount
that has not completed in 50 ms fails, is an L1 MEM fault, drops what was held and leaves an unpaired unit without KP. -/
def Claims.TheLogMountsOrFails : Prop :=
  ∀ (s : State) (torn : BitVec 16), s.awake = true → s.dev.twin.held = none →
    let d := s.dev
    let mounting := d.get F.LOG_STAT_MOUNT = 1
    let late := d.log.mountFrom + 5000000
    let v := d.nv
    (¬ mounting ∨ late < d.cycle → s.becomes (.logMountComplete torn) d) ∧
    (mounting → d.cycle ≤ late → s.gives (.logMountComplete torn) fun t => t.get F.LOG_STAT_MOUNT = 2 ∧ t.nv.boots = v.boots + 1 ∧
      t.rd R.LOG_BOOT = BitVec.ofNat 32 (v.boots + 1) ∧ t.get F.LOG_STAT_SPARE = v.spares % 64 ∧ t.bit F.LOG_STAT_RDONLY = v.rdonly ∧
      t.get F.LOG_DROP_TORN = torn.toNat ∧ t.get F.TWN_PAIRID_OWN = v.pairId.toNat ∧ t.bit F.SEC_STAT_RELEASED = v.released ∧
      (v.pairId = 0 ∨ v.released = true → t.bit F.SYS_PWRSTAT_FOREIGN = true) ∧
      (newerKey v.keyA v.keyB = none → t.keys.kp = none) ∧
      (∀ r, newerKey v.keyA v.keyB = some r → t.keys.kp = some (Aes.decrypt Config.rootKey r.wrapped) ∧ t.get F.SEC_KVER_KVER = r.kver.toNat) ∧
      (v.rdonly = false → d.log.staged = [] → ∃ r rest, t.log.staged = .record r :: rest ∧ r.ty = 1 ∧ r.seq = v.seq + 1) ∧ t.posted = d.posted) ∧
    (¬ mounting ∨ d.cycle < late → s.becomes .logMountFail d) ∧
    (mounting → late ≤ d.cycle → s.gives .logMountFail fun t => t.get F.LOG_STAT_MOUNT = 3 ∧ t.log.hwQ = [] ∧ t.log.progQ = [] ∧
      t.get F.LOG_DROP_HW = min (d.get F.LOG_DROP_HW + (d.log.hwQ.length + d.log.progQ.length)) 65535 ∧ d.posts t [(4, 1, 8, 0)] ∧
      t.get F.TWN_PAIRID_OWN = 0 ∧ t.bit F.SEC_STAT_RELEASED = false ∧ t.keys.kp = none ∧ t.bit F.SYS_PWRSTAT_FOREIGN = true)

/-- R634, R648, R649: the oldest block is erased before the head enters it; a segment read with too many corrected bits marks its block for refresh, one that
cannot be corrected is an L1 MEM fault; and a refresh wears its block once. -/
def Claims.BlocksAreErasedScrubbedAndRefreshed : Prop :=
  ∀ (s : State) (blk : Fin 960) (bits : Byte) (unc : Bool), s.awake = true →
    let d := s.dev
    let mounted := d.get F.LOG_STAT_MOUNT = 2
    let size := 0x400000
    let head := d.nv.ofs / size
    let erases := mounted ∧ d.nv.ofs % size = 0 ∧ ∃ r ∈ d.nv.starts, r.ofs / size = head
    let wear (x : Dev) (b : Nat) : Nat := Store.read (fun _ => 0) x.nv.wear b
    (¬ erases → s.becomes .blockEraseComplete d) ∧
    (erases → s.givesM .blockEraseComplete fun m t => m.prog = s.mems.prog ∧ m.data = s.mems.data ∧
      (∀ a, Store.read Mems.nandDflt m.nand a = if a / size = head then 0xFF else Store.read Mems.nandDflt s.mems.nand a) ∧
      t.nv.starts = d.nv.starts.filter (fun r => r.ofs / size != head) ∧ wear t head = wear d head + 1 ∧
      (∀ r, (d.nv.starts.filter fun r => r.ofs / size == head).getLast? = some r → t.nv.tailSeq = r.seq ∧ t.nv.tailCt = r.ct) ∧
      t.posted = d.posted ∧ d.keepsRegs t []) ∧
    (¬ mounted → s.becomes (.logScrub blk bits unc) d ∧ s.becomes (.logRefresh blk) d) ∧
    (mounted →
      (s.gives (.logScrub blk bits unc) fun t => t.get F.LOG_ECC_CORR = min (d.get F.LOG_ECC_CORR + (if bits = 0 then 0 else 1)) 65535 ∧
        t.get F.LOG_ECC_MAXB = max (d.get F.LOG_ECC_MAXB) bits.toNat ∧
        t.get F.LOG_ECC_UNC = min (d.get F.LOG_ECC_UNC + (if unc then 1 else 0)) 255 ∧
        (clampNat 8 40 (d.get F.LOG_CFG_RTHR) < bits.toNat → blk.val ∈ t.log.refresh) ∧
        (clampNat 8 40 (d.get F.LOG_CFG_RTHR) < bits.toNat → blk.val ∉ d.log.refresh → t.bit F.LOG_STAT_RFR = true) ∧
        (bits.toNat ≤ clampNat 8 40 (d.get F.LOG_CFG_RTHR) → t.log.refresh = d.log.refresh) ∧
        d.posts t (if unc then [(4, 1, 6, 0)] else []) ∧ d.keepsRegs t [R.LOG_ECC, R.LOG_STAT]) ∧
      (s.gives (.logRefresh blk) fun t => t.log.refresh = d.log.refresh.erase blk.val ∧ wear t blk.val = wear d blk.val + 1 ∧
        t.bit F.LOG_STAT_RFR = decide (d.log.refresh.erase blk.val ≠ []) ∧ d.keepsRegs t [R.LOG_STAT]))

/-- R346, R652: GO starts a stream that ends at the head of the ring, STOP ends it, and each frame carries up to 248 bytes as a reader sees them, spaced by
SPACE, in LOGX frames of a member or in the host receive queue of a head. -/
def Claims.ReadoutStreamsSendTheLog : Prop :=
  ∀ (s : State) (w : Word), s.awake = true →
    let d := s.dev
    let ring := 0xF0000000
    let from_ := d.get F.LOG_RDSTART_OFS % ring
    let running := d.get F.LOG_RDSTAT_STATE = 1
    let n := min 248 d.log.rdLeft
    let span := (d.nv.ofs + ring - d.nv.tailOfs) % ring
    let seen (i : Nat) : Byte :=
      let a := (d.log.rdPos + i) % ring
      if (a + ring - d.nv.tailOfs) % ring < span then Store.read Mems.nandDflt s.mems.nand a else 0xFF
    let body := beBytes 4 (d.log.rdPos / 4096) ++ beBytes 2 (d.log.rdPos % 4096) ++ beBytes 2 (d.get F.LOG_RDSTAT_XSEQ) ++ (List.range n).map seen
    (s.gives (.logReadoutGo w) fun t => t.log.rdPos = from_ ∧
      t.log.rdLeft = min (d.get F.LOG_RDLEN_LEN) ((d.nv.ofs + ring - from_) % ring) ∧ t.log.rdAt = d.cycle ∧ t.get F.LOG_RDSTAT_XSEQ = 0 ∧
      t.get F.LOG_RDSTAT_STATE = 1 ∧ t.get F.LOG_RDCTL_SPACE = bitsOf w.toNat 16 9 ∧ d.keepsRegs t [R.LOG_RDCTL, R.LOG_RDSTAT]) ∧
    (¬ running → s.becomes .logReadoutStop d) ∧ (running → s.becomes .logReadoutStop (d.put F.LOG_RDSTAT_STATE 3)) ∧
    (¬ running ∨ d.cycle < d.log.rdAt → s.becomes .logReadoutFrame d) ∧
    (running → d.log.rdAt ≤ d.cycle → d.log.rdLeft = 0 → s.becomes .logReadoutFrame (d.put F.LOG_RDSTAT_STATE 2)) ∧
    (running → d.log.rdAt ≤ d.cycle → d.log.rdLeft ≠ 0 → s.gives .logReadoutFrame fun t => t.log.rdPos = (d.log.rdPos + n) % ring ∧
      t.log.rdLeft = d.log.rdLeft - n ∧ t.log.rdAt = d.cycle + clampNat 67 511 (d.get F.LOG_RDCTL_SPACE) * 100 ∧
      t.get F.LOG_RDSTAT_XSEQ = (d.get F.LOG_RDSTAT_XSEQ + 1) % 65536 ∧ t.get F.LOG_RDSTAT_STATE = (if d.log.rdLeft ≤ 248 then 2 else 1) ∧
      (d.isHead = false → (d.side = 0 ∨ d.side = 2) → ∃ o : Own, t.chain.ownFwd = d.chain.ownFwd ++ [o] ∧ o.response = false ∧ o.sent = false ∧
        o.frame.ty = 0xB ∧ o.frame.dest = 0 ∧ o.frame.orig = true ∧ o.frame.src = BitVec.ofNat 7 d.addr ∧ o.frame.payload = body) ∧
      (d.isHead = true → d.hostUsed + 300 ≤ 16384 → ∃ r, t.chain.hrx = d.chain.hrx ++ [r]))

/-- R638, R647, R654, R657: LOG_ERASE is refused with 3 for a wrong key and 2 while busy, and else commits an ERASE record; when that record is the tail, every
other block is erased. A write of UTC makes a TIME record; the SEQ and tag of the head or of the record before the tail are read as one. -/
def Claims.TheLogIsErasedAndItsAnchorsRead : Prop :=
  ∀ (s : State) (w : Word) (tail : Bool), s.awake = true →
    let d := s.dev
    let busy := d.get F.LOG_RDSTAT_STATE = 1 ∨ d.bit F.LOG_STAT_EBUSY = true ∨ d.get F.LOG_STAT_MOUNT ≠ 2 ∨ d.logFault = true
    let anchored (t : Dev) (seq : BitVec 48) (ct : BitVec 128) : Prop :=
      t.sent = d.sent ++ [.value (if tail then R.LOG_TAILSEQL else R.LOG_HEADSEQL) (seq.truncate 32)] ∧
        t.rd (if tail then R.LOG_TAILSEQH else R.LOG_HEADSEQH) = BitVec.ofNat 32 (seq.toNat / 2 ^ 32) ∧
        ∀ i < 4, t.rd (if tail then R.LOG_TAILTAG i else R.LOG_HEADTAG i) = BitVec.ofNat 32 (ct.toNat / 2 ^ (96 - 32 * i))
    (w ≠ 0x45524153 → s.becomes (.logErase w) (d.put F.LOG_STAT_ERES 3)) ∧
    (w = 0x45524153 → busy → s.becomes (.logErase w) (d.put F.LOG_STAT_ERES 2)) ∧
    (w = 0x45524153 → ¬ busy → d.log.hwQ = [] → s.gives (.logErase w) fun t => t.get F.LOG_STAT_ERES = 1 ∧ t.bit F.LOG_STAT_EBUSY = true ∧
      t.log.erasing ≠ none ∧ (∃ r : LogRec, r.ty = 0x0C ∧ r.body.length = 22 ∧ (r ∈ t.log.hwQ ∨ .record r ∈ t.log.staged)) ∧ t.posted = d.posted ∧
      d.keepsRegs t [R.LOG_STAT, R.SEQ_IP]) ∧
    (d.log.erasing = none → s.becomes .logEraseComplete d) ∧
    (∀ seq, d.log.erasing = some seq → (∀ r ∈ d.nv.starts, r.seq ≠ seq) → s.becomes .logEraseComplete d) ∧
    (∀ seq pre r post, d.log.erasing = some seq → d.nv.starts = pre ++ r :: post → r.seq = seq → (∀ x ∈ pre, x.seq ≠ seq) →
      s.givesM .logEraseComplete fun m t => t.log.erasing = none ∧ t.bit F.LOG_STAT_EBUSY = false ∧ t.nv.starts = r :: post ∧
        t.nv.tailOfs = r.ofs ∧ (∀ x, pre.getLast? = some x → t.nv.tailSeq = x.seq ∧ t.nv.tailCt = x.ct) ∧ m.prog = s.mems.prog ∧
        m.data = s.mems.data ∧ (∀ a, t.inLog a = true → Store.read Mems.nandDflt m.nand a = Store.read Mems.nandDflt s.mems.nand a) ∧
        t.posted = d.posted ∧ d.keepsRegs t [R.LOG_STAT]) ∧
    (d.logFault = false → d.log.hwQ = [] → s.gives (.logUtc w) fun t => (∃ r : LogRec, r.ty = 0x0B ∧ r.body = wordBytes w ++ beBytes 6 d.tb.toNat ∧
      (r ∈ t.log.hwQ ∨ .record r ∈ t.log.staged)) ∧ t.posted = d.posted ∧ d.keepsRegs t [R.SEQ_IP]) ∧
    (d.logFault = true → s.gives (.logUtc w) fun t => t.log = d.log ∧ t.get F.LOG_DROP_HW = min (d.get F.LOG_DROP_HW + 1) 65535 ∧
      d.keepsRegs t [R.LOG_DROP]) ∧
    (s.gives (.logHeadseqRead tail) fun t => (d.get F.LOG_STAT_MOUNT ≠ 2 → anchored t 0 0) ∧
      (d.get F.LOG_STAT_MOUNT = 2 → if tail then anchored t d.nv.tailSeq d.nv.tailCt else anchored t d.nv.seq d.nv.ct) ∧ t.log = d.log ∧
      t.nv = d.nv)

/-- R639: a capture ends after 64 publications or 1 s, and its post-fault entries go to the log. -/
def Claims.SnapshotCapturesEnd : Prop :=
  ∀ (s : State), s.awake = true →
    let d := s.dev
    (d.log.cap = none → s.becomes .snapshotCaptureEnd d) ∧
    (∀ c, d.log.cap = some c → c.post.length < 64 → d.cycle < c.began + 100000000 → s.becomes .snapshotCaptureEnd d) ∧
    (∀ c, d.log.cap = some c → (64 ≤ c.post.length ∨ c.began + 100000000 ≤ d.cycle) → s.gives .snapshotCaptureEnd fun t => t.log.cap = none ∧
      t.bit F.LOG_SNAP_ACT = false ∧ t.get F.LOG_SNAP_POST = c.post.length % 128 ∧ t.posted = d.posted ∧
      d.keepsRegs t [R.LOG_SNAP, R.LOG_DROP, R.SEQ_IP])

/-! ### The machine as a whole: its step, its clock, its memories, its faults, its registers -/

/-- The step of the block takes the front of the queue, which is first in, first out: the command executes on the state with the rest of the
queue. -/
def Claims.AStepRunsTheFrontCommand : Prop :=
  ∀ (s : State) (c : Instr) (rest : List Instr), s.pending = c :: rest → step s = exec c { s with pending := rest }

/-- Every command answers a next state, in every state: no command of the MN3248 is refused, and none ends in a fault of the model. -/
def Claims.EveryCommandAnswersANextState : Prop := ∀ (c : Instr) (s : State), ∃ t : State, exec c s = .next t

/-- The clock (R10, R195; that an empty queue is one system cycle is the model's DESIGN CHOICE): the timebase counts the cycle unless reset is held
or the device is Banked, a free-running cycle count always goes on, and the memories stay. Nothing is queued while reset is held. -/
def Claims.AnEmptyQueueIsOneCycle : Prop :=
  ∀ s : State, s.pending = [] → ∃ t : State, step s = .next t ∧ t.mems = s.mems ∧ t.dev.cycle = s.dev.cycle + 1 ∧
    t.dev.tb = (if s.awake then s.dev.tb + 1 else s.dev.tb) ∧ t.dev.power.released = s.dev.power.released ∧
    (s.dev.power.released = false → t.pending = [] ∧ t.dev.regs = s.dev.regs)

/-- R588, R594, R55: while reset is held only the six commands of the supply and of reset act; in Banked only those, Fireguard, the wake events and
tones, the ember watch, the supply warning, SLEEP, and the log controller finishing its work. Every other command leaves the state as it is. -/
def Claims.CommandsWithoutPowerHaveNoEffect : Prop :=
  ∀ (c : Instr) (s : State),
    let supply : Bool := match c with
      | .powerOnReset .. | .resetRelease _ | .buckThreshold _ | .startupRegulatorStart | .vbusRise | .vbusUndervoltage => true
      | _ => false
    let banked : Bool := match c with
      | .fireguardStrobe .. | .comparatorSelfTest .. | .configCrcCheck | .emberCheck .. | .emberCheckEnd | .wakeToneRelay _ | .wakeToneHead _
      | .lineTrafficWake _ | .csnWake | .vbusPowerFail | .vbusRecover | .sleep | .segmentProgramStart | .segmentProgramComplete _
      | .flushTimer | .blockEraseComplete | .logEraseComplete => true
      | _ => false
    (s.dev.power.released = false → supply = false → exec c s = .next s) ∧
    (s.awake = false → supply = false → banked = false → exec c s = .next s)

/-- The end of a cycle on which no fault and no publication waits moves only line 11, the pause of a memory step, the fault symbol, the log's
queues, and the next message of a handover. -/
def Claims.TheEndOfAQuietCycleMovesOnlyItsParts : Prop :=
  ∀ (s : State) (c : Instr) (d : Dev), s.becomes c d → d.calm →
    ∃ t : Dev, exec c s = .next { s with dev := t } ∧ d.cycleEnds t

/-- The three memories keep their canonical form over every step, so that equal memories are equal data. -/
def Claims.MemoriesStayCanonical : Prop :=
  ∀ s t : State, s.mems.wf = true → step s = .next t → t.mems.wf = true

/-- Every list of the device that stands for a fixed number of like things keeps its length over every step. -/
def Claims.ListsKeepTheirLengths : Prop :=
  ∀ s t : State, s.dev.lengths = Dev.reset.lengths → step s = .next t → t.dev.lengths = Dev.reset.lengths

/-- R679, R608, R85, R233, R313, R502: the machine right after power-on reset. Every register reads its reset value, Hearth is halted with its registers 0,
no fault is held, no command waits, reset is held, and the memories list nothing, in canonical form. (Strapped as a primary member: DESIGN CHOICE.) -/
def Claims.ResetLeavesTheResetValues : Prop :=
  (∀ a, State.reset.dev.rd a = resetWord a) ∧ State.reset.mems.wf = true ∧ State.reset.mems.prog = [] ∧ State.reset.mems.data = [] ∧
  State.reset.mems.nand = [] ∧ State.reset.pending = [] ∧ State.reset.dev.power.released = false ∧ State.reset.awake = false ∧
  State.reset.dev.hearth.run = false ∧ State.reset.dev.hearth.w = List.replicate 16 0 ∧ State.reset.dev.hearth.rxq = [] ∧
  State.reset.dev.hearth.wbuf = [] ∧ State.reset.dev.flt.unack = 0 ∧ State.reset.dev.keys.kp = none ∧ State.reset.dev.keys.ks = none ∧
  State.reset.dev.get F.SYS_PWRSTAT_STATE = 1 ∧ State.reset.dev.get (F.ACC_DCFG_MODE 0 0) = 1

/-- R503 to R508, R245: how the one fault of a cycle is latched. Its level is raised while its class holds an unacknowledged fault; the first
source of a level is kept and later ones only set OVF; the counter of the level counts; line 12 posts; and a fault of L1 and above makes a discard. -/
def Claims.AFaultIsLatchedAtItsEffectiveLevel : Prop :=
  ∀ (d : Dev) (e : FaultEvt), d.posted = [e] → d.fltNow = [] → d.fltBase = d.flt → d.lengths = Dev.reset.lengths → e.cls < 9 → e.lvl < 4 →
    let held := nth d.flt.cls e.cls 0
    let m := if held.testBit 1 then 1 else if held.testBit 2 then 2 else 3
    let eff := if e.lvl = 0 ∨ (held.testBit 1 || held.testBit 2 || held.testBit 3) = false then e.lvl else max e.lvl (min (m + 1) 3)
    let old := nth d.flt.first eff ⟨false, false, false, false, 0, 0, 0, 0, 0⟩
    let t := d.settle
    nth t.flt.first eff old = (if old.valid then { old with ovf := true } else
      ⟨true, false, decide (e.lvl < eff), e.sw, e.lvl, e.cls, e.code, e.info, d.tb + 1⟩) ∧
    (∀ l, l ≠ eff → nth t.flt.first l old = nth d.flt.first l old ∧ nth t.flt.cnt l 0 = nth d.flt.cnt l 0) ∧
    nth t.flt.cnt eff 0 = min (nth d.flt.cnt eff 0 + 1) 255 ∧
    nth t.flt.cls e.cls 0 = (if eff = 0 then held else held ||| 2 ^ eff) ∧ (∀ k, k ≠ e.cls → nth t.flt.cls k 0 = nth d.flt.cls k 0) ∧
    (1 ≤ eff → t.flt.gen = d.flt.gen + 1 ∧ t.flt.dcnt = min (d.flt.dcnt + 1) 255) ∧
    (eff = 0 → t.flt.gen = d.flt.gen ∧ t.flt.dcnt = d.flt.dcnt ∧ t.flt.scope = d.flt.scope) ∧
    t.bitAt F.SEQ_IP_IP 12 = true ∧ t.posted = []

/-- R47 to R49, R253, R509, R516: what the latched level does. L0 leaves the work alone; L2 and L3 discard all of it and assert the fault symbol; L3 enters
Lockout and halts Hearth, as a fault of class SEQ does from L1 on. -/
def Claims.LevelsDiscardAndReact : Prop :=
  ∀ (d : Dev) (e : FaultEvt), d.posted = [e] → d.pub0 = [] → d.fltNow = [] → d.fltBase = d.flt → d.lengths = Dev.reset.lengths →
    e.cls < 9 → e.lvl < 4 →
    let t := d.settle
    (e.lvl = 0 → t.conv = d.conv ∧ t.inj = d.inj ∧ t.drawers = d.drawers ∧ t.hearth = d.hearth ∧ t.chain = d.chain ∧ t.load = d.load) ∧
    (1 ≤ e.lvl → e.cls = 8 → t.hearth.run = false) ∧
    (1 ≤ e.lvl → e.cls = 0 → t.conv.infl = false ∧ t.conv.armed = false ∧ t.inj.pend = false ∧ t.inj.run = false) ∧
    (2 ≤ e.lvl → t.conv.infl = false ∧ t.conv.armed = false ∧ t.inj.pend = false ∧ t.inj.run = false ∧
      (∀ i, i < 136 → (nth d.drawers i Drawer.reset).work.isOpen = true → (nth t.drawers i Drawer.reset).work.discarded = true) ∧
      (∀ k, k < 4 → (t.shelf k).act = false ∨ (t.shelf k).phase = .stopping) ∧
      t.chain.htx = [] ∧ t.chain.outst = [] ∧ t.log.progQ = [] ∧ t.bit F.FLT_STAT_FRSYM = true ∧
      t.bit F.SEQ_RUNSTAT_PEND = false ∧ (d.isHead = true → t.bitAt F.GRD_SAFESTAT_SRC 3 = true ∧ t.bit F.GRD_SAFESTAT_DEM = true)) ∧
    (e.lvl = 3 → t.bit F.FLT_STAT_LKO = true ∧ (d.bit F.FLT_STAT_LKO = false → t.get F.SYS_PWRSTAT_STATE = 4 ∧ t.hearth.run = false))

/-- R12, R13: a software write of a register's fields. RW fields take the word, and WL fields while their block is not locked; a 1 clears a bit of a
W1C field that hardware has not set in this cycle; the other access types ignore it, and so does every other register. -/
def Claims.FieldWritesFollowTheAccessType : Prop :=
  ∀ (d : Dev) (a : Nat) (w : Word) (locked : Bool) (r : RegDesc), descAt a = some r →
    let t := d.writeFields a w locked
    (∀ f ∈ r.fields,
      let fl : Fld := ⟨a, f.lo, f.width⟩
      let hw (i : Nat) : Bool := d.touch.any (fun x => x.addr == a && x.mask.getLsbD i)
      (f.acc = .rw ∨ (f.acc = .wl ∧ locked = false) → t.get fl = w.toNat / 2 ^ f.lo % 2 ^ f.width) ∧
      (f.acc = .ro ∨ f.acc = .wo ∨ f.acc = .rc ∨ (f.acc = .wl ∧ locked = true) → t.get fl = d.get fl) ∧
      (f.acc = .w1c → (d.touch.map (·.addr)).Nodup → ∀ i < f.width,
        t.bitAt fl i = (d.bitAt fl i && !(w.getLsbD (f.lo + i) && !hw (f.lo + i))))) ∧
    (∀ b, b ≠ a → t.rd b = d.rd b) ∧ t = { d with regs := t.regs }

/-- R12, R17: a software read of a register that hardware has not touched in this cycle. A WO field reads 0, an RC field reads its value and then
holds 0, every other field reads its value and keeps it; an address without a register reads 0 and keeps everything. -/
def Claims.FieldReadsFollowTheAccessType : Prop :=
  ∀ (d : Dev) (a : Nat), (∀ x ∈ d.touch, x.addr ≠ a) →
    let v := (d.readFields a).1
    let t := (d.readFields a).2
    (descAt a = none → v = 0 ∧ t = d) ∧
    (∀ r, descAt a = some r →
      (∀ f ∈ r.fields,
        let fl : Fld := ⟨a, f.lo, f.width⟩
        v.toNat / 2 ^ f.lo % 2 ^ f.width = (if f.acc = .wo then 0 else d.get fl) ∧
        t.get fl = (if f.acc = .rc then 0 else d.get fl)) ∧
      (∀ b, b ≠ a → t.rd b = d.rd b) ∧ t = { d with regs := t.regs })

/-- R254 to R285: words of each format, written out field by field, and the commands that they spell; a word with a reserved field that is not zero,
and one with an unassigned opcode, are illegal. -/
def Claims.InstructionWordsSpellTheirCommand : Prop :=
  Imvia.decode (0b000001#6 ++ 1#4 ++ 2#4 ++ 3#4 ++ 0#8 ++ 0x00#6) = .add 1 2 3 ∧
  Imvia.decode (0b000001#6 ++ 0#4 ++ 2#4 ++ 3#4 ++ 0#8 ++ 0x17#6) = .cmp 2 3 ∧
  Imvia.decode (0b000010#6 ++ 1#4 ++ 2#4 ++ 0x3FFFF#18) = .addi 1 2 0x3FFFF ∧
  Imvia.decode (0b001000#6 ++ 5#4 ++ 0#6 ++ 0x1234#16) = .movl 5 0x1234 ∧
  Imvia.decode (0b010000#6 ++ 1#4 ++ 14#4 ++ 8#18) = .ldw 1 14 8 .ok ∧
  Imvia.decode (0b010111#6 ++ 1#4 ++ 14#4 ++ 8#18) = .stb 1 14 8 .ok ∧
  Imvia.decode (0b011010#6 ++ 0#10 ++ 0x8003#16) = .push 0x8003 ∧
  Imvia.decode (0b100000#6 ++ 9#4 ++ 0#8 ++ 0x3FFF#14) = .branch 9 0x3FFF ∧
  Imvia.decode (0b100010#6 ++ 0#4 ++ 15#4 ++ 0#4 ++ 0#8 ++ 0x00#6) = .jr 15 ∧
  Imvia.decode (0b101000#6 ++ 1#4 ++ 2#4 ++ 0#4 ++ 0#3 ++ 4#3 ++ 2#2 ++ 1#1 ++ 0#1 ++ 7#4) = .measInj 1 2 2 true false 7 ∧
  Imvia.decode (0b101011#6 ++ 1#4 ++ 0#4 ++ 33#6 ++ 2#2 ++ 0#1 ++ 0#6 ++ 5#3) = .draw 1 0 33 2 false 5 ∧
  Imvia.decode (0b101110#6 ++ 1#4 ++ 2#4 ++ 3#2 ++ 5#3 ++ 1#1 ++ 0#2 ++ 0#10) = .balTransfer 1 2 3 5 true ∧
  Imvia.decode (0b110001#6 ++ 0#4 ++ 2#4 ++ 0#4 ++ 5#4 ++ 2#2 ++ 0x90#8) = .raise 2 5 2 0x90 ∧
  Imvia.decode (0b000001#6 ++ 1#4 ++ 2#4 ++ 3#4 ++ 1#8 ++ 0x00#6) = .illegalOpcode 0x0448C040 ∧
  Imvia.decode 0 = .illegalOpcode 0

/-- R254 to R285: no bit of an instruction word is dropped: two words that spell the same command are the same word, but for SH of a BAL that stops
every shelf, which the model does not read (DEDUCED). -/
def Claims.NoBitOfAnInstructionWordIsDropped : Prop :=
  ∀ v w : Word, Imvia.decode v = Imvia.decode w →
    v = w ∨ ∃ rd, Imvia.decode v = .balStopAll rd ∧ v ||| 0x00030000 = w ||| 0x00030000

/-- R658: the cycle counter counts every system cycle outside reset and Banked, holds its value in Banked, is cleared at power-on reset and at a warm
reset, and no software write changes it. -/
def Claims.TheCycleCounterCounts : Prop :=
  ∀ s : State,
    (s.pending = [] → ∃ t, step s = .next t ∧ (s.awake = true → t.dev.perf.cyc = s.dev.perf.cyc + 1) ∧
      (s.dev.power.released = true → s.dev.banked = true → t.dev.perf.cyc = s.dev.perf.cyc)) ∧
    (∀ a b c x y z, ∃ t, exec (.powerOnReset a b c x y z) s = .next t ∧ t.dev.perf.cyc = 0) ∧
    (s.awake = true → ∃ t, exec (.warmReset 0x52535421) s = .next t ∧ t.dev.perf.cyc = 0) ∧
    (∀ who w, ∃ t, exec (.registerWrite who (BitVec.ofNat 16 R.PRF_CYCL) w) s = .next t ∧ t.dev.perf.cyc = s.dev.perf.cyc) ∧
    (∀ who w, ∃ t, exec (.registerWrite who (BitVec.ofNat 16 R.PRF_CYCH) w) s = .next t ∧ t.dev.perf.cyc = s.dev.perf.cyc)

/-- No fault and no publication waits for the end of a cycle when a step has ended. -/
def Claims.NothingWaitsAfterAStep : Prop :=
  ∀ s t : State, s.dev.calm → step s = .next t → t.dev.calm

/-! ### The obligations -/

/-- A step executes the command at the front of the queue on the state with the rest of the queue -/
def Obligations.AStepRunsTheFrontCommand : Prop :=
  Claims.AStepRunsTheFrontCommand

/-- A step on an empty queue is one system cycle (the model's choice, log entry 2) -/
def Obligations.AnEmptyQueueIsOneCycle : Prop :=
  Claims.AnEmptyQueueIsOneCycle

/-- Every command answers a next state, and leaves the state as it is where the device is not powered for it -/
def Obligations.EveryCommandHasAnEffectOrNone : Prop :=
  Claims.EveryCommandAnswersANextState ∧ Claims.CommandsWithoutPowerHaveNoEffect

/-- What the end of a cycle may move, and that no fault and no publication waits after a step (log entry 6) -/
def Obligations.ACycleEndsWithNothingWaiting : Prop :=
  Claims.TheEndOfAQuietCycleMovesOnlyItsParts ∧ Claims.NothingWaitsAfterAStep

/-- The three memories keep their canonical form over every step -/
def Obligations.MemoriesStayCanonical : Prop :=
  Claims.MemoriesStayCanonical

/-- Every list that stands for a fixed number of like things keeps its length over every step -/
def Obligations.ListsKeepTheirLengths : Prop :=
  Claims.ListsKeepTheirLengths

/-- What State.reset holds: every register at its reset value (the strapping is the model's choice, log entry 10) -/
def Obligations.ResetLeavesTheResetValues : Prop :=
  Claims.ResetLeavesTheResetValues

/-- How a fault is latched at its effective level, acknowledged by level, and how Lockout is left -/
def Obligations.FaultsAreLatchedAndAcknowledged : Prop :=
  Claims.AFaultIsLatchedAtItsEffectiveLevel ∧ Claims.FaultsAreAcknowledgedAndUnlocked

/-- What each latched level discards, stops and asserts -/
def Obligations.FaultLevelsDiscardAndReact : Prop :=
  Claims.LevelsDiscardAndReact

/-- Reads and writes of register fields follow the access type of each field -/
def Obligations.RegisterFieldsFollowTheirAccessTypes : Prop :=
  Claims.FieldWritesFollowTheAccessType ∧ Claims.FieldReadsFollowTheAccessType

/-- Imvia words written out from the formats spell the commands they stand for -/
def Obligations.InstructionWordsSpellTheirCommand : Prop :=
  Claims.InstructionWordsSpellTheirCommand

/-- Two Imvia words that spell the same command are the same word, but for one field of BAL (log entry 36) -/
def Obligations.NoBitOfAnInstructionWordIsDropped : Prop :=
  Claims.NoBitOfAnInstructionWordIsDropped

/-- The cycle counter counts every system cycle, holds in Banked, and is cleared at both resets -/
def Obligations.TheCycleCounterCountsSystemCycles : Prop :=
  Claims.TheCycleCounterCounts

/-- The arithmetic, logic, shift, move and select instructions: the whole next state of each -/
def Obligations.ArithmeticGivesResultAndFlags : Prop :=
  Claims.AdditionAndSubtractionGiveResultAndFlags ∧ Claims.LogicAndShiftsGiveResultAndFlags ∧
  Claims.ProductsExtremaAndComparisonsGiveResultAndFlags ∧ Claims.ImmediateAndSelectInstructionsGiveResultAndFlags

/-- Loads read data SRAM, and bad addresses or codewords trap without effect (byte order: log entry 15; narrow stores: 16) -/
def Obligations.LoadsReadOrTrap : Prop :=
  Claims.LoadsReadDataSram ∧ Claims.BadDataAddressesRaiseAddrWithoutEffect

/-- Stores, PUSH and POP write their bytes and registers and nothing else (byte order: log entry 15) -/
def Obligations.StoresAndStackWriteTheirBytesOnly : Prop :=
  Claims.StoresWriteTheirBytesOnly ∧ Claims.PushAndPopMoveTheMaskedRegisters

/-- What each condition code tests in a branch and in CSEL -/
def Obligations.ConditionCodesTestTheFlags : Prop :=
  Claims.ConditionCodesTestTheFlags

/-- Branches, calls, jumps and RETI set the program counter and what goes with it -/
def Obligations.ControlTransfersAndReturns : Prop :=
  Claims.ControlTransfersSetTheProgramCounter ∧ Claims.ReturnRestoresAndSupervisorYieldWaits

/-- Exceptions, traps and interrupts save the context and enter their vector, and a damaged fetch halts Hearth (counting: log entry 37) -/
def Obligations.ExceptionsAndInterruptsEnterTheirVector : Prop :=
  Claims.ExceptionsSaveTheContextAndEnterTheirVector ∧ Claims.TrapsTakeTheirException ∧ Claims.InterruptEntryTakesTheLowestLine ∧
  Claims.FetchUncorrectableHaltsHearth

/-- LDR and STR at the register port (order of its tests: log entry 28) -/
def Obligations.RegisterPortReadsWritesAndTraps : Prop :=
  Claims.RegisterPortReadsAndPostsWrites ∧ Claims.RegisterPortTrapsWithoutEffect

/-- WAITT and WAITPH fix their target at issue and end by an event or the target (counting: log entry 37) -/
def Obligations.WaitsFixTheirTargetAndEnd : Prop :=
  Claims.WaitsFixTheirTargetAtIssue ∧ Claims.WaitsEndByEventOrTarget

/-- MEAS, DRAW and BAL act on the sweep engine, the drawers and the shelves -/
def Obligations.DeviceInstructionsActOnTheirUnits : Prop :=
  Claims.MeasActsAsConvCmd ∧ Claims.DrawReadsOneResultWhole ∧ Claims.BalInstructionsCommandTheShelves

/-- SEND queues frames from data SRAM and RECV takes them there (byte order: log entry 15; order of refusals: 38) -/
def Obligations.SendAndRecvMoveFrames : Prop :=
  Claims.SendQueuesOrRefuses ∧ Claims.RecvTakesTheOldestFrame

/-- CRC, LOG and RAISE, and the end of a stalled instruction (refused CRC: log entry 39) -/
def Obligations.CrcLogRaiseAndStalledInstructionsComplete : Prop :=
  Claims.CrcLogAndRaiseAct ∧ Claims.StalledInstructionsComplete

/-- Power-on reset, reset release and warm reset (what a warm reset keeps: log entry 70; a new die: 23) -/
def Obligations.ResetsStartTheDeviceAnew : Prop :=
  Claims.PowerOnResetLatchesTheStraps ∧ Claims.ResetReleaseStartsTheDevice ∧ Claims.WarmResetKeepsWhatItNames

/-- The steps of start-up, the scrub, and the events of the supply (frequency lock: log entry 44; re-raised faults: 71) -/
def Obligations.StartUpAndSupplyEventsAct : Prop :=
  Claims.StartUpStepsActAtTheirTimes ∧ Claims.ScrubReportsItsCodewords ∧ Claims.SupplyEventsActOnTheDevice

/-- Entry to Banked, its ember checks, and the wake (the model's readings: log entries 68, 69, 65) -/
def Obligations.BankedIsEnteredWatchedAndLeft : Prop :=
  Claims.EntryToBankedFollowsItsSteps ∧ Claims.WakeEventsLeaveBanked ∧ Claims.HeadWakeAndReleaseAct ∧
  Claims.EmberChecksWatchTheCells

/-- A software launch starts a sweep or counts a miss, and the engine obeys its commands (settings of the cycle: log entry 43) -/
def Obligations.SweepsLaunchAndObeyTheirCommands : Prop :=
  Claims.SoftwareLaunchStartsOrCountsAMiss ∧ Claims.SweepCommandsActOnTheEngine

/-- Instants of a sweep are acquired and complete, and SUM drawers publish (cycle of publication: log entry 7) -/
def Obligations.SweepsAcquireCompleteAndPublish : Prop :=
  Claims.AcquisitionTakesTheNextInstant ∧ Claims.CompletionEndsTheSweepWithItsLastInstant ∧ Claims.SumDrawersAccumulateAndPublish

/-- Injected conversions are requested, start and complete, and quiet windows stop the shelves -/
def Obligations.InjectionsAndQuietWindows : Prop :=
  Claims.InjectionRequestsAreTakenOrRefused ∧ Claims.InjectionsStartAndComplete ∧ Claims.QuietWindowsStopTheShelves

/-- Windows open and close at period boundaries, drawer commands drop accumulations, and result reads latch and clear (log entry 7) -/
def Obligations.WindowsDrawerCommandsAndResultReads : Prop :=
  Claims.BoundariesOpenAndCloseWindows ∧ Claims.DrawerCommandsDropAccumulations ∧ Claims.ResultReadsLatchAndClear

/-- Reads of the time registers, the arming of compares, and captures -/
def Obligations.TimeReadsComparesAndCaptures : Prop :=
  Claims.TimeReadsLatchTheirPairs ∧ Claims.CompareWritesArmAndDisarm ∧ Claims.CapturesRecordTheirTime

/-- Timebase and phase compares fire at their value and drive the sweep trigger -/
def Obligations.ComparesFireAndDriveTheTrigger : Prop :=
  Claims.TimebaseComparesFireAtTheirValue ∧ Claims.PhaseComparesFireAtTheirPhase ∧ Claims.ComparesDriveTheSweepTrigger

/-- Timing frames align members, models take effect at their boundary, and heads follow and share them (payloads: log entries 45, 46) -/
def Obligations.AlignmentAndPhaseModels : Prop :=
  Claims.PhaseTimingFramesAlignAMember ∧ Claims.ModelsTakeEffectAtTheirBoundary ∧ Claims.HeadPhaseLoopFollowsItsReference ∧
  Claims.HeadsShareTimeAndModels

/-- Heads commit and send triggers, and members launch at their target (late frames: log entry 47; ORIG: 45) -/
def Obligations.ChainTriggersAreCommittedAndLaunch : Prop :=
  Claims.ChainTriggersLaunchAtTheirTarget ∧ Claims.HeadsCommitAndSendTriggers

/-- Load frames fill the inactive bank, and the check accepts or rejects the image (user segments: log entry 42) -/
def Obligations.ImagesLoadAndAreChecked : Prop :=
  Claims.OpenStartsALoadSession ∧ Claims.LoadFramesFillTheInactiveBank ∧ Claims.ImageChecksAcceptOrReject

/-- RUN frames request and cancel, the boundary enters the program, and grants are written -/
def Obligations.ProgramsRunAtTheirBoundary : Prop :=
  Claims.RunFramesRequestAndCancel ∧ Claims.RunBoundaryEntersTheProgram ∧ Claims.GrantsAndTheDoorbell

/-- The performance counters overflow, chain, latch and clear, and tag records close -/
def Obligations.CountersOverflowLatchAndClear : Prop :=
  Claims.CountersOverflowLatchAndClear

/-- Unimplemented offsets, and register writes that take effect or are ignored -/
def Obligations.RegisterWritesTakeEffectOrAreIgnored : Prop :=
  Claims.RegisterWritesTakeEffectOrAreIgnored ∧ Claims.PlainWritesSetTheirFields

/-- Register and block requests are served or answered with their status (error responses: log entry 30; no key: 50) -/
def Obligations.RequestsAreServedOrRefused : Prop :=
  Claims.RegisterRequestsReadAndWrite ∧ Claims.RefusedRequestsAreAnsweredWithTheirStatus ∧
  Claims.BlockRequestsReadAndWriteDataSram

/-- SPI frames serve the host, and a head begins and ends its transactions (corner cases: log entry 32) -/
def Obligations.TheHostAndTheHeadsTransactions : Prop :=
  Claims.SpiFramesServeTheHost ∧ Claims.HeadTransactionsBeginAndEnd

/-- Frames are forwarded or stomped, own frames start, and reports reach their queue (log entries 49, 51, 55) -/
def Obligations.FramesAreForwardedSentAndQueued : Prop :=
  Claims.MembersForwardAndStompFrames ∧ Claims.OwnFramesStartWhenTheOutputIsFree ∧ Claims.ReportsReachTheirQueue

/-- Ports train and fail, echoes measure the hop, and hop reports reach the head (log entries 53, 54; first report: 20) -/
def Obligations.PortsEchoesAndHopReports : Prop :=
  Claims.PortsTrainComeUpAndGoDown ∧ Claims.EchoesMeasureTheHop ∧ Claims.HoprepsQueueTheirUpdate

/-- Kindling gives each member its address and delays (fields of repeats: log entry 52) -/
def Obligations.KindlingGivesAddressesAndDelays : Prop :=
  Claims.KindlesPassAlongTheChain ∧ Claims.TopologyMakesTheAddressValid ∧ Claims.HeadsRunTheKindling

/-- A break is indicated, noticed on both ports, and healed -/
def Obligations.BreaksAreNoticedAndHealed : Prop :=
  Claims.BreaksAreNoticedAndHealed

/-- Transfers and excitations are judged and taken, and the stop forms end them -/
def Obligations.ShelfWorkIsJudgedTakenAndStopped : Prop :=
  Claims.TransferCommandsAreJudgedAndTaken ∧ Claims.StopFormsEndTheWork ∧ Claims.ExcitationsAreJudgedStartedAndEnded

/-- Selections settle, switching cycles count their charge, and converter conditions are faults (measured values: log entry 56) -/
def Obligations.ShelvesSelectSwitchAndFail : Prop :=
  Claims.SelectionsTurnOnSettleAndExpire ∧ Claims.SwitchingCyclesCountAndEndTheirWork ∧ Claims.ConverterConditionsAreFaults

/-- Bus pacing pauses transfers, and ownership moves between the twins (OWN codes: log entry 57) -/
def Obligations.PacingAndOwnershipOfBalancing : Prop :=
  Claims.BusPacingPausesAndResumesTransfers ∧ Claims.OwnershipMovesBetweenTheTwins ∧ Claims.OwnMessagesChangeTheOwner

/-- The twin link, its pairing, and the comparison of results (log entries 58, 59, 65) -/
def Obligations.TheTwinLinkCarriesPairsAndResults : Prop :=
  Claims.TwinLinkMessagesCarryTheLink ∧ Claims.PairsAreSetAndJudged ∧ Claims.ResultsAreComparedOrMissed

/-- Safety frames leave once per period, are relayed, and are compared between the chains (log entries 60, 61) -/
def Obligations.SafetyFramesAreSentRelayedAndCompared : Prop :=
  Claims.SafetyFramesLeaveOncePerPeriod ∧ Claims.HeadsRelayAndTakeSafetyFrames ∧ Claims.ComparisonsCloseWithAVerdict ∧
  Claims.TheLastFramesOfAPairAreReadable

/-- The SAFE outputs switch, are pulsed and read back (log entries 62, 63, 64) -/
def Obligations.SafeOutputsSwitchPulseAndReadBack : Prop :=
  Claims.SafeCommandsSwitchTheOutputs ∧ Claims.OffPulsesTestTheOutputs ∧ Claims.ReadbackSamplesJudgeTheSwitch

/-- Fireguard latches its guard bits, tests itself, and locks and checks its configuration -/
def Obligations.FireguardLatchesTestsAndLocks : Prop :=
  Claims.StrobesLatchTheGuardBits ∧ Claims.SelfTestsAndTheHeartbeatLatch ∧ Claims.TheConfigurationLocksAndIsChecked

/-- Self-calibration is judged and started, and completes with its factors (log slots: log entry 67) -/
def Obligations.CalibrationRunsAndCompletes : Prop :=
  Claims.CalibrationRunsAreJudgedAndStarted ∧ Claims.CalibrationCompletesWithItsFactors

/-- The shadow is opened, filled and committed, and tracking moves the factors by single steps -/
def Obligations.TheShadowIsCommittedAndTracked : Prop :=
  Claims.TheShadowIsOpenedFilledAndLocked ∧ Claims.CommitsCopyThePartsOfTheShadow ∧ Claims.TrackingMovesTheFactorsByOneStep

/-- Diagnostic runs are judged, stepped and end with their verdict (DGO while busy: log entry 66) -/
def Obligations.DiagnosticsRunToTheirVerdict : Prop :=
  Claims.DiagnosticRunsAreJudgedAndStarted ∧ Claims.DiagnosticStepsRunAndStop ∧ Claims.DiagnosticRunsEndWithTheirVerdict

/-- Converters and memory are tested in rotation, and logic once and on command -/
def Obligations.SelfTestsOfConvertersMemoryAndLogic : Prop :=
  Claims.ConvertersAreTestedInRotation ∧ Claims.MemoryBlocksAreTestedInRotation ∧ Claims.LogicTestsRunOnceAndOnCommand

/-- Scans of the check engine start, stop and complete -/
def Obligations.ScansAreStartedStoppedAndCompleted : Prop :=
  Claims.ScansAreStartedStoppedAndCompleted

/-- Key frames install or erase the provisioning key, alarms erase keys, and test tokens are judged (log entries 35, 72, 73) -/
def Obligations.KeysAlarmsAndTokens : Prop :=
  Claims.KeyFramesInstallOrEraseTheProvisioningKey ∧ Claims.AlarmsEraseKeysAndTokensAreJudged

/-- The peat log closes and programs its segments, and mounts (first SEQ: log entry 75; mounts: 78) -/
def Obligations.TheLogProgramsAndMounts : Prop :=
  Claims.SegmentsAreClosedAndProgrammed ∧ Claims.ProgramsEndWithTheirBlock ∧ Claims.TheLogMountsOrFails

/-- The log erases, refreshes, reads out and captures snapshots (log entries 76, 77) -/
def Obligations.TheLogErasesReadsOutAndCaptures : Prop :=
  Claims.BlocksAreErasedScrubbedAndRefreshed ∧ Claims.ReadoutStreamsSendTheLog ∧ Claims.TheLogIsErasedAndItsAnchorsRead ∧
  Claims.SnapshotCapturesEnd
end

