-- ==== Sys2Proof/Laws/Store.lean ====
section
/-!
SUPPORT. The laws of the sparse stores: a read after a write, and that every write keeps the canonical form.
-/

namespace Sys2Proof.Machine.Store

variable {α : Type}

theorem find_insert_same (m : List (Nat × α)) (a : Nat) (v : α) : find (insert m a v) a = some v := by
  induction m with
  | nil => simp [insert, find]
  | cons e t ih =>
    obtain ⟨k, w⟩ := e
    simp only [insert]
    split
    · simp [find]
    · split
      · simp [find]
      · next h => simp [find, Ne.symm h, ih]

theorem find_insert_other (m : List (Nat × α)) {a b : Nat} (v : α) (h : b ≠ a) : find (insert m a v) b = find m b := by
  induction m with
  | nil => simp [insert, find, Ne.symm h]
  | cons e t ih =>
    obtain ⟨k, w⟩ := e
    simp only [insert]
    split
    · simp [find, Ne.symm h]
    · split
      · next hk => subst hk; simp [find, Ne.symm h]
      · simp [find, ih]

theorem find_erase_same (m : List (Nat × α)) (a : Nat) : find (erase m a) a = none := by
  induction m with
  | nil => rfl
  | cons e t ih =>
    obtain ⟨k, w⟩ := e
    by_cases hk : k = a
    · subst hk; simpa [erase] using ih
    · have : (k != a) = true := by simpa using hk
      simp only [erase, List.filter, this] at ih ⊢
      simpa [find, hk] using ih

theorem find_erase_other (m : List (Nat × α)) {a b : Nat} (h : b ≠ a) : find (erase m a) b = find m b := by
  induction m with
  | nil => rfl
  | cons e t ih =>
    obtain ⟨k, w⟩ := e
    by_cases hk : k = a
    · subst hk
      have : (k != k) = false := by simp
      simp only [erase, List.filter, this] at ih ⊢
      simpa [find, Ne.symm h] using ih
    · have : (k != a) = true := by simpa using hk
      simp only [erase, List.filter, this] at ih ⊢
      simp [find, ih]

section Write
variable [DecidableEq α] (dflt : Nat → α)

@[simp] theorem read_write_same (m : List (Nat × α)) (a : Nat) (v : α) : read dflt (write dflt m a v) a = v := by
  unfold read write
  split
  · next h => simp [find_erase_same, h]
  · simp [find_insert_same]

theorem read_write_other (m : List (Nat × α)) {a b : Nat} (v : α) (h : b ≠ a) :
    read dflt (write dflt m a v) b = read dflt m b := by
  unfold read write
  split
  · simp [find_erase_other m h]
  · simp [find_insert_other m v h]

theorem read_write (m : List (Nat × α)) (a b : Nat) (v : α) :
    read dflt (write dflt m a v) b = if b = a then v else read dflt m b := by
  split
  · next h => subst h; simp
  · next h => exact read_write_other dflt m v h

end Write

/-! ### The canonical form -/

theorem above_trans {a b : Nat} {m : List (Nat × α)} (h : a < b) (hm : above b m = true) : above a m = true := by
  induction m with
  | nil => rfl
  | cons e t ih =>
    simp only [above, Bool.and_eq_true, decide_eq_true_eq] at hm ⊢
    exact ⟨by omega, ih hm.2⟩

theorem above_insert {a b : Nat} {m : List (Nat × α)} {v : α} (h : a < b) (hm : above a m = true) :
    above a (insert m b v) = true := by
  induction m with
  | nil => simp [insert, above, h]
  | cons e t ih =>
    obtain ⟨k, w⟩ := e
    simp only [above, Bool.and_eq_true, decide_eq_true_eq] at hm
    simp only [insert]
    split
    · simp [above, h, hm.1, hm.2]
    · split
      · simp [above, h, hm.2]
      · simp [above, hm.1, ih hm.2]

theorem rising_insert {m : List (Nat × α)} {a : Nat} {v : α} (hm : rising m = true) : rising (insert m a v) = true := by
  induction m with
  | nil => rfl
  | cons e t ih =>
    obtain ⟨k, w⟩ := e
    simp only [rising, Bool.and_eq_true] at hm
    simp only [insert]
    split
    · next h => simp [rising, above, h, hm.1, hm.2, above_trans h hm.1]
    · split
      · next h => subst h; simp [rising, hm.1, hm.2]
      · next h₁ h₂ => simp [rising, ih hm.2, above_insert (show k < a by omega) hm.1]

theorem above_erase {a b : Nat} {m : List (Nat × α)} (hm : above a m = true) : above a (erase m b) = true := by
  induction m with
  | nil => rfl
  | cons e t ih =>
    obtain ⟨k, w⟩ := e
    simp only [above, Bool.and_eq_true, decide_eq_true_eq] at hm
    simp only [erase, List.filter] at ih ⊢
    split
    · simp [above, hm.1, ih hm.2]
    · exact ih hm.2

theorem rising_erase {m : List (Nat × α)} {b : Nat} (hm : rising m = true) : rising (erase m b) = true := by
  induction m with
  | nil => rfl
  | cons e t ih =>
    obtain ⟨k, w⟩ := e
    simp only [rising, Bool.and_eq_true] at hm
    have ha := above_erase (b := b) hm.1
    simp only [erase, List.filter] at ih ha ⊢
    split
    · simp [rising, ha, ih hm.2]
    · exact ih hm.2

section Canonical
variable [DecidableEq α] (dflt : Nat → α)

theorem noDefault_insert {m : List (Nat × α)} {a : Nat} {v : α} (hv : v ≠ dflt a) (hm : noDefault dflt m = true) :
    noDefault dflt (insert m a v) = true := by
  induction m with
  | nil => simp [insert, noDefault, hv]
  | cons e t ih =>
    obtain ⟨k, w⟩ := e
    simp only [noDefault, List.all_cons, Bool.and_eq_true] at hm ih
    simp only [insert]
    split
    · simp only [noDefault, List.all_cons, Bool.and_eq_true]
      exact ⟨by simpa using hv, hm.1, hm.2⟩
    · split
      · simp only [noDefault, List.all_cons, Bool.and_eq_true]
        exact ⟨by simpa using hv, hm.2⟩
      · simp only [noDefault, List.all_cons, Bool.and_eq_true]
        exact ⟨hm.1, ih hm.2⟩

theorem noDefault_erase {m : List (Nat × α)} {a : Nat} (hm : noDefault dflt m = true) : noDefault dflt (erase m a) = true := by
  simp only [noDefault, List.all_eq_true] at hm ⊢
  intro e he
  exact hm e (List.mem_of_mem_filter he)

/-- A write keeps the canonical form. -/
theorem wf_write {m : List (Nat × α)} (a : Nat) (v : α) (hm : wf dflt m = true) : wf dflt (write dflt m a v) = true := by
  simp only [wf, Bool.and_eq_true] at hm ⊢
  unfold write
  split
  · exact ⟨rising_erase hm.1, noDefault_erase dflt hm.2⟩
  · next h => exact ⟨rising_insert hm.1, noDefault_insert dflt h hm.2⟩

theorem wf_writeAll (l : List α) : ∀ (m : List (Nat × α)) (a : Nat), wf dflt m = true → wf dflt (writeAll dflt m a l) = true := by
  induction l with
  | nil => intro m a hm; exact hm
  | cons v t ih => intro m a hm; exact ih _ _ (wf_write dflt a v hm)

/-- A run of writes leaves every address outside it alone. -/
theorem read_writeAll_other (l : List α) : ∀ (m : List (Nat × α)) (a b : Nat), (b < a ∨ a + l.length ≤ b) →
    read dflt (writeAll dflt m a l) b = read dflt m b := by
  induction l with
  | nil => intro m a b _; rfl
  | cons v t ih =>
    intro m a b h
    simp only [List.length_cons] at h
    simp only [writeAll]
    rw [ih _ _ _ (by omega), read_write_other dflt m v (by omega)]

/-- A run of values is read back as it was written. -/
theorem readAll_writeAll (l : List α) : ∀ (m : List (Nat × α)) (a : Nat),
    readAll dflt (writeAll dflt m a l) a l.length = l := by
  induction l with
  | nil => intro m a; rfl
  | cons v t ih =>
    intro m a
    simp only [writeAll, List.length_cons, readAll]
    rw [ih, read_writeAll_other dflt t _ _ _ (Or.inl (by omega)), read_write_same]

end Canonical

end Sys2Proof.Machine.Store
end

