-- ==== Sys2Proof/Laws/Field.lean ====
section
/-!
SUPPORT. The laws of registers and fields: what a word and a field read as after a write to the same or to another place.
-/

namespace Sys2Proof

theorem testBit_bitsOf (v lo w i : Nat) : (bitsOf v lo w).testBit i = (decide (i < w) && v.testBit (lo + i)) := by
  unfold bitsOf
  rw [Nat.testBit_mod_two_pow, Nat.testBit_shiftRight]

theorem bitsOf_lt (v lo w : Nat) : bitsOf v lo w < 2 ^ w := Nat.mod_lt _ (Nat.two_pow_pos w)

end Sys2Proof

namespace Sys2Proof.Machine

/-- The field lies within its 32-bit register. -/
abbrev Fld.fits (f : Fld) : Prop := f.lo + f.width ≤ 32

/-- Two fields share no bit. -/
abbrev Fld.apart (f g : Fld) : Prop := f.addr ≠ g.addr ∨ f.lo + f.width ≤ g.lo ∨ g.lo + g.width ≤ f.lo

namespace Dev

theorem getLsbD_putBits (w : Word) (f : Fld) (v i : Nat) (hf : f.fits) :
    (putBits w f v).getLsbD i = if f.lo ≤ i ∧ i < f.lo + f.width then v.testBit (i - f.lo) else w.getLsbD i := by
  unfold Fld.fits at hf
  by_cases h32 : i < 32
  · simp only [putBits, BitVec.getLsbD_or, BitVec.getLsbD_and, BitVec.getLsbD_not, BitVec.getLsbD_ofNat, Nat.testBit_two_pow_sub_one,
      Nat.testBit_shiftLeft, Nat.testBit_mod_two_pow, h32, decide_true, Bool.true_and]
    by_cases hlo : f.lo ≤ i
    · by_cases hw : i - f.lo < f.width
      · have hi : i < f.lo + f.width := by omega
        simp [hlo, hw, hi]
      · have hi : ¬ i < f.lo + f.width := by omega
        simp [hlo, hw, hi]
    · simp [hlo]
  · have hi : ¬ i < f.lo + f.width := by omega
    rw [BitVec.getLsbD_of_ge _ _ (by omega), if_neg (fun h => hi h.2), BitVec.getLsbD_of_ge _ _ (by omega)]

@[simp] theorem rd_wr_same (d : Dev) (a : Nat) (v : Word) : (d.wr a v).rd a = v := Store.read_write_same _ _ _ _

theorem rd_wr_other (d : Dev) {a b : Nat} (v : Word) (h : b ≠ a) : (d.wr a v).rd b = d.rd b :=
  Store.read_write_other _ _ _ h

theorem rd_put_other (d : Dev) (f : Fld) (v : Nat) {b : Nat} (h : b ≠ f.addr) : (d.put f v).rd b = d.rd b := rd_wr_other d _ h

theorem rd_put_same (d : Dev) (f : Fld) (v : Nat) : (d.put f v).rd f.addr = putBits (d.rd f.addr) f v := rd_wr_same d _ _

/-- A field reads as what was put into it, cut to its width. -/
theorem get_put_same (d : Dev) (f : Fld) (v : Nat) (hf : f.fits) : (d.put f v).get f = v % 2 ^ f.width := by
  apply Nat.eq_of_testBit_eq
  intro i
  unfold get
  rw [testBit_bitsOf, rd_put_same, Nat.testBit_mod_two_pow, ← BitVec.getLsbD, getLsbD_putBits _ _ _ _ hf]
  by_cases h : i < f.width <;> simp [h]

/-- A field that shares no bit with the one put reads as before. -/
theorem get_put_apart (d : Dev) (f g : Fld) (v : Nat) (hf : f.fits) (h : f.apart g) : (d.put f v).get g = d.get g := by
  by_cases ha : g.addr = f.addr
  · apply Nat.eq_of_testBit_eq
    intro i
    unfold get
    rw [testBit_bitsOf, testBit_bitsOf, ha, rd_put_same, ← BitVec.getLsbD, ← BitVec.getLsbD, getLsbD_putBits _ _ _ _ hf]
    by_cases hi : i < g.width
    · have : ¬ (f.lo ≤ g.lo + i ∧ g.lo + i < f.lo + f.width) := by
        rcases h with h | h | h
        · exact absurd ha.symm h
        · omega
        · omega
      simp [hi, this]
    · simp [hi]
  · unfold get
    rw [rd_put_other _ _ _ ha]

theorem get_put_other (d : Dev) {f g : Fld} (v : Nat) (h : g.addr ≠ f.addr) : (d.put f v).get g = d.get g := by
  unfold get; rw [rd_put_other _ _ _ h]

theorem get_lt (d : Dev) (f : Fld) : d.get f < 2 ^ f.width := bitsOf_lt _ _ _

theorem get_of_rd {d d' : Dev} {f : Fld} (h : d'.rd f.addr = d.rd f.addr) : d'.get f = d.get f := by unfold get; rw [h]

theorem rd_congr {d d' : Dev} (h : d'.regs = d.regs) (a : Nat) : d'.rd a = d.rd a := by unfold rd; rw [h]

theorem get_congr {d d' : Dev} (h : d'.regs = d.regs) (f : Fld) : d'.get f = d.get f := by unfold get; rw [rd_congr h]

theorem bit_congr {d d' : Dev} (h : d'.regs = d.regs) (f : Fld) : d'.bit f = d.bit f := by unfold bit; rw [get_congr h]

theorem bitAt_congr {d d' : Dev} (h : d'.regs = d.regs) (f : Fld) (i : Nat) : d'.bitAt f i = d.bitAt f i := by
  unfold bitAt; rw [get_congr h]

/-- A one-bit field reads as what was put into it. -/
theorem bit_putB_same (d : Dev) (f : Fld) (b : Bool) (hf : f.fits) (h1 : f.width = 1) : (d.putB f b).bit f = b := by
  unfold bit putB
  rw [get_put_same _ _ _ hf, h1]
  cases b <;> rfl

theorem bit_put_apart (d : Dev) (f g : Fld) (v : Nat) (hf : f.fits) (h : f.apart g) : (d.put f v).bit g = d.bit g := by
  unfold bit; rw [get_put_apart _ _ _ _ hf h]

theorem bitAt_put_apart (d : Dev) (f g : Fld) (v i : Nat) (hf : f.fits) (h : f.apart g) : (d.put f v).bitAt g i = d.bitAt g i := by
  unfold bitAt; rw [get_put_apart _ _ _ _ hf h]

theorem get_putB_apart (d : Dev) (f g : Fld) (b : Bool) (hf : f.fits) (h : f.apart g) : (d.putB f b).get g = d.get g :=
  get_put_apart _ _ _ _ hf h

theorem bit_putB_apart (d : Dev) (f g : Fld) (b : Bool) (hf : f.fits) (h : f.apart g) : (d.putB f b).bit g = d.bit g :=
  bit_put_apart _ _ _ _ hf h

/-- Hardware sets bits: the field reads as the old value with those bits. -/
theorem get_flagBits_same (d : Dev) (f : Fld) (v : Nat) (hf : f.fits) :
    (d.flagBits f v).get f = d.get f ||| v % 2 ^ f.width := by
  apply Nat.eq_of_testBit_eq
  intro i
  unfold Fld.fits at hf
  have hr : (d.flagBits f v).rd f.addr = d.rd f.addr ||| BitVec.ofNat 32 ((v % 2 ^ f.width) <<< f.lo) := rd_wr_same d _ _
  unfold get
  rw [hr, Nat.testBit_or, testBit_bitsOf, testBit_bitsOf, Nat.testBit_mod_two_pow, ← BitVec.getLsbD, BitVec.getLsbD_or]
  by_cases hi : i < f.width
  · have h32 : f.lo + i < 32 := by omega
    have hm : (BitVec.ofNat 32 ((v % 2 ^ f.width) <<< f.lo)).getLsbD (f.lo + i) = v.testBit i := by
      simp [-BitVec.getLsbD_eq_getElem, BitVec.getLsbD_ofNat, h32, hi, Nat.testBit_shiftLeft, Nat.testBit_mod_two_pow]
    rw [hm]
    simp [hi, BitVec.getLsbD]
  · simp [hi]

theorem rd_flagBits_other (d : Dev) (f : Fld) (v : Nat) {b : Nat} (h : b ≠ f.addr) : (d.flagBits f v).rd b = d.rd b :=
  rd_wr_other d _ h

theorem get_flagBits_other (d : Dev) {f g : Fld} (v : Nat) (h : g.addr ≠ f.addr) : (d.flagBits f v).get g = d.get g := by
  unfold get; rw [rd_flagBits_other _ _ _ h]

/-- A saturating counter. -/
theorem get_count_same (d : Dev) (f : Fld) (n : Nat) (hf : f.fits) :
    (d.count f n).get f = min (d.get f + n) (2 ^ f.width - 1) := by
  have h : (d.count f n).get f = (d.put f (min (d.get f + n) (2 ^ f.width - 1))).get f := rfl
  rw [h, get_put_same _ _ _ hf]
  have := Nat.two_pow_pos f.width
  exact Nat.mod_eq_of_lt (by omega)

theorem get_count_apart (d : Dev) (f g : Fld) (n : Nat) (hf : f.fits) (h : f.apart g) : (d.count f n).get g = d.get g :=
  get_put_apart d f g _ hf h

theorem rd_count_other (d : Dev) (f : Fld) (n : Nat) {b : Nat} (h : b ≠ f.addr) : (d.count f n).rd b = d.rd b :=
  rd_put_other d f _ h

end Dev

end Sys2Proof.Machine
end

