-- ==== Sys2Proof/Laws/State.lean ====
section
/-!
SUPPORT. What each named operation leaves alone: one lemma per field of the device and operation, true by the definition of the
operation, so that no proof unfolds a record update.
-/

namespace Sys2Proof.Machine.Dev

/-! ### wr -/

@[simp] theorem wr_regs0 (d : Dev) (a : Nat) (v : Word) : (d.wr a v).regs0 = d.regs0 := rfl
@[simp] theorem wr_touch (d : Dev) (a : Nat) (v : Word) : (d.wr a v).touch = d.touch := rfl
@[simp] theorem wr_cycle (d : Dev) (a : Nat) (v : Word) : (d.wr a v).cycle = d.cycle := rfl
@[simp] theorem wr_tb (d : Dev) (a : Nat) (v : Word) : (d.wr a v).tb = d.tb := rfl
@[simp] theorem wr_draws (d : Dev) (a : Nat) (v : Word) : (d.wr a v).draws = d.draws := rfl
@[simp] theorem wr_sent (d : Dev) (a : Nat) (v : Word) : (d.wr a v).sent = d.sent := rfl
@[simp] theorem wr_posted (d : Dev) (a : Nat) (v : Word) : (d.wr a v).posted = d.posted := rfl
@[simp] theorem wr_power (d : Dev) (a : Nat) (v : Word) : (d.wr a v).power = d.power := rfl
@[simp] theorem wr_conv (d : Dev) (a : Nat) (v : Word) : (d.wr a v).conv = d.conv := rfl
@[simp] theorem wr_inj (d : Dev) (a : Nat) (v : Word) : (d.wr a v).inj = d.inj := rfl
@[simp] theorem wr_drawers (d : Dev) (a : Nat) (v : Word) : (d.wr a v).drawers = d.drawers := rfl
@[simp] theorem wr_excs (d : Dev) (a : Nat) (v : Word) : (d.wr a v).excs = d.excs := rfl
@[simp] theorem wr_trk (d : Dev) (a : Nat) (v : Word) : (d.wr a v).trk = d.trk := rfl
@[simp] theorem wr_pub0 (d : Dev) (a : Nat) (v : Word) : (d.wr a v).pub0 = d.pub0 := rfl
@[simp] theorem wr_tim (d : Dev) (a : Nat) (v : Word) : (d.wr a v).tim = d.tim := rfl
@[simp] theorem wr_loop (d : Dev) (a : Nat) (v : Word) : (d.wr a v).loop = d.loop := rfl
@[simp] theorem wr_bal (d : Dev) (a : Nat) (v : Word) : (d.wr a v).bal = d.bal := rfl
@[simp] theorem wr_flt (d : Dev) (a : Nat) (v : Word) : (d.wr a v).flt = d.flt := rfl
@[simp] theorem wr_fltBase (d : Dev) (a : Nat) (v : Word) : (d.wr a v).fltBase = d.fltBase := rfl
@[simp] theorem wr_fltNow (d : Dev) (a : Nat) (v : Word) : (d.wr a v).fltNow = d.fltNow := rfl
@[simp] theorem wr_chain (d : Dev) (a : Nat) (v : Word) : (d.wr a v).chain = d.chain := rfl
@[simp] theorem wr_hearth (d : Dev) (a : Nat) (v : Word) : (d.wr a v).hearth = d.hearth := rfl
@[simp] theorem wr_load (d : Dev) (a : Nat) (v : Word) : (d.wr a v).load = d.load := rfl
@[simp] theorem wr_diag (d : Dev) (a : Nat) (v : Word) : (d.wr a v).diag = d.diag := rfl
@[simp] theorem wr_bist (d : Dev) (a : Nat) (v : Word) : (d.wr a v).bist = d.bist := rfl
@[simp] theorem wr_check (d : Dev) (a : Nat) (v : Word) : (d.wr a v).check = d.check := rfl
@[simp] theorem wr_cal (d : Dev) (a : Nat) (v : Word) : (d.wr a v).cal = d.cal := rfl
@[simp] theorem wr_keys (d : Dev) (a : Nat) (v : Word) : (d.wr a v).keys = d.keys := rfl
@[simp] theorem wr_nv (d : Dev) (a : Nat) (v : Word) : (d.wr a v).nv = d.nv := rfl
@[simp] theorem wr_log (d : Dev) (a : Nat) (v : Word) : (d.wr a v).log = d.log := rfl
@[simp] theorem wr_perf (d : Dev) (a : Nat) (v : Word) : (d.wr a v).perf = d.perf := rfl
@[simp] theorem wr_guard (d : Dev) (a : Nat) (v : Word) : (d.wr a v).guard = d.guard := rfl
@[simp] theorem wr_twin (d : Dev) (a : Nat) (v : Word) : (d.wr a v).twin = d.twin := rfl
@[simp] theorem wr_safe (d : Dev) (a : Nat) (v : Word) : (d.wr a v).safe = d.safe := rfl

/-! ### put -/

@[simp] theorem put_regs0 (d : Dev) (f : Fld) (v : Nat) : (d.put f v).regs0 = d.regs0 := rfl
@[simp] theorem put_touch (d : Dev) (f : Fld) (v : Nat) : (d.put f v).touch = d.touch := rfl
@[simp] theorem put_cycle (d : Dev) (f : Fld) (v : Nat) : (d.put f v).cycle = d.cycle := rfl
@[simp] theorem put_tb (d : Dev) (f : Fld) (v : Nat) : (d.put f v).tb = d.tb := rfl
@[simp] theorem put_draws (d : Dev) (f : Fld) (v : Nat) : (d.put f v).draws = d.draws := rfl
@[simp] theorem put_sent (d : Dev) (f : Fld) (v : Nat) : (d.put f v).sent = d.sent := rfl
@[simp] theorem put_posted (d : Dev) (f : Fld) (v : Nat) : (d.put f v).posted = d.posted := rfl
@[simp] theorem put_power (d : Dev) (f : Fld) (v : Nat) : (d.put f v).power = d.power := rfl
@[simp] theorem put_conv (d : Dev) (f : Fld) (v : Nat) : (d.put f v).conv = d.conv := rfl
@[simp] theorem put_inj (d : Dev) (f : Fld) (v : Nat) : (d.put f v).inj = d.inj := rfl
@[simp] theorem put_drawers (d : Dev) (f : Fld) (v : Nat) : (d.put f v).drawers = d.drawers := rfl
@[simp] theorem put_excs (d : Dev) (f : Fld) (v : Nat) : (d.put f v).excs = d.excs := rfl
@[simp] theorem put_trk (d : Dev) (f : Fld) (v : Nat) : (d.put f v).trk = d.trk := rfl
@[simp] theorem put_pub0 (d : Dev) (f : Fld) (v : Nat) : (d.put f v).pub0 = d.pub0 := rfl
@[simp] theorem put_tim (d : Dev) (f : Fld) (v : Nat) : (d.put f v).tim = d.tim := rfl
@[simp] theorem put_loop (d : Dev) (f : Fld) (v : Nat) : (d.put f v).loop = d.loop := rfl
@[simp] theorem put_bal (d : Dev) (f : Fld) (v : Nat) : (d.put f v).bal = d.bal := rfl
@[simp] theorem put_flt (d : Dev) (f : Fld) (v : Nat) : (d.put f v).flt = d.flt := rfl
@[simp] theorem put_fltBase (d : Dev) (f : Fld) (v : Nat) : (d.put f v).fltBase = d.fltBase := rfl
@[simp] theorem put_fltNow (d : Dev) (f : Fld) (v : Nat) : (d.put f v).fltNow = d.fltNow := rfl
@[simp] theorem put_chain (d : Dev) (f : Fld) (v : Nat) : (d.put f v).chain = d.chain := rfl
@[simp] theorem put_hearth (d : Dev) (f : Fld) (v : Nat) : (d.put f v).hearth = d.hearth := rfl
@[simp] theorem put_load (d : Dev) (f : Fld) (v : Nat) : (d.put f v).load = d.load := rfl
@[simp] theorem put_diag (d : Dev) (f : Fld) (v : Nat) : (d.put f v).diag = d.diag := rfl
@[simp] theorem put_bist (d : Dev) (f : Fld) (v : Nat) : (d.put f v).bist = d.bist := rfl
@[simp] theorem put_check (d : Dev) (f : Fld) (v : Nat) : (d.put f v).check = d.check := rfl
@[simp] theorem put_cal (d : Dev) (f : Fld) (v : Nat) : (d.put f v).cal = d.cal := rfl
@[simp] theorem put_keys (d : Dev) (f : Fld) (v : Nat) : (d.put f v).keys = d.keys := rfl
@[simp] theorem put_nv (d : Dev) (f : Fld) (v : Nat) : (d.put f v).nv = d.nv := rfl
@[simp] theorem put_log (d : Dev) (f : Fld) (v : Nat) : (d.put f v).log = d.log := rfl
@[simp] theorem put_perf (d : Dev) (f : Fld) (v : Nat) : (d.put f v).perf = d.perf := rfl
@[simp] theorem put_guard (d : Dev) (f : Fld) (v : Nat) : (d.put f v).guard = d.guard := rfl
@[simp] theorem put_twin (d : Dev) (f : Fld) (v : Nat) : (d.put f v).twin = d.twin := rfl
@[simp] theorem put_safe (d : Dev) (f : Fld) (v : Nat) : (d.put f v).safe = d.safe := rfl

/-! ### putB -/

@[simp] theorem putB_regs0 (d : Dev) (f : Fld) (b : Bool) : (d.putB f b).regs0 = d.regs0 := rfl
@[simp] theorem putB_touch (d : Dev) (f : Fld) (b : Bool) : (d.putB f b).touch = d.touch := rfl
@[simp] theorem putB_cycle (d : Dev) (f : Fld) (b : Bool) : (d.putB f b).cycle = d.cycle := rfl
@[simp] theorem putB_tb (d : Dev) (f : Fld) (b : Bool) : (d.putB f b).tb = d.tb := rfl
@[simp] theorem putB_draws (d : Dev) (f : Fld) (b : Bool) : (d.putB f b).draws = d.draws := rfl
@[simp] theorem putB_sent (d : Dev) (f : Fld) (b : Bool) : (d.putB f b).sent = d.sent := rfl
@[simp] theorem putB_posted (d : Dev) (f : Fld) (b : Bool) : (d.putB f b).posted = d.posted := rfl
@[simp] theorem putB_power (d : Dev) (f : Fld) (b : Bool) : (d.putB f b).power = d.power := rfl
@[simp] theorem putB_conv (d : Dev) (f : Fld) (b : Bool) : (d.putB f b).conv = d.conv := rfl
@[simp] theorem putB_inj (d : Dev) (f : Fld) (b : Bool) : (d.putB f b).inj = d.inj := rfl
@[simp] theorem putB_drawers (d : Dev) (f : Fld) (b : Bool) : (d.putB f b).drawers = d.drawers := rfl
@[simp] theorem putB_excs (d : Dev) (f : Fld) (b : Bool) : (d.putB f b).excs = d.excs := rfl
@[simp] theorem putB_trk (d : Dev) (f : Fld) (b : Bool) : (d.putB f b).trk = d.trk := rfl
@[simp] theorem putB_pub0 (d : Dev) (f : Fld) (b : Bool) : (d.putB f b).pub0 = d.pub0 := rfl
@[simp] theorem putB_tim (d : Dev) (f : Fld) (b : Bool) : (d.putB f b).tim = d.tim := rfl
@[simp] theorem putB_loop (d : Dev) (f : Fld) (b : Bool) : (d.putB f b).loop = d.loop := rfl
@[simp] theorem putB_bal (d : Dev) (f : Fld) (b : Bool) : (d.putB f b).bal = d.bal := rfl
@[simp] theorem putB_flt (d : Dev) (f : Fld) (b : Bool) : (d.putB f b).flt = d.flt := rfl
@[simp] theorem putB_fltBase (d : Dev) (f : Fld) (b : Bool) : (d.putB f b).fltBase = d.fltBase := rfl
@[simp] theorem putB_fltNow (d : Dev) (f : Fld) (b : Bool) : (d.putB f b).fltNow = d.fltNow := rfl
@[simp] theorem putB_chain (d : Dev) (f : Fld) (b : Bool) : (d.putB f b).chain = d.chain := rfl
@[simp] theorem putB_hearth (d : Dev) (f : Fld) (b : Bool) : (d.putB f b).hearth = d.hearth := rfl
@[simp] theorem putB_load (d : Dev) (f : Fld) (b : Bool) : (d.putB f b).load = d.load := rfl
@[simp] theorem putB_diag (d : Dev) (f : Fld) (b : Bool) : (d.putB f b).diag = d.diag := rfl
@[simp] theorem putB_bist (d : Dev) (f : Fld) (b : Bool) : (d.putB f b).bist = d.bist := rfl
@[simp] theorem putB_check (d : Dev) (f : Fld) (b : Bool) : (d.putB f b).check = d.check := rfl
@[simp] theorem putB_cal (d : Dev) (f : Fld) (b : Bool) : (d.putB f b).cal = d.cal := rfl
@[simp] theorem putB_keys (d : Dev) (f : Fld) (b : Bool) : (d.putB f b).keys = d.keys := rfl
@[simp] theorem putB_nv (d : Dev) (f : Fld) (b : Bool) : (d.putB f b).nv = d.nv := rfl
@[simp] theorem putB_log (d : Dev) (f : Fld) (b : Bool) : (d.putB f b).log = d.log := rfl
@[simp] theorem putB_perf (d : Dev) (f : Fld) (b : Bool) : (d.putB f b).perf = d.perf := rfl
@[simp] theorem putB_guard (d : Dev) (f : Fld) (b : Bool) : (d.putB f b).guard = d.guard := rfl
@[simp] theorem putB_twin (d : Dev) (f : Fld) (b : Bool) : (d.putB f b).twin = d.twin := rfl
@[simp] theorem putB_safe (d : Dev) (f : Fld) (b : Bool) : (d.putB f b).safe = d.safe := rfl

/-! ### putAt -/

@[simp] theorem putAt_regs0 (d : Dev) (f : Fld) (i : Nat) (b : Bool) : (d.putAt f i b).regs0 = d.regs0 := rfl
@[simp] theorem putAt_touch (d : Dev) (f : Fld) (i : Nat) (b : Bool) : (d.putAt f i b).touch = d.touch := rfl
@[simp] theorem putAt_cycle (d : Dev) (f : Fld) (i : Nat) (b : Bool) : (d.putAt f i b).cycle = d.cycle := rfl
@[simp] theorem putAt_tb (d : Dev) (f : Fld) (i : Nat) (b : Bool) : (d.putAt f i b).tb = d.tb := rfl
@[simp] theorem putAt_draws (d : Dev) (f : Fld) (i : Nat) (b : Bool) : (d.putAt f i b).draws = d.draws := rfl
@[simp] theorem putAt_sent (d : Dev) (f : Fld) (i : Nat) (b : Bool) : (d.putAt f i b).sent = d.sent := rfl
@[simp] theorem putAt_posted (d : Dev) (f : Fld) (i : Nat) (b : Bool) : (d.putAt f i b).posted = d.posted := rfl
@[simp] theorem putAt_power (d : Dev) (f : Fld) (i : Nat) (b : Bool) : (d.putAt f i b).power = d.power := rfl
@[simp] theorem putAt_conv (d : Dev) (f : Fld) (i : Nat) (b : Bool) : (d.putAt f i b).conv = d.conv := rfl
@[simp] theorem putAt_inj (d : Dev) (f : Fld) (i : Nat) (b : Bool) : (d.putAt f i b).inj = d.inj := rfl
@[simp] theorem putAt_drawers (d : Dev) (f : Fld) (i : Nat) (b : Bool) : (d.putAt f i b).drawers = d.drawers := rfl
@[simp] theorem putAt_excs (d : Dev) (f : Fld) (i : Nat) (b : Bool) : (d.putAt f i b).excs = d.excs := rfl
@[simp] theorem putAt_trk (d : Dev) (f : Fld) (i : Nat) (b : Bool) : (d.putAt f i b).trk = d.trk := rfl
@[simp] theorem putAt_pub0 (d : Dev) (f : Fld) (i : Nat) (b : Bool) : (d.putAt f i b).pub0 = d.pub0 := rfl
@[simp] theorem putAt_tim (d : Dev) (f : Fld) (i : Nat) (b : Bool) : (d.putAt f i b).tim = d.tim := rfl
@[simp] theorem putAt_loop (d : Dev) (f : Fld) (i : Nat) (b : Bool) : (d.putAt f i b).loop = d.loop := rfl
@[simp] theorem putAt_bal (d : Dev) (f : Fld) (i : Nat) (b : Bool) : (d.putAt f i b).bal = d.bal := rfl
@[simp] theorem putAt_flt (d : Dev) (f : Fld) (i : Nat) (b : Bool) : (d.putAt f i b).flt = d.flt := rfl
@[simp] theorem putAt_fltBase (d : Dev) (f : Fld) (i : Nat) (b : Bool) : (d.putAt f i b).fltBase = d.fltBase := rfl
@[simp] theorem putAt_fltNow (d : Dev) (f : Fld) (i : Nat) (b : Bool) : (d.putAt f i b).fltNow = d.fltNow := rfl
@[simp] theorem putAt_chain (d : Dev) (f : Fld) (i : Nat) (b : Bool) : (d.putAt f i b).chain = d.chain := rfl
@[simp] theorem putAt_hearth (d : Dev) (f : Fld) (i : Nat) (b : Bool) : (d.putAt f i b).hearth = d.hearth := rfl
@[simp] theorem putAt_load (d : Dev) (f : Fld) (i : Nat) (b : Bool) : (d.putAt f i b).load = d.load := rfl
@[simp] theorem putAt_diag (d : Dev) (f : Fld) (i : Nat) (b : Bool) : (d.putAt f i b).diag = d.diag := rfl
@[simp] theorem putAt_bist (d : Dev) (f : Fld) (i : Nat) (b : Bool) : (d.putAt f i b).bist = d.bist := rfl
@[simp] theorem putAt_check (d : Dev) (f : Fld) (i : Nat) (b : Bool) : (d.putAt f i b).check = d.check := rfl
@[simp] theorem putAt_cal (d : Dev) (f : Fld) (i : Nat) (b : Bool) : (d.putAt f i b).cal = d.cal := rfl
@[simp] theorem putAt_keys (d : Dev) (f : Fld) (i : Nat) (b : Bool) : (d.putAt f i b).keys = d.keys := rfl
@[simp] theorem putAt_nv (d : Dev) (f : Fld) (i : Nat) (b : Bool) : (d.putAt f i b).nv = d.nv := rfl
@[simp] theorem putAt_log (d : Dev) (f : Fld) (i : Nat) (b : Bool) : (d.putAt f i b).log = d.log := rfl
@[simp] theorem putAt_perf (d : Dev) (f : Fld) (i : Nat) (b : Bool) : (d.putAt f i b).perf = d.perf := rfl
@[simp] theorem putAt_guard (d : Dev) (f : Fld) (i : Nat) (b : Bool) : (d.putAt f i b).guard = d.guard := rfl
@[simp] theorem putAt_twin (d : Dev) (f : Fld) (i : Nat) (b : Bool) : (d.putAt f i b).twin = d.twin := rfl
@[simp] theorem putAt_safe (d : Dev) (f : Fld) (i : Nat) (b : Bool) : (d.putAt f i b).safe = d.safe := rfl

/-! ### flagBits -/

@[simp] theorem flagBits_regs0 (d : Dev) (f : Fld) (v : Nat) : (d.flagBits f v).regs0 = d.regs0 := rfl
@[simp] theorem flagBits_cycle (d : Dev) (f : Fld) (v : Nat) : (d.flagBits f v).cycle = d.cycle := rfl
@[simp] theorem flagBits_tb (d : Dev) (f : Fld) (v : Nat) : (d.flagBits f v).tb = d.tb := rfl
@[simp] theorem flagBits_draws (d : Dev) (f : Fld) (v : Nat) : (d.flagBits f v).draws = d.draws := rfl
@[simp] theorem flagBits_sent (d : Dev) (f : Fld) (v : Nat) : (d.flagBits f v).sent = d.sent := rfl
@[simp] theorem flagBits_posted (d : Dev) (f : Fld) (v : Nat) : (d.flagBits f v).posted = d.posted := rfl
@[simp] theorem flagBits_power (d : Dev) (f : Fld) (v : Nat) : (d.flagBits f v).power = d.power := rfl
@[simp] theorem flagBits_conv (d : Dev) (f : Fld) (v : Nat) : (d.flagBits f v).conv = d.conv := rfl
@[simp] theorem flagBits_inj (d : Dev) (f : Fld) (v : Nat) : (d.flagBits f v).inj = d.inj := rfl
@[simp] theorem flagBits_drawers (d : Dev) (f : Fld) (v : Nat) : (d.flagBits f v).drawers = d.drawers := rfl
@[simp] theorem flagBits_excs (d : Dev) (f : Fld) (v : Nat) : (d.flagBits f v).excs = d.excs := rfl
@[simp] theorem flagBits_trk (d : Dev) (f : Fld) (v : Nat) : (d.flagBits f v).trk = d.trk := rfl
@[simp] theorem flagBits_pub0 (d : Dev) (f : Fld) (v : Nat) : (d.flagBits f v).pub0 = d.pub0 := rfl
@[simp] theorem flagBits_tim (d : Dev) (f : Fld) (v : Nat) : (d.flagBits f v).tim = d.tim := rfl
@[simp] theorem flagBits_loop (d : Dev) (f : Fld) (v : Nat) : (d.flagBits f v).loop = d.loop := rfl
@[simp] theorem flagBits_bal (d : Dev) (f : Fld) (v : Nat) : (d.flagBits f v).bal = d.bal := rfl
@[simp] theorem flagBits_flt (d : Dev) (f : Fld) (v : Nat) : (d.flagBits f v).flt = d.flt := rfl
@[simp] theorem flagBits_fltBase (d : Dev) (f : Fld) (v : Nat) : (d.flagBits f v).fltBase = d.fltBase := rfl
@[simp] theorem flagBits_fltNow (d : Dev) (f : Fld) (v : Nat) : (d.flagBits f v).fltNow = d.fltNow := rfl
@[simp] theorem flagBits_chain (d : Dev) (f : Fld) (v : Nat) : (d.flagBits f v).chain = d.chain := rfl
@[simp] theorem flagBits_hearth (d : Dev) (f : Fld) (v : Nat) : (d.flagBits f v).hearth = d.hearth := rfl
@[simp] theorem flagBits_load (d : Dev) (f : Fld) (v : Nat) : (d.flagBits f v).load = d.load := rfl
@[simp] theorem flagBits_diag (d : Dev) (f : Fld) (v : Nat) : (d.flagBits f v).diag = d.diag := rfl
@[simp] theorem flagBits_bist (d : Dev) (f : Fld) (v : Nat) : (d.flagBits f v).bist = d.bist := rfl
@[simp] theorem flagBits_check (d : Dev) (f : Fld) (v : Nat) : (d.flagBits f v).check = d.check := rfl
@[simp] theorem flagBits_cal (d : Dev) (f : Fld) (v : Nat) : (d.flagBits f v).cal = d.cal := rfl
@[simp] theorem flagBits_keys (d : Dev) (f : Fld) (v : Nat) : (d.flagBits f v).keys = d.keys := rfl
@[simp] theorem flagBits_nv (d : Dev) (f : Fld) (v : Nat) : (d.flagBits f v).nv = d.nv := rfl
@[simp] theorem flagBits_log (d : Dev) (f : Fld) (v : Nat) : (d.flagBits f v).log = d.log := rfl
@[simp] theorem flagBits_perf (d : Dev) (f : Fld) (v : Nat) : (d.flagBits f v).perf = d.perf := rfl
@[simp] theorem flagBits_guard (d : Dev) (f : Fld) (v : Nat) : (d.flagBits f v).guard = d.guard := rfl
@[simp] theorem flagBits_twin (d : Dev) (f : Fld) (v : Nat) : (d.flagBits f v).twin = d.twin := rfl
@[simp] theorem flagBits_safe (d : Dev) (f : Fld) (v : Nat) : (d.flagBits f v).safe = d.safe := rfl

/-! ### flag -/

@[simp] theorem flag_regs0 (d : Dev) (f : Fld) : (d.flag f).regs0 = d.regs0 := rfl
@[simp] theorem flag_cycle (d : Dev) (f : Fld) : (d.flag f).cycle = d.cycle := rfl
@[simp] theorem flag_tb (d : Dev) (f : Fld) : (d.flag f).tb = d.tb := rfl
@[simp] theorem flag_draws (d : Dev) (f : Fld) : (d.flag f).draws = d.draws := rfl
@[simp] theorem flag_sent (d : Dev) (f : Fld) : (d.flag f).sent = d.sent := rfl
@[simp] theorem flag_posted (d : Dev) (f : Fld) : (d.flag f).posted = d.posted := rfl
@[simp] theorem flag_power (d : Dev) (f : Fld) : (d.flag f).power = d.power := rfl
@[simp] theorem flag_conv (d : Dev) (f : Fld) : (d.flag f).conv = d.conv := rfl
@[simp] theorem flag_inj (d : Dev) (f : Fld) : (d.flag f).inj = d.inj := rfl
@[simp] theorem flag_drawers (d : Dev) (f : Fld) : (d.flag f).drawers = d.drawers := rfl
@[simp] theorem flag_excs (d : Dev) (f : Fld) : (d.flag f).excs = d.excs := rfl
@[simp] theorem flag_trk (d : Dev) (f : Fld) : (d.flag f).trk = d.trk := rfl
@[simp] theorem flag_pub0 (d : Dev) (f : Fld) : (d.flag f).pub0 = d.pub0 := rfl
@[simp] theorem flag_tim (d : Dev) (f : Fld) : (d.flag f).tim = d.tim := rfl
@[simp] theorem flag_loop (d : Dev) (f : Fld) : (d.flag f).loop = d.loop := rfl
@[simp] theorem flag_bal (d : Dev) (f : Fld) : (d.flag f).bal = d.bal := rfl
@[simp] theorem flag_flt (d : Dev) (f : Fld) : (d.flag f).flt = d.flt := rfl
@[simp] theorem flag_fltBase (d : Dev) (f : Fld) : (d.flag f).fltBase = d.fltBase := rfl
@[simp] theorem flag_fltNow (d : Dev) (f : Fld) : (d.flag f).fltNow = d.fltNow := rfl
@[simp] theorem flag_chain (d : Dev) (f : Fld) : (d.flag f).chain = d.chain := rfl
@[simp] theorem flag_hearth (d : Dev) (f : Fld) : (d.flag f).hearth = d.hearth := rfl
@[simp] theorem flag_load (d : Dev) (f : Fld) : (d.flag f).load = d.load := rfl
@[simp] theorem flag_diag (d : Dev) (f : Fld) : (d.flag f).diag = d.diag := rfl
@[simp] theorem flag_bist (d : Dev) (f : Fld) : (d.flag f).bist = d.bist := rfl
@[simp] theorem flag_check (d : Dev) (f : Fld) : (d.flag f).check = d.check := rfl
@[simp] theorem flag_cal (d : Dev) (f : Fld) : (d.flag f).cal = d.cal := rfl
@[simp] theorem flag_keys (d : Dev) (f : Fld) : (d.flag f).keys = d.keys := rfl
@[simp] theorem flag_nv (d : Dev) (f : Fld) : (d.flag f).nv = d.nv := rfl
@[simp] theorem flag_log (d : Dev) (f : Fld) : (d.flag f).log = d.log := rfl
@[simp] theorem flag_perf (d : Dev) (f : Fld) : (d.flag f).perf = d.perf := rfl
@[simp] theorem flag_guard (d : Dev) (f : Fld) : (d.flag f).guard = d.guard := rfl
@[simp] theorem flag_twin (d : Dev) (f : Fld) : (d.flag f).twin = d.twin := rfl
@[simp] theorem flag_safe (d : Dev) (f : Fld) : (d.flag f).safe = d.safe := rfl

/-! ### count -/

@[simp] theorem count_regs0 (d : Dev) (f : Fld) (n : Nat) : (d.count f n).regs0 = d.regs0 := rfl
@[simp] theorem count_cycle (d : Dev) (f : Fld) (n : Nat) : (d.count f n).cycle = d.cycle := rfl
@[simp] theorem count_tb (d : Dev) (f : Fld) (n : Nat) : (d.count f n).tb = d.tb := rfl
@[simp] theorem count_draws (d : Dev) (f : Fld) (n : Nat) : (d.count f n).draws = d.draws := rfl
@[simp] theorem count_sent (d : Dev) (f : Fld) (n : Nat) : (d.count f n).sent = d.sent := rfl
@[simp] theorem count_posted (d : Dev) (f : Fld) (n : Nat) : (d.count f n).posted = d.posted := rfl
@[simp] theorem count_power (d : Dev) (f : Fld) (n : Nat) : (d.count f n).power = d.power := rfl
@[simp] theorem count_conv (d : Dev) (f : Fld) (n : Nat) : (d.count f n).conv = d.conv := rfl
@[simp] theorem count_inj (d : Dev) (f : Fld) (n : Nat) : (d.count f n).inj = d.inj := rfl
@[simp] theorem count_drawers (d : Dev) (f : Fld) (n : Nat) : (d.count f n).drawers = d.drawers := rfl
@[simp] theorem count_excs (d : Dev) (f : Fld) (n : Nat) : (d.count f n).excs = d.excs := rfl
@[simp] theorem count_trk (d : Dev) (f : Fld) (n : Nat) : (d.count f n).trk = d.trk := rfl
@[simp] theorem count_pub0 (d : Dev) (f : Fld) (n : Nat) : (d.count f n).pub0 = d.pub0 := rfl
@[simp] theorem count_tim (d : Dev) (f : Fld) (n : Nat) : (d.count f n).tim = d.tim := rfl
@[simp] theorem count_loop (d : Dev) (f : Fld) (n : Nat) : (d.count f n).loop = d.loop := rfl
@[simp] theorem count_bal (d : Dev) (f : Fld) (n : Nat) : (d.count f n).bal = d.bal := rfl
@[simp] theorem count_flt (d : Dev) (f : Fld) (n : Nat) : (d.count f n).flt = d.flt := rfl
@[simp] theorem count_fltBase (d : Dev) (f : Fld) (n : Nat) : (d.count f n).fltBase = d.fltBase := rfl
@[simp] theorem count_fltNow (d : Dev) (f : Fld) (n : Nat) : (d.count f n).fltNow = d.fltNow := rfl
@[simp] theorem count_chain (d : Dev) (f : Fld) (n : Nat) : (d.count f n).chain = d.chain := rfl
@[simp] theorem count_hearth (d : Dev) (f : Fld) (n : Nat) : (d.count f n).hearth = d.hearth := rfl
@[simp] theorem count_load (d : Dev) (f : Fld) (n : Nat) : (d.count f n).load = d.load := rfl
@[simp] theorem count_diag (d : Dev) (f : Fld) (n : Nat) : (d.count f n).diag = d.diag := rfl
@[simp] theorem count_bist (d : Dev) (f : Fld) (n : Nat) : (d.count f n).bist = d.bist := rfl
@[simp] theorem count_check (d : Dev) (f : Fld) (n : Nat) : (d.count f n).check = d.check := rfl
@[simp] theorem count_cal (d : Dev) (f : Fld) (n : Nat) : (d.count f n).cal = d.cal := rfl
@[simp] theorem count_keys (d : Dev) (f : Fld) (n : Nat) : (d.count f n).keys = d.keys := rfl
@[simp] theorem count_nv (d : Dev) (f : Fld) (n : Nat) : (d.count f n).nv = d.nv := rfl
@[simp] theorem count_log (d : Dev) (f : Fld) (n : Nat) : (d.count f n).log = d.log := rfl
@[simp] theorem count_perf (d : Dev) (f : Fld) (n : Nat) : (d.count f n).perf = d.perf := rfl
@[simp] theorem count_guard (d : Dev) (f : Fld) (n : Nat) : (d.count f n).guard = d.guard := rfl
@[simp] theorem count_twin (d : Dev) (f : Fld) (n : Nat) : (d.count f n).twin = d.twin := rfl
@[simp] theorem count_safe (d : Dev) (f : Fld) (n : Nat) : (d.count f n).safe = d.safe := rfl

/-! ### irq -/

@[simp] theorem irq_regs0 (d : Dev) (n : Nat) : (d.irq n).regs0 = d.regs0 := rfl
@[simp] theorem irq_cycle (d : Dev) (n : Nat) : (d.irq n).cycle = d.cycle := rfl
@[simp] theorem irq_tb (d : Dev) (n : Nat) : (d.irq n).tb = d.tb := rfl
@[simp] theorem irq_draws (d : Dev) (n : Nat) : (d.irq n).draws = d.draws := rfl
@[simp] theorem irq_sent (d : Dev) (n : Nat) : (d.irq n).sent = d.sent := rfl
@[simp] theorem irq_posted (d : Dev) (n : Nat) : (d.irq n).posted = d.posted := rfl
@[simp] theorem irq_power (d : Dev) (n : Nat) : (d.irq n).power = d.power := rfl
@[simp] theorem irq_conv (d : Dev) (n : Nat) : (d.irq n).conv = d.conv := rfl
@[simp] theorem irq_inj (d : Dev) (n : Nat) : (d.irq n).inj = d.inj := rfl
@[simp] theorem irq_drawers (d : Dev) (n : Nat) : (d.irq n).drawers = d.drawers := rfl
@[simp] theorem irq_excs (d : Dev) (n : Nat) : (d.irq n).excs = d.excs := rfl
@[simp] theorem irq_trk (d : Dev) (n : Nat) : (d.irq n).trk = d.trk := rfl
@[simp] theorem irq_pub0 (d : Dev) (n : Nat) : (d.irq n).pub0 = d.pub0 := rfl
@[simp] theorem irq_tim (d : Dev) (n : Nat) : (d.irq n).tim = d.tim := rfl
@[simp] theorem irq_loop (d : Dev) (n : Nat) : (d.irq n).loop = d.loop := rfl
@[simp] theorem irq_bal (d : Dev) (n : Nat) : (d.irq n).bal = d.bal := rfl
@[simp] theorem irq_flt (d : Dev) (n : Nat) : (d.irq n).flt = d.flt := rfl
@[simp] theorem irq_fltBase (d : Dev) (n : Nat) : (d.irq n).fltBase = d.fltBase := rfl
@[simp] theorem irq_fltNow (d : Dev) (n : Nat) : (d.irq n).fltNow = d.fltNow := rfl
@[simp] theorem irq_chain (d : Dev) (n : Nat) : (d.irq n).chain = d.chain := rfl
@[simp] theorem irq_hearth (d : Dev) (n : Nat) : (d.irq n).hearth = d.hearth := rfl
@[simp] theorem irq_load (d : Dev) (n : Nat) : (d.irq n).load = d.load := rfl
@[simp] theorem irq_diag (d : Dev) (n : Nat) : (d.irq n).diag = d.diag := rfl
@[simp] theorem irq_bist (d : Dev) (n : Nat) : (d.irq n).bist = d.bist := rfl
@[simp] theorem irq_check (d : Dev) (n : Nat) : (d.irq n).check = d.check := rfl
@[simp] theorem irq_cal (d : Dev) (n : Nat) : (d.irq n).cal = d.cal := rfl
@[simp] theorem irq_keys (d : Dev) (n : Nat) : (d.irq n).keys = d.keys := rfl
@[simp] theorem irq_nv (d : Dev) (n : Nat) : (d.irq n).nv = d.nv := rfl
@[simp] theorem irq_log (d : Dev) (n : Nat) : (d.irq n).log = d.log := rfl
@[simp] theorem irq_perf (d : Dev) (n : Nat) : (d.irq n).perf = d.perf := rfl
@[simp] theorem irq_guard (d : Dev) (n : Nat) : (d.irq n).guard = d.guard := rfl
@[simp] theorem irq_twin (d : Dev) (n : Nat) : (d.irq n).twin = d.twin := rfl
@[simp] theorem irq_safe (d : Dev) (n : Nat) : (d.irq n).safe = d.safe := rfl

/-! ### emit -/

@[simp] theorem emit_regs (d : Dev) (o : Out) : (d.emit o).regs = d.regs := rfl
@[simp] theorem emit_regs0 (d : Dev) (o : Out) : (d.emit o).regs0 = d.regs0 := rfl
@[simp] theorem emit_touch (d : Dev) (o : Out) : (d.emit o).touch = d.touch := rfl
@[simp] theorem emit_cycle (d : Dev) (o : Out) : (d.emit o).cycle = d.cycle := rfl
@[simp] theorem emit_tb (d : Dev) (o : Out) : (d.emit o).tb = d.tb := rfl
@[simp] theorem emit_draws (d : Dev) (o : Out) : (d.emit o).draws = d.draws := rfl
@[simp] theorem emit_posted (d : Dev) (o : Out) : (d.emit o).posted = d.posted := rfl
@[simp] theorem emit_power (d : Dev) (o : Out) : (d.emit o).power = d.power := rfl
@[simp] theorem emit_conv (d : Dev) (o : Out) : (d.emit o).conv = d.conv := rfl
@[simp] theorem emit_inj (d : Dev) (o : Out) : (d.emit o).inj = d.inj := rfl
@[simp] theorem emit_drawers (d : Dev) (o : Out) : (d.emit o).drawers = d.drawers := rfl
@[simp] theorem emit_excs (d : Dev) (o : Out) : (d.emit o).excs = d.excs := rfl
@[simp] theorem emit_trk (d : Dev) (o : Out) : (d.emit o).trk = d.trk := rfl
@[simp] theorem emit_pub0 (d : Dev) (o : Out) : (d.emit o).pub0 = d.pub0 := rfl
@[simp] theorem emit_tim (d : Dev) (o : Out) : (d.emit o).tim = d.tim := rfl
@[simp] theorem emit_loop (d : Dev) (o : Out) : (d.emit o).loop = d.loop := rfl
@[simp] theorem emit_bal (d : Dev) (o : Out) : (d.emit o).bal = d.bal := rfl
@[simp] theorem emit_flt (d : Dev) (o : Out) : (d.emit o).flt = d.flt := rfl
@[simp] theorem emit_fltBase (d : Dev) (o : Out) : (d.emit o).fltBase = d.fltBase := rfl
@[simp] theorem emit_fltNow (d : Dev) (o : Out) : (d.emit o).fltNow = d.fltNow := rfl
@[simp] theorem emit_chain (d : Dev) (o : Out) : (d.emit o).chain = d.chain := rfl
@[simp] theorem emit_hearth (d : Dev) (o : Out) : (d.emit o).hearth = d.hearth := rfl
@[simp] theorem emit_load (d : Dev) (o : Out) : (d.emit o).load = d.load := rfl
@[simp] theorem emit_diag (d : Dev) (o : Out) : (d.emit o).diag = d.diag := rfl
@[simp] theorem emit_bist (d : Dev) (o : Out) : (d.emit o).bist = d.bist := rfl
@[simp] theorem emit_check (d : Dev) (o : Out) : (d.emit o).check = d.check := rfl
@[simp] theorem emit_cal (d : Dev) (o : Out) : (d.emit o).cal = d.cal := rfl
@[simp] theorem emit_keys (d : Dev) (o : Out) : (d.emit o).keys = d.keys := rfl
@[simp] theorem emit_nv (d : Dev) (o : Out) : (d.emit o).nv = d.nv := rfl
@[simp] theorem emit_log (d : Dev) (o : Out) : (d.emit o).log = d.log := rfl
@[simp] theorem emit_perf (d : Dev) (o : Out) : (d.emit o).perf = d.perf := rfl
@[simp] theorem emit_guard (d : Dev) (o : Out) : (d.emit o).guard = d.guard := rfl
@[simp] theorem emit_twin (d : Dev) (o : Out) : (d.emit o).twin = d.twin := rfl
@[simp] theorem emit_safe (d : Dev) (o : Out) : (d.emit o).safe = d.safe := rfl
@[simp] theorem emit_rd (d : Dev) (o : Out) (x : Nat) : (d.emit o).rd x = d.rd x := rfl
@[simp] theorem emit_get (d : Dev) (o : Out) (x : Fld) : (d.emit o).get x = d.get x := rfl
@[simp] theorem emit_bit (d : Dev) (o : Out) (x : Fld) : (d.emit o).bit x = d.bit x := rfl
@[simp] theorem emit_bitAt (d : Dev) (o : Out) (x : Fld) (j : Nat) : (d.emit o).bitAt x j = d.bitAt x j := rfl

/-! ### post -/

@[simp] theorem post_regs (d : Dev) (c l k : Nat) (i : Word) : (d.post c l k i).regs = d.regs := rfl
@[simp] theorem post_regs0 (d : Dev) (c l k : Nat) (i : Word) : (d.post c l k i).regs0 = d.regs0 := rfl
@[simp] theorem post_touch (d : Dev) (c l k : Nat) (i : Word) : (d.post c l k i).touch = d.touch := rfl
@[simp] theorem post_cycle (d : Dev) (c l k : Nat) (i : Word) : (d.post c l k i).cycle = d.cycle := rfl
@[simp] theorem post_tb (d : Dev) (c l k : Nat) (i : Word) : (d.post c l k i).tb = d.tb := rfl
@[simp] theorem post_draws (d : Dev) (c l k : Nat) (i : Word) : (d.post c l k i).draws = d.draws := rfl
@[simp] theorem post_sent (d : Dev) (c l k : Nat) (i : Word) : (d.post c l k i).sent = d.sent := rfl
@[simp] theorem post_power (d : Dev) (c l k : Nat) (i : Word) : (d.post c l k i).power = d.power := rfl
@[simp] theorem post_conv (d : Dev) (c l k : Nat) (i : Word) : (d.post c l k i).conv = d.conv := rfl
@[simp] theorem post_inj (d : Dev) (c l k : Nat) (i : Word) : (d.post c l k i).inj = d.inj := rfl
@[simp] theorem post_drawers (d : Dev) (c l k : Nat) (i : Word) : (d.post c l k i).drawers = d.drawers := rfl
@[simp] theorem post_excs (d : Dev) (c l k : Nat) (i : Word) : (d.post c l k i).excs = d.excs := rfl
@[simp] theorem post_trk (d : Dev) (c l k : Nat) (i : Word) : (d.post c l k i).trk = d.trk := rfl
@[simp] theorem post_pub0 (d : Dev) (c l k : Nat) (i : Word) : (d.post c l k i).pub0 = d.pub0 := rfl
@[simp] theorem post_tim (d : Dev) (c l k : Nat) (i : Word) : (d.post c l k i).tim = d.tim := rfl
@[simp] theorem post_loop (d : Dev) (c l k : Nat) (i : Word) : (d.post c l k i).loop = d.loop := rfl
@[simp] theorem post_bal (d : Dev) (c l k : Nat) (i : Word) : (d.post c l k i).bal = d.bal := rfl
@[simp] theorem post_flt (d : Dev) (c l k : Nat) (i : Word) : (d.post c l k i).flt = d.flt := rfl
@[simp] theorem post_fltBase (d : Dev) (c l k : Nat) (i : Word) : (d.post c l k i).fltBase = d.fltBase := rfl
@[simp] theorem post_fltNow (d : Dev) (c l k : Nat) (i : Word) : (d.post c l k i).fltNow = d.fltNow := rfl
@[simp] theorem post_chain (d : Dev) (c l k : Nat) (i : Word) : (d.post c l k i).chain = d.chain := rfl
@[simp] theorem post_hearth (d : Dev) (c l k : Nat) (i : Word) : (d.post c l k i).hearth = d.hearth := rfl
@[simp] theorem post_load (d : Dev) (c l k : Nat) (i : Word) : (d.post c l k i).load = d.load := rfl
@[simp] theorem post_diag (d : Dev) (c l k : Nat) (i : Word) : (d.post c l k i).diag = d.diag := rfl
@[simp] theorem post_bist (d : Dev) (c l k : Nat) (i : Word) : (d.post c l k i).bist = d.bist := rfl
@[simp] theorem post_check (d : Dev) (c l k : Nat) (i : Word) : (d.post c l k i).check = d.check := rfl
@[simp] theorem post_cal (d : Dev) (c l k : Nat) (i : Word) : (d.post c l k i).cal = d.cal := rfl
@[simp] theorem post_keys (d : Dev) (c l k : Nat) (i : Word) : (d.post c l k i).keys = d.keys := rfl
@[simp] theorem post_nv (d : Dev) (c l k : Nat) (i : Word) : (d.post c l k i).nv = d.nv := rfl
@[simp] theorem post_log (d : Dev) (c l k : Nat) (i : Word) : (d.post c l k i).log = d.log := rfl
@[simp] theorem post_perf (d : Dev) (c l k : Nat) (i : Word) : (d.post c l k i).perf = d.perf := rfl
@[simp] theorem post_guard (d : Dev) (c l k : Nat) (i : Word) : (d.post c l k i).guard = d.guard := rfl
@[simp] theorem post_twin (d : Dev) (c l k : Nat) (i : Word) : (d.post c l k i).twin = d.twin := rfl
@[simp] theorem post_safe (d : Dev) (c l k : Nat) (i : Word) : (d.post c l k i).safe = d.safe := rfl
@[simp] theorem post_rd (d : Dev) (c l k : Nat) (i : Word) (x : Nat) : (d.post c l k i).rd x = d.rd x := rfl
@[simp] theorem post_get (d : Dev) (c l k : Nat) (i : Word) (x : Fld) : (d.post c l k i).get x = d.get x := rfl
@[simp] theorem post_bit (d : Dev) (c l k : Nat) (i : Word) (x : Fld) : (d.post c l k i).bit x = d.bit x := rfl
@[simp] theorem post_bitAt (d : Dev) (c l k : Nat) (i : Word) (x : Fld) (j : Nat) : (d.post c l k i).bitAt x j = d.bitAt x j := rfl

/-! ### event -/

@[simp] theorem event_regs (d : Dev) (e n : Nat) : (d.event e n).regs = d.regs := rfl
@[simp] theorem event_regs0 (d : Dev) (e n : Nat) : (d.event e n).regs0 = d.regs0 := rfl
@[simp] theorem event_touch (d : Dev) (e n : Nat) : (d.event e n).touch = d.touch := rfl
@[simp] theorem event_cycle (d : Dev) (e n : Nat) : (d.event e n).cycle = d.cycle := rfl
@[simp] theorem event_tb (d : Dev) (e n : Nat) : (d.event e n).tb = d.tb := rfl
@[simp] theorem event_draws (d : Dev) (e n : Nat) : (d.event e n).draws = d.draws := rfl
@[simp] theorem event_sent (d : Dev) (e n : Nat) : (d.event e n).sent = d.sent := rfl
@[simp] theorem event_posted (d : Dev) (e n : Nat) : (d.event e n).posted = d.posted := rfl
@[simp] theorem event_power (d : Dev) (e n : Nat) : (d.event e n).power = d.power := rfl
@[simp] theorem event_conv (d : Dev) (e n : Nat) : (d.event e n).conv = d.conv := rfl
@[simp] theorem event_inj (d : Dev) (e n : Nat) : (d.event e n).inj = d.inj := rfl
@[simp] theorem event_drawers (d : Dev) (e n : Nat) : (d.event e n).drawers = d.drawers := rfl
@[simp] theorem event_excs (d : Dev) (e n : Nat) : (d.event e n).excs = d.excs := rfl
@[simp] theorem event_trk (d : Dev) (e n : Nat) : (d.event e n).trk = d.trk := rfl
@[simp] theorem event_pub0 (d : Dev) (e n : Nat) : (d.event e n).pub0 = d.pub0 := rfl
@[simp] theorem event_tim (d : Dev) (e n : Nat) : (d.event e n).tim = d.tim := rfl
@[simp] theorem event_loop (d : Dev) (e n : Nat) : (d.event e n).loop = d.loop := rfl
@[simp] theorem event_bal (d : Dev) (e n : Nat) : (d.event e n).bal = d.bal := rfl
@[simp] theorem event_flt (d : Dev) (e n : Nat) : (d.event e n).flt = d.flt := rfl
@[simp] theorem event_fltBase (d : Dev) (e n : Nat) : (d.event e n).fltBase = d.fltBase := rfl
@[simp] theorem event_fltNow (d : Dev) (e n : Nat) : (d.event e n).fltNow = d.fltNow := rfl
@[simp] theorem event_chain (d : Dev) (e n : Nat) : (d.event e n).chain = d.chain := rfl
@[simp] theorem event_hearth (d : Dev) (e n : Nat) : (d.event e n).hearth = d.hearth := rfl
@[simp] theorem event_load (d : Dev) (e n : Nat) : (d.event e n).load = d.load := rfl
@[simp] theorem event_diag (d : Dev) (e n : Nat) : (d.event e n).diag = d.diag := rfl
@[simp] theorem event_bist (d : Dev) (e n : Nat) : (d.event e n).bist = d.bist := rfl
@[simp] theorem event_check (d : Dev) (e n : Nat) : (d.event e n).check = d.check := rfl
@[simp] theorem event_cal (d : Dev) (e n : Nat) : (d.event e n).cal = d.cal := rfl
@[simp] theorem event_keys (d : Dev) (e n : Nat) : (d.event e n).keys = d.keys := rfl
@[simp] theorem event_nv (d : Dev) (e n : Nat) : (d.event e n).nv = d.nv := rfl
@[simp] theorem event_log (d : Dev) (e n : Nat) : (d.event e n).log = d.log := rfl
@[simp] theorem event_guard (d : Dev) (e n : Nat) : (d.event e n).guard = d.guard := rfl
@[simp] theorem event_twin (d : Dev) (e n : Nat) : (d.event e n).twin = d.twin := rfl
@[simp] theorem event_safe (d : Dev) (e n : Nat) : (d.event e n).safe = d.safe := rfl
@[simp] theorem event_rd (d : Dev) (e n : Nat) (x : Nat) : (d.event e n).rd x = d.rd x := rfl
@[simp] theorem event_get (d : Dev) (e n : Nat) (x : Fld) : (d.event e n).get x = d.get x := rfl
@[simp] theorem event_bit (d : Dev) (e n : Nat) (x : Fld) : (d.event e n).bit x = d.bit x := rfl
@[simp] theorem event_bitAt (d : Dev) (e n : Nat) (x : Fld) (j : Nat) : (d.event e n).bitAt x j = d.bitAt x j := rfl

/-! ### setW -/

@[simp] theorem setW_regs (d : Dev) (r : BitVec 4) (v : Word) : (d.setW r v).regs = d.regs := rfl
@[simp] theorem setW_regs0 (d : Dev) (r : BitVec 4) (v : Word) : (d.setW r v).regs0 = d.regs0 := rfl
@[simp] theorem setW_touch (d : Dev) (r : BitVec 4) (v : Word) : (d.setW r v).touch = d.touch := rfl
@[simp] theorem setW_cycle (d : Dev) (r : BitVec 4) (v : Word) : (d.setW r v).cycle = d.cycle := rfl
@[simp] theorem setW_tb (d : Dev) (r : BitVec 4) (v : Word) : (d.setW r v).tb = d.tb := rfl
@[simp] theorem setW_draws (d : Dev) (r : BitVec 4) (v : Word) : (d.setW r v).draws = d.draws := rfl
@[simp] theorem setW_sent (d : Dev) (r : BitVec 4) (v : Word) : (d.setW r v).sent = d.sent := rfl
@[simp] theorem setW_posted (d : Dev) (r : BitVec 4) (v : Word) : (d.setW r v).posted = d.posted := rfl
@[simp] theorem setW_power (d : Dev) (r : BitVec 4) (v : Word) : (d.setW r v).power = d.power := rfl
@[simp] theorem setW_conv (d : Dev) (r : BitVec 4) (v : Word) : (d.setW r v).conv = d.conv := rfl
@[simp] theorem setW_inj (d : Dev) (r : BitVec 4) (v : Word) : (d.setW r v).inj = d.inj := rfl
@[simp] theorem setW_drawers (d : Dev) (r : BitVec 4) (v : Word) : (d.setW r v).drawers = d.drawers := rfl
@[simp] theorem setW_excs (d : Dev) (r : BitVec 4) (v : Word) : (d.setW r v).excs = d.excs := rfl
@[simp] theorem setW_trk (d : Dev) (r : BitVec 4) (v : Word) : (d.setW r v).trk = d.trk := rfl
@[simp] theorem setW_pub0 (d : Dev) (r : BitVec 4) (v : Word) : (d.setW r v).pub0 = d.pub0 := rfl
@[simp] theorem setW_tim (d : Dev) (r : BitVec 4) (v : Word) : (d.setW r v).tim = d.tim := rfl
@[simp] theorem setW_loop (d : Dev) (r : BitVec 4) (v : Word) : (d.setW r v).loop = d.loop := rfl
@[simp] theorem setW_bal (d : Dev) (r : BitVec 4) (v : Word) : (d.setW r v).bal = d.bal := rfl
@[simp] theorem setW_flt (d : Dev) (r : BitVec 4) (v : Word) : (d.setW r v).flt = d.flt := rfl
@[simp] theorem setW_fltBase (d : Dev) (r : BitVec 4) (v : Word) : (d.setW r v).fltBase = d.fltBase := rfl
@[simp] theorem setW_fltNow (d : Dev) (r : BitVec 4) (v : Word) : (d.setW r v).fltNow = d.fltNow := rfl
@[simp] theorem setW_chain (d : Dev) (r : BitVec 4) (v : Word) : (d.setW r v).chain = d.chain := rfl
@[simp] theorem setW_load (d : Dev) (r : BitVec 4) (v : Word) : (d.setW r v).load = d.load := rfl
@[simp] theorem setW_diag (d : Dev) (r : BitVec 4) (v : Word) : (d.setW r v).diag = d.diag := rfl
@[simp] theorem setW_bist (d : Dev) (r : BitVec 4) (v : Word) : (d.setW r v).bist = d.bist := rfl
@[simp] theorem setW_check (d : Dev) (r : BitVec 4) (v : Word) : (d.setW r v).check = d.check := rfl
@[simp] theorem setW_cal (d : Dev) (r : BitVec 4) (v : Word) : (d.setW r v).cal = d.cal := rfl
@[simp] theorem setW_keys (d : Dev) (r : BitVec 4) (v : Word) : (d.setW r v).keys = d.keys := rfl
@[simp] theorem setW_nv (d : Dev) (r : BitVec 4) (v : Word) : (d.setW r v).nv = d.nv := rfl
@[simp] theorem setW_log (d : Dev) (r : BitVec 4) (v : Word) : (d.setW r v).log = d.log := rfl
@[simp] theorem setW_perf (d : Dev) (r : BitVec 4) (v : Word) : (d.setW r v).perf = d.perf := rfl
@[simp] theorem setW_guard (d : Dev) (r : BitVec 4) (v : Word) : (d.setW r v).guard = d.guard := rfl
@[simp] theorem setW_twin (d : Dev) (r : BitVec 4) (v : Word) : (d.setW r v).twin = d.twin := rfl
@[simp] theorem setW_safe (d : Dev) (r : BitVec 4) (v : Word) : (d.setW r v).safe = d.safe := rfl
@[simp] theorem setW_rd (d : Dev) (r : BitVec 4) (v : Word) (x : Nat) : (d.setW r v).rd x = d.rd x := rfl
@[simp] theorem setW_get (d : Dev) (r : BitVec 4) (v : Word) (x : Fld) : (d.setW r v).get x = d.get x := rfl
@[simp] theorem setW_bit (d : Dev) (r : BitVec 4) (v : Word) (x : Fld) : (d.setW r v).bit x = d.bit x := rfl
@[simp] theorem setW_bitAt (d : Dev) (r : BitVec 4) (v : Word) (x : Fld) (j : Nat) : (d.setW r v).bitAt x j = d.bitAt x j := rfl

/-! ### setFlags -/

@[simp] theorem setFlags_regs (d : Dev) (z n c v : Bool) : (d.setFlags z n c v).regs = d.regs := rfl
@[simp] theorem setFlags_regs0 (d : Dev) (z n c v : Bool) : (d.setFlags z n c v).regs0 = d.regs0 := rfl
@[simp] theorem setFlags_touch (d : Dev) (z n c v : Bool) : (d.setFlags z n c v).touch = d.touch := rfl
@[simp] theorem setFlags_cycle (d : Dev) (z n c v : Bool) : (d.setFlags z n c v).cycle = d.cycle := rfl
@[simp] theorem setFlags_tb (d : Dev) (z n c v : Bool) : (d.setFlags z n c v).tb = d.tb := rfl
@[simp] theorem setFlags_draws (d : Dev) (z n c v : Bool) : (d.setFlags z n c v).draws = d.draws := rfl
@[simp] theorem setFlags_sent (d : Dev) (z n c v : Bool) : (d.setFlags z n c v).sent = d.sent := rfl
@[simp] theorem setFlags_posted (d : Dev) (z n c v : Bool) : (d.setFlags z n c v).posted = d.posted := rfl
@[simp] theorem setFlags_power (d : Dev) (z n c v : Bool) : (d.setFlags z n c v).power = d.power := rfl
@[simp] theorem setFlags_conv (d : Dev) (z n c v : Bool) : (d.setFlags z n c v).conv = d.conv := rfl
@[simp] theorem setFlags_inj (d : Dev) (z n c v : Bool) : (d.setFlags z n c v).inj = d.inj := rfl
@[simp] theorem setFlags_drawers (d : Dev) (z n c v : Bool) : (d.setFlags z n c v).drawers = d.drawers := rfl
@[simp] theorem setFlags_excs (d : Dev) (z n c v : Bool) : (d.setFlags z n c v).excs = d.excs := rfl
@[simp] theorem setFlags_trk (d : Dev) (z n c v : Bool) : (d.setFlags z n c v).trk = d.trk := rfl
@[simp] theorem setFlags_pub0 (d : Dev) (z n c v : Bool) : (d.setFlags z n c v).pub0 = d.pub0 := rfl
@[simp] theorem setFlags_tim (d : Dev) (z n c v : Bool) : (d.setFlags z n c v).tim = d.tim := rfl
@[simp] theorem setFlags_loop (d : Dev) (z n c v : Bool) : (d.setFlags z n c v).loop = d.loop := rfl
@[simp] theorem setFlags_bal (d : Dev) (z n c v : Bool) : (d.setFlags z n c v).bal = d.bal := rfl
@[simp] theorem setFlags_flt (d : Dev) (z n c v : Bool) : (d.setFlags z n c v).flt = d.flt := rfl
@[simp] theorem setFlags_fltBase (d : Dev) (z n c v : Bool) : (d.setFlags z n c v).fltBase = d.fltBase := rfl
@[simp] theorem setFlags_fltNow (d : Dev) (z n c v : Bool) : (d.setFlags z n c v).fltNow = d.fltNow := rfl
@[simp] theorem setFlags_chain (d : Dev) (z n c v : Bool) : (d.setFlags z n c v).chain = d.chain := rfl
@[simp] theorem setFlags_load (d : Dev) (z n c v : Bool) : (d.setFlags z n c v).load = d.load := rfl
@[simp] theorem setFlags_diag (d : Dev) (z n c v : Bool) : (d.setFlags z n c v).diag = d.diag := rfl
@[simp] theorem setFlags_bist (d : Dev) (z n c v : Bool) : (d.setFlags z n c v).bist = d.bist := rfl
@[simp] theorem setFlags_check (d : Dev) (z n c v : Bool) : (d.setFlags z n c v).check = d.check := rfl
@[simp] theorem setFlags_cal (d : Dev) (z n c v : Bool) : (d.setFlags z n c v).cal = d.cal := rfl
@[simp] theorem setFlags_keys (d : Dev) (z n c v : Bool) : (d.setFlags z n c v).keys = d.keys := rfl
@[simp] theorem setFlags_nv (d : Dev) (z n c v : Bool) : (d.setFlags z n c v).nv = d.nv := rfl
@[simp] theorem setFlags_log (d : Dev) (z n c v : Bool) : (d.setFlags z n c v).log = d.log := rfl
@[simp] theorem setFlags_perf (d : Dev) (z n c v : Bool) : (d.setFlags z n c v).perf = d.perf := rfl
@[simp] theorem setFlags_guard (d : Dev) (z n c v : Bool) : (d.setFlags z n c v).guard = d.guard := rfl
@[simp] theorem setFlags_twin (d : Dev) (z n c v : Bool) : (d.setFlags z n c v).twin = d.twin := rfl
@[simp] theorem setFlags_safe (d : Dev) (z n c v : Bool) : (d.setFlags z n c v).safe = d.safe := rfl
@[simp] theorem setFlags_rd (d : Dev) (z n c v : Bool) (x : Nat) : (d.setFlags z n c v).rd x = d.rd x := rfl
@[simp] theorem setFlags_get (d : Dev) (z n c v : Bool) (x : Fld) : (d.setFlags z n c v).get x = d.get x := rfl
@[simp] theorem setFlags_bit (d : Dev) (z n c v : Bool) (x : Fld) : (d.setFlags z n c v).bit x = d.bit x := rfl
@[simp] theorem setFlags_bitAt (d : Dev) (z n c v : Bool) (x : Fld) (j : Nat) : (d.setFlags z n c v).bitAt x j = d.bitAt x j := rfl

/-! ### setZ -/

@[simp] theorem setZ_regs (d : Dev) (b : Bool) : (d.setZ b).regs = d.regs := rfl
@[simp] theorem setZ_regs0 (d : Dev) (b : Bool) : (d.setZ b).regs0 = d.regs0 := rfl
@[simp] theorem setZ_touch (d : Dev) (b : Bool) : (d.setZ b).touch = d.touch := rfl
@[simp] theorem setZ_cycle (d : Dev) (b : Bool) : (d.setZ b).cycle = d.cycle := rfl
@[simp] theorem setZ_tb (d : Dev) (b : Bool) : (d.setZ b).tb = d.tb := rfl
@[simp] theorem setZ_draws (d : Dev) (b : Bool) : (d.setZ b).draws = d.draws := rfl
@[simp] theorem setZ_sent (d : Dev) (b : Bool) : (d.setZ b).sent = d.sent := rfl
@[simp] theorem setZ_posted (d : Dev) (b : Bool) : (d.setZ b).posted = d.posted := rfl
@[simp] theorem setZ_power (d : Dev) (b : Bool) : (d.setZ b).power = d.power := rfl
@[simp] theorem setZ_conv (d : Dev) (b : Bool) : (d.setZ b).conv = d.conv := rfl
@[simp] theorem setZ_inj (d : Dev) (b : Bool) : (d.setZ b).inj = d.inj := rfl
@[simp] theorem setZ_drawers (d : Dev) (b : Bool) : (d.setZ b).drawers = d.drawers := rfl
@[simp] theorem setZ_excs (d : Dev) (b : Bool) : (d.setZ b).excs = d.excs := rfl
@[simp] theorem setZ_trk (d : Dev) (b : Bool) : (d.setZ b).trk = d.trk := rfl
@[simp] theorem setZ_pub0 (d : Dev) (b : Bool) : (d.setZ b).pub0 = d.pub0 := rfl
@[simp] theorem setZ_tim (d : Dev) (b : Bool) : (d.setZ b).tim = d.tim := rfl
@[simp] theorem setZ_loop (d : Dev) (b : Bool) : (d.setZ b).loop = d.loop := rfl
@[simp] theorem setZ_bal (d : Dev) (b : Bool) : (d.setZ b).bal = d.bal := rfl
@[simp] theorem setZ_flt (d : Dev) (b : Bool) : (d.setZ b).flt = d.flt := rfl
@[simp] theorem setZ_fltBase (d : Dev) (b : Bool) : (d.setZ b).fltBase = d.fltBase := rfl
@[simp] theorem setZ_fltNow (d : Dev) (b : Bool) : (d.setZ b).fltNow = d.fltNow := rfl
@[simp] theorem setZ_chain (d : Dev) (b : Bool) : (d.setZ b).chain = d.chain := rfl
@[simp] theorem setZ_load (d : Dev) (b : Bool) : (d.setZ b).load = d.load := rfl
@[simp] theorem setZ_diag (d : Dev) (b : Bool) : (d.setZ b).diag = d.diag := rfl
@[simp] theorem setZ_bist (d : Dev) (b : Bool) : (d.setZ b).bist = d.bist := rfl
@[simp] theorem setZ_check (d : Dev) (b : Bool) : (d.setZ b).check = d.check := rfl
@[simp] theorem setZ_cal (d : Dev) (b : Bool) : (d.setZ b).cal = d.cal := rfl
@[simp] theorem setZ_keys (d : Dev) (b : Bool) : (d.setZ b).keys = d.keys := rfl
@[simp] theorem setZ_nv (d : Dev) (b : Bool) : (d.setZ b).nv = d.nv := rfl
@[simp] theorem setZ_log (d : Dev) (b : Bool) : (d.setZ b).log = d.log := rfl
@[simp] theorem setZ_perf (d : Dev) (b : Bool) : (d.setZ b).perf = d.perf := rfl
@[simp] theorem setZ_guard (d : Dev) (b : Bool) : (d.setZ b).guard = d.guard := rfl
@[simp] theorem setZ_twin (d : Dev) (b : Bool) : (d.setZ b).twin = d.twin := rfl
@[simp] theorem setZ_safe (d : Dev) (b : Bool) : (d.setZ b).safe = d.safe := rfl
@[simp] theorem setZ_rd (d : Dev) (b : Bool) (x : Nat) : (d.setZ b).rd x = d.rd x := rfl
@[simp] theorem setZ_get (d : Dev) (b : Bool) (x : Fld) : (d.setZ b).get x = d.get x := rfl
@[simp] theorem setZ_bit (d : Dev) (b : Bool) (x : Fld) : (d.setZ b).bit x = d.bit x := rfl
@[simp] theorem setZ_bitAt (d : Dev) (b : Bool) (x : Fld) (j : Nat) : (d.setZ b).bitAt x j = d.bitAt x j := rfl

/-! ### jump -/

@[simp] theorem jump_regs (d : Dev) (o : Nat) : (d.jump o).regs = d.regs := rfl
@[simp] theorem jump_regs0 (d : Dev) (o : Nat) : (d.jump o).regs0 = d.regs0 := rfl
@[simp] theorem jump_touch (d : Dev) (o : Nat) : (d.jump o).touch = d.touch := rfl
@[simp] theorem jump_cycle (d : Dev) (o : Nat) : (d.jump o).cycle = d.cycle := rfl
@[simp] theorem jump_tb (d : Dev) (o : Nat) : (d.jump o).tb = d.tb := rfl
@[simp] theorem jump_draws (d : Dev) (o : Nat) : (d.jump o).draws = d.draws := rfl
@[simp] theorem jump_sent (d : Dev) (o : Nat) : (d.jump o).sent = d.sent := rfl
@[simp] theorem jump_posted (d : Dev) (o : Nat) : (d.jump o).posted = d.posted := rfl
@[simp] theorem jump_power (d : Dev) (o : Nat) : (d.jump o).power = d.power := rfl
@[simp] theorem jump_conv (d : Dev) (o : Nat) : (d.jump o).conv = d.conv := rfl
@[simp] theorem jump_inj (d : Dev) (o : Nat) : (d.jump o).inj = d.inj := rfl
@[simp] theorem jump_drawers (d : Dev) (o : Nat) : (d.jump o).drawers = d.drawers := rfl
@[simp] theorem jump_excs (d : Dev) (o : Nat) : (d.jump o).excs = d.excs := rfl
@[simp] theorem jump_trk (d : Dev) (o : Nat) : (d.jump o).trk = d.trk := rfl
@[simp] theorem jump_pub0 (d : Dev) (o : Nat) : (d.jump o).pub0 = d.pub0 := rfl
@[simp] theorem jump_tim (d : Dev) (o : Nat) : (d.jump o).tim = d.tim := rfl
@[simp] theorem jump_loop (d : Dev) (o : Nat) : (d.jump o).loop = d.loop := rfl
@[simp] theorem jump_bal (d : Dev) (o : Nat) : (d.jump o).bal = d.bal := rfl
@[simp] theorem jump_flt (d : Dev) (o : Nat) : (d.jump o).flt = d.flt := rfl
@[simp] theorem jump_fltBase (d : Dev) (o : Nat) : (d.jump o).fltBase = d.fltBase := rfl
@[simp] theorem jump_fltNow (d : Dev) (o : Nat) : (d.jump o).fltNow = d.fltNow := rfl
@[simp] theorem jump_chain (d : Dev) (o : Nat) : (d.jump o).chain = d.chain := rfl
@[simp] theorem jump_load (d : Dev) (o : Nat) : (d.jump o).load = d.load := rfl
@[simp] theorem jump_diag (d : Dev) (o : Nat) : (d.jump o).diag = d.diag := rfl
@[simp] theorem jump_bist (d : Dev) (o : Nat) : (d.jump o).bist = d.bist := rfl
@[simp] theorem jump_check (d : Dev) (o : Nat) : (d.jump o).check = d.check := rfl
@[simp] theorem jump_cal (d : Dev) (o : Nat) : (d.jump o).cal = d.cal := rfl
@[simp] theorem jump_keys (d : Dev) (o : Nat) : (d.jump o).keys = d.keys := rfl
@[simp] theorem jump_nv (d : Dev) (o : Nat) : (d.jump o).nv = d.nv := rfl
@[simp] theorem jump_log (d : Dev) (o : Nat) : (d.jump o).log = d.log := rfl
@[simp] theorem jump_perf (d : Dev) (o : Nat) : (d.jump o).perf = d.perf := rfl
@[simp] theorem jump_guard (d : Dev) (o : Nat) : (d.jump o).guard = d.guard := rfl
@[simp] theorem jump_twin (d : Dev) (o : Nat) : (d.jump o).twin = d.twin := rfl
@[simp] theorem jump_safe (d : Dev) (o : Nat) : (d.jump o).safe = d.safe := rfl
@[simp] theorem jump_rd (d : Dev) (o : Nat) (x : Nat) : (d.jump o).rd x = d.rd x := rfl
@[simp] theorem jump_get (d : Dev) (o : Nat) (x : Fld) : (d.jump o).get x = d.get x := rfl
@[simp] theorem jump_bit (d : Dev) (o : Nat) (x : Fld) : (d.jump o).bit x = d.bit x := rfl
@[simp] theorem jump_bitAt (d : Dev) (o : Nat) (x : Fld) (j : Nat) : (d.jump o).bitAt x j = d.bitAt x j := rfl

@[simp] theorem emit_sent (d : Dev) (o : Out) : (d.emit o).sent = d.sent ++ [o] := rfl
@[simp] theorem post_posted (d : Dev) (c l k : Nat) (i : Word) : (d.post c l k i).posted = d.posted ++ [⟨c, l, k, i, false⟩] := rfl
@[simp] theorem event_perf_events (d : Dev) (e n : Nat) : (d.event e n).perf.events = d.perf.events ++ List.replicate n e := rfl
@[simp] theorem setW_w (d : Dev) (r : BitVec 4) (v : Word) : (d.setW r v).hearth.w = upd d.hearth.w r.toNat (fun _ => v) := rfl

end Sys2Proof.Machine.Dev
end

