-- ==== Sys2Proof/Laws/Settle.lean ====
section
/-!
SUPPORT. What the end of a cycle does to a device on which no fault and no publication waits, and what `State.on` and its kin answer.
-/

namespace Sys2Proof.Machine

namespace Dev

theorem cycleEnds_refl (d : Dev) : d.cycleEnds d := ⟨rfl, fun _ _ => rfl⟩

theorem cycleEnds_trans {a b c : Dev} (h₁ : a.cycleEnds b) (h₂ : b.cycleEnds c) : a.cycleEnds c := by
  refine ⟨?_, fun x hx => (h₂.2 x hx).trans (h₁.2 x hx)⟩
  have e₁ := h₁.1
  have e₂ := h₂.1
  unfold cycleEndFrom at e₁ e₂ ⊢
  rw [e₂, e₁]

theorem setShelf_shelves_eq (d : Dev) (k : Nat) (f : Shelf → Shelf) :
    d.setShelf k f = { d with bal := { d.bal with shelves := (d.setShelf k f).bal.shelves } } := rfl

theorem cycleEnds_selOff (d : Dev) (k : Nat) : d.cycleEnds (d.selOff k) := by
  unfold selOff
  split
  · exact d.cycleEnds_refl
  · exact ⟨rfl, fun _ _ => rfl⟩

theorem cycleEnds_foldl {α : Type} (f : Dev → α → Dev) (h : ∀ (d : Dev) a, d.cycleEnds (f d a)) (l : List α) : ∀ d : Dev, d.cycleEnds (l.foldl f d) := by
  induction l with
  | nil => exact cycleEnds_refl
  | cons a t ih => exact fun d => cycleEnds_trans (h d a) (ih _)

theorem cycleEnds_sendMsg (d : Dev) (ty : Nat) (p : List Byte) : d.cycleEnds (d.sendMsg ty p) := by
  unfold sendMsg
  split
  · exact d.cycleEnds_refl
  · exact ⟨rfl, fun _ _ => rfl⟩

theorem cycleEnds_hoSent (d : Dev) : d.cycleEnds { d with bal := { d.bal with hoSent := true } } := ⟨rfl, fun _ _ => rfl⟩

theorem cycleEnds_handoverStep (d : Dev) : d.cycleEnds d.handoverStep := by
  unfold handoverStep
  split
  · exact d.cycleEnds_refl
  · split
    · exact cycleEnds_trans (b := { d with bal := { d.bal with returning := false } }) ⟨rfl, fun _ _ => rfl⟩ (cycleEnds_sendMsg _ _ _)
    · split
      · exact d.cycleEnds_refl
      · have h := cycleEnds_foldl selOff cycleEnds_selOff (List.range 4) d
        generalize (List.range 4).foldl selOff d = e at h ⊢
        exact cycleEnds_trans h (cycleEnds_trans (cycleEnds_hoSent e) (cycleEnds_sendMsg _ _ _))

theorem cycleEnds_stage (d : Dev) (r : LogRec) : d.cycleEnds (d.stage r) := ⟨rfl, fun _ _ => rfl⟩

theorem cycleEnds_flagBits (d : Dev) (f : Fld) (v : Nat) (h : f.addr ∈ cycleEndRegs) : d.cycleEnds (d.flagBits f v) :=
  ⟨rfl, fun _ ha => rd_flagBits_other d f v (fun e => ha (e ▸ h))⟩

theorem cycleEnds_put (d : Dev) (f : Fld) (v : Nat) (h : f.addr ∈ cycleEndRegs) : d.cycleEnds (d.put f v) :=
  ⟨rfl, fun _ ha => rd_put_other d f v (fun e => ha (e ▸ h))⟩

theorem cycleEnds_stageQueues (d : Dev) : d.cycleEnds d.stageQueues := by
  unfold stageQueues
  split
  · exact d.cycleEnds_refl
  · have h : d.cycleEnds ((mergeQueues (d.log.hwQ.length + d.log.progQ.length) d.log.hwQ d.log.progQ).foldl stage
        { d with log := { d.log with hwQ := [], progQ := [] } }) :=
      cycleEnds_trans (b := { d with log := { d.log with hwQ := [], progQ := [] } }) ⟨rfl, fun _ _ => rfl⟩
        (cycleEnds_foldl stage cycleEnds_stage _ _)
    dsimp only
    split
    · exact h
    · exact cycleEnds_trans h (cycleEnds_flagBits _ _ _ (by decide))

theorem cycleEnds_memPause (d : Dev) : d.cycleEnds d.memPause := by
  unfold memPause
  split
  · exact d.cycleEnds_refl
  · exact cycleEnds_put _ _ _ (by decide)

theorem cycleEnds_emit (d : Dev) (o : Out) : d.cycleEnds (d.emit o) := ⟨rfl, fun _ _ => rfl⟩

theorem cycleEnds_pins (d : Dev) (pin out : Bool) : d.cycleEnds { d with power := { d.power with fltPin := pin, wakeout := out } } :=
  ⟨rfl, fun _ _ => rfl⟩

theorem cycleEnds_symbol (d : Dev) (b : Bool) : d.cycleEnds { d with guard := { d.guard with symbol := b } } := ⟨rfl, fun _ _ => rfl⟩

theorem cycleEnds_updateSymbol (d : Dev) : d.cycleEnds d.updateSymbol := by
  unfold updateSymbol
  dsimp only
  generalize (d.glatch != 0) = fg
  have h₁ : d.cycleEnds (d.putB F.GRD_STAT_FGSYM fg) := cycleEnds_put _ _ _ (by decide)
  have h₂ := cycleEnds_trans h₁ (cycleEnds_put _ F.FLT_STAT_FRSYM d.highFault.toNat (by decide))
  have h₃ := cycleEnds_trans h₂ (cycleEnds_put _ F.GRD_STAT_SYM ((fg || d.highFault) && d.power.released).toNat (by decide))
  have h₄ (out : Bool) := cycleEnds_trans h₃ (cycleEnds_pins _ (d.bit F.GRD_STAT_ARMED && !fg) out)
  have h₅ (out : Bool) := cycleEnds_trans (h₄ out) (cycleEnds_put _ F.GRD_STAT_FLTPIN (d.bit F.GRD_STAT_ARMED && !fg).toNat (by decide))
  split
  · exact h₅ _
  · exact cycleEnds_trans (h₅ _) (cycleEnds_trans (cycleEnds_symbol _ _) (cycleEnds_trans (cycleEnds_emit _ _) (cycleEnds_emit _ _)))

/-- The end of a cycle with nothing posted and nothing published. -/
theorem settle_calm (d : Dev) (h : d.calm) : d.cycleEnds d.settle := by
  unfold settle
  have hp : d.passPublications = d := by simp [passPublications, h.2]
  have hl : d.latchFaults = d := by simp [latchFaults, h.1]
  rw [hp, hl]
  exact cycleEnds_trans (cycleEnds_trans (cycleEnds_trans (cycleEnds_handoverStep d) (cycleEnds_stageQueues _)) (cycleEnds_memPause _))
    (cycleEnds_updateSymbol _)

end Dev

end Sys2Proof.Machine
end

