-- ==== Sys2Proof/Laws/Outcome.lean ====
section
/-!
SUPPORT. What the wrappers of the meanings answer: `State.on` and its kin (R588, R594), and the issue of an instruction (R246, R304).
-/

namespace Sys2Proof.Machine

namespace State

theorem on_awake (s : State) (f : Dev → Dev) (h : s.awake = true) : s.on f = .next { s with dev := (f s.dev).settle } := by
  unfold awake at h; simp [on, h]

theorem on_asleep (s : State) (f : Dev → Dev) (h : s.awake = false) : s.on f = .next s := by
  unfold awake at h; simp [on, h]

theorem onM_awake (s : State) (f : Mems → Dev → Mems × Dev) (h : s.awake = true) :
    s.onM f = .next { s with mems := (f s.mems s.dev).1, dev := (f s.mems s.dev).2.settle } := by
  unfold awake at h; simp [onM, h]

theorem onAny_released (s : State) (f : Dev → Dev) (h : s.dev.power.released = true) :
    s.onAny f = .next { s with dev := (f s.dev).settle } := by
  simp [onAny, h]

theorem awake_released {s : State} (h : s.awake = true) : s.dev.power.released = true := by
  unfold awake at h
  simp only [Bool.and_eq_true] at h
  exact h.1

end State

namespace Dev

theorem willRun_wait {d : Dev} (h : d.willRun = true) : d.hearth.wait = none := by
  unfold willRun issues at h
  simp only [Bool.and_eq_true] at h
  exact Option.isNone_iff_eq_none.mp h.1.1.2

theorem issue_runs (d : Dev) (n : Nat) (f : Dev → Except Exc Dev) (h : d.willRun = true) :
    d.issue n f = match f d with
      | .ok d' => if d'.hearth.wait.isSome then d' else ({ d' with hearth := { d'.hearth with busy := n } } : Dev).event 2 1
      | .error e => d.exception e false := by
  unfold willRun at h
  simp only [Bool.and_eq_true, Bool.not_eq_true'] at h
  simp only [issue, h.1, h.2]
  rfl

theorem issue_ok (d : Dev) (n : Nat) (f : Dev → Except Exc Dev) (d' : Dev) (h : d.willRun = true) (hf : f d = .ok d')
    (hw : d'.hearth.wait = none) : d.issue n f = ({ d' with hearth := { d'.hearth with busy := n } } : Dev).event 2 1 := by
  rw [issue_runs _ _ _ h]
  simp [hf, hw]

theorem issueNext_ok (d : Dev) (n : Nat) (f : Dev → Except Exc Dev) (d' : Dev) (h : d.willRun = true) (hf : f d = .ok d')
    (hw : d'.hearth.wait = none) :
    d.issueNext n f = ({ d'.advance with hearth := { d'.advance.hearth with busy := n } } : Dev).event 2 1 :=
  issue_ok d n _ d'.advance h (by simp [hf, Except.map]) hw

theorem issueNext_error (d : Dev) (n : Nat) (f : Dev → Except Exc Dev) (e : Exc) (h : d.willRun = true) (hf : f d = .error e) :
    d.issueNext n f = d.exception e false := by
  unfold issueNext
  rw [issue_runs _ _ _ h]
  simp [hf, Except.map]

end Dev

end Sys2Proof.Machine
end

