-- ==== Sys2Proof/Laws/Hearth.lean ====
section
/-!
SUPPORT. What the entry of a vector and an exception do, each said once (R246, R249, R250).
-/

namespace Sys2Proof.Machine.Dev

/-- The registers that the entry of a vector writes, as a chain of field writes. -/
def vectorRegs (d : Dev) (epc : Nat) : Dev :=
  (((((((d.put F.SEQ_EPC_EPC epc).putB F.SEQ_ESR_Z d.hearth.z).putB F.SEQ_ESR_N d.hearth.n).putB F.SEQ_ESR_C d.hearth.c).putB F.SEQ_ESR_V
    d.hearth.v).putB F.SEQ_ESR_MODE d.hearth.user).putB F.SEQ_ESR_IEN (d.bit F.SEQ_CTL_IEN)).putB F.SEQ_CTL_IEN false

theorem enterVector_regs (d : Dev) (epc v : Nat) : (d.enterVector epc v).regs = (d.vectorRegs epc).regs := by
  unfold vectorRegs
  rw [← bit_put_apart d F.SEQ_EPC_EPC F.SEQ_CTL_IEN epc (by decide) (by decide)]
  rfl

theorem vectorRegs_bank (d : Dev) (epc : Nat) : (d.vectorRegs epc).get F.SEQ_BANK_ACT = d.get F.SEQ_BANK_ACT := by
  unfold vectorRegs
  simp (disch := decide) only [putB, get_put_other]

theorem enterVector_hearth (d : Dev) (epc v : Nat) : (d.enterVector epc v).hearth =
    { d.hearth with user := false, pc := BitVec.ofNat 14 (d.get F.SEQ_BANK_ACT * 8192 + v % 8192) } := by
  have h := get_congr (enterVector_regs d epc v) F.SEQ_BANK_ACT
  rw [vectorRegs_bank] at h
  rw [← h]
  rfl

end Sys2Proof.Machine.Dev
end

