-- ==== Sys2Proof/WellFormed.lean ====
section
/-!
DEFINITION. Well-formed commands: what the operands of each row of spec/opcode_table.json may be. A command that is not well-formed spells
nothing that reaches the device; `exec` gives it a meaning all the same, so no statement needs well-formedness as a premise.
-/

namespace Sys2Proof

/-- A frame on the line: a payload of 1 to 256 bytes, and a CMAC when AUTH is set and none otherwise (R335, R336). -/
def Frame.wf (f : Frame) : Bool := decide (1 ≤ f.payload.length ∧ f.payload.length ≤ 256) && (f.auth || f.mac == 0)

/-- A kindling frame of subtype `sub` (R348). -/
def Frame.kindling (f : Frame) (sub : Byte) : Bool := f.ty == 0xC && f.payload.head? == some sub

/-- The samples of one instant: every channel converts once at most (R105). -/
def samplesWf (l : List Sample) : Bool := decide (l.map Sample.ch).Nodup

/-- The bits set in a word. -/
def popCount (w : Word) : Nat := ((List.range 32).filter (fun i => w.getLsbD i)).length

/-- A RESULT message carries one value for each cell of its mask (R454). -/
def TwinResult.wf (m : TwinResult) : Bool := m.vals.length == popCount m.mask

/-- An address of a register: aligned to its word (R240, R339). -/
def wordAddress (a : BitVec 16) : Bool := a.toNat % 4 == 0

/-- The check of a command's operands. -/
def Instr.wf (i : Instr) : Bool :=
  match i with
  | .powerOnReset _ _ _ _ _ _ => true
  | .resetRelease _ => true
  | .fireguardLogicBistEnd _ => true
  | .rcWindowEnd _ => true
  | .freqWindowEnd _ => true
  | .scrubStep _ => true
  | .safeCurrentLimitTrip _ => true
  | .buckThreshold _ => true
  | .regulatorFault _ => true
  | .convInjReq _ => true
  | .conversionComplete l => samplesWf l
  | .injectionComplete l => samplesWf l
  | .quietWindowOpen _ => true
  | .windowBoundary _ => true
  | .drawerConfigWrite addr _ => wordAddress addr
  | .accCmdRst _ => true
  | .resultStatusRead _ => true
  | .trackerARead _ => true
  | .trackerBRead _ => true
  | .phtim _ _ _ f => f.wf && f.ty == 8
  | .phsyncEdge _ _ => true
  | .timebaseCompareArm _ _ => true
  | .phaseCompareArm _ _ => true
  | .compareDisarm _ => true
  | .timebaseCompareFire _ => true
  | .phaseCompareFire _ => true
  | .captureEvent _ _ => true
  | .captureRead _ => true
  | .aux7ComparatorEdge _ _ => true
  | .add _ _ _ => true
  | .sub _ _ _ => true
  | .adc _ _ _ => true
  | .sbc _ _ _ => true
  | .addss _ _ _ => true
  | .subss _ _ _ => true
  | .addus _ _ _ => true
  | .subus _ _ _ => true
  | .andR _ _ _ => true
  | .orR _ _ _ => true
  | .xorR _ _ _ => true
  | .bic _ _ _ => true
  | .shl _ _ _ => true
  | .shr _ _ _ => true
  | .sar _ _ _ => true
  | .ror _ _ _ => true
  | .mul _ _ _ => true
  | .mulh _ _ _ => true
  | .mulhu _ _ _ => true
  | .min _ _ _ => true
  | .max _ _ _ => true
  | .minu _ _ _ => true
  | .maxu _ _ _ => true
  | .cmp _ _ => true
  | .tst _ _ => true
  | .mov _ _ => true
  | .clz _ _ => true
  | .abss _ _ => true
  | .addi _ _ _ => true
  | .andi _ _ _ => true
  | .ori _ _ _ => true
  | .xori _ _ _ => true
  | .shi _ _ _ => true
  | .cmpi _ _ => true
  | .movl _ _ => true
  | .movh _ _ => true
  | .csel _ _ _ _ => true
  | .ldw _ _ _ _ => true
  | .ldh _ _ _ _ => true
  | .ldhu _ _ _ _ => true
  | .ldb _ _ _ _ => true
  | .ldbu _ _ _ _ => true
  | .stw _ _ _ => true
  | .sth _ _ _ _ => true
  | .stb _ _ _ _ => true
  | .ldr _ _ _ => true
  | .str _ _ _ => true
  | .push _ => true
  | .pop _ _ => true
  | .branch _ _ => true
  | .call _ => true
  | .jr _ => true
  | .callr _ => true
  | .svc _ => true
  | .measGo _ => true
  | .measArm _ => true
  | .measDisarm _ => true
  | .measStop _ => true
  | .measInj _ _ _ _ _ _ => true
  | .waitt _ _ _ _ _ => true
  | .waitph _ _ _ _ => true
  | .draw _ _ _ _ _ _ => true
  | .send _ _ _ _ _ => true
  | .recv _ _ _ _ => true
  | .balTransfer _ _ _ _ _ => true
  | .balStopShelf _ _ => true
  | .balStopAll _ => true
  | .crc _ _ _ _ _ => true
  | .logRec _ _ _ _ => true
  | .raise _ _ _ _ => true
  | .ploadOpen _ f => f.wf && f.ty == 5
  | .ploadData _ f => f.wf && f.ty == 5
  | .ploadClose _ f => f.wf && f.ty == 5
  | .ploadAbort _ f => f.wf && f.ty == 5
  | .runSwap _ f => f.wf && f.ty == 6
  | .runRestart _ f => f.wf && f.ty == 6
  | .runHalt _ f => f.wf && f.ty == 6
  | .runCancel _ f => f.wf && f.ty == 6
  | .seqGrantWrite _ _ => true
  | .doorbell _ => true
  | .regrd _ f => f.wf && f.ty == 1
  | .regwr _ f => f.wf && f.ty == 2
  | .blkrd _ f => f.wf && f.ty == 3
  | .blkwr _ f => f.wf && f.ty == 4
  | .trig f => f.wf && f.ty == 7
  | .report _ f => f.wf && f.ty == 9
  | .logx _ f => f.wf && f.ty == 11
  | .frameForward _ f _ => f.wf
  | .ownFrameStart _ => true
  | .faultSymbolReceived _ => true
  | .echoRequest _ => true
  | .echoReply _ _ => true
  | .hoprep _ f => f.wf && f.kindling 4
  | .residenceMeasure _ _ => true
  | .portTrain _ => true
  | .portUp _ _ => true
  | .portDown _ => true
  | .eyeWidthLow _ => true
  | .kindlingGo _ => true
  | .kindle _ f => f.wf && f.kindling 1
  | .kindleReturn f => f.wf && f.kindling 1
  | .topo _ f => f.wf && f.kindling 2
  | .kend _ f => f.wf && f.kindling 3
  | .ringReturnCheck _ _ => true
  | .responseReceive _ f => f.wf
  | .chnTrighWrite _ => true
  | .spiRdreg _ _ => true
  | .spiWrreg addr _ _ => wordAddress addr
  | .spiTxf words _ => decide (1 ≤ words.length ∧ words.length ≤ 66)
  | .spiRxf _ => true
  | .spiInvalidFrame _ => true
  | .breakNoticeSend _ _ => true
  | .breakNotice _ f => f.wf && f.ty == 2
  | .balCmdTransfer _ _ => true
  | .balCmdStopShelf _ _ => true
  | .balCmdStopAll _ => true
  | .selTurnOn _ => true
  | .selectionSettled _ _ => true
  | .switchingCycleEnd _ _ _ _ _ _ => true
  | .noDemagnetisation _ => true
  | .selectionDriverFault _ => true
  | .selectionInterlock _ => true
  | .selHoldExpiry _ => true
  | .busPause _ => true
  | .busResume _ => true
  | .balXctlGo _ _ _ => true
  | .balXctlStop _ _ => true
  | .excitationStart _ => true
  | .excitationBoundary _ => true
  | .ownHandover _ _ => true
  | .ownAck _ => true
  | .ownStop _ => true
  | .ownStopack _ => true
  | .fireguardStrobe _ => true
  | .comparatorSelfTest _ => true
  | .guardLatchClear _ => true
  | .pairset _ => true
  | .healthMsg _ _ => true
  | .pairMsg _ _ _ => true
  | .resultMsg m _ => m.wf
  | .timeMsg _ _ _ => true
  | .modelMsg _ _ => true
  | .sfrMsg _ _ => true
  | .trigWord _ _ _ => true
  | .safety _ f => f.wf && f.ty == 10
  | .safetyCompareClose _ => true
  | .safeOn _ => true
  | .offPulseStart _ => true
  | .offPulseSample _ _ => true
  | .offPulseEnd _ => true
  | .safeReadbackSample _ _ => true
  | .fltAck _ _ => true
  | .fltUnlock _ => true
  | .diagGo _ => true
  | .converterBistEnd _ => true
  | .memoryBistPhaseEnd _ _ _ _ => true
  | .hearthLogicBistEnd _ => true
  | .chkGo _ _ => true
  | .scanEnd _ => true
  | .calRunComplete factors residual => factors.length == 204 && residual.length == 34
  | .calUnlock _ => true
  | .calShadowWrite addr _ => wordAddress addr
  | .calCommit _ => true
  | .trackingAttempt moves residual => moves.length == 34 && residual.length == 34
  | .dieTempConversion _ => true
  | .emberCheck cells aux => decide (cells.length ≤ 32) && aux.length == 5
  | .wakeToneRelay _ => true
  | .wakeToneHead _ => true
  | .lineTrafficWake _ => true
  | .warmReset _ => true
  | .keyFrame _ f => f.wf && f.ty == 4
  | .testToken _ => true
  | .segmentProgramComplete _ => true
  | .logMountComplete _ => true
  | .logScrub _ _ _ => true
  | .logRefresh _ => true
  | .logReadoutGo _ => true
  | .logErase _ => true
  | .logUtc _ => true
  | .logHeadseqRead _ => true
  | .pmcOverflow _ => true
  | .pmcRead _ => true
  | .tagRecordClose _ => true
  | .tagRecordRead _ => true
  | .faultStampRead _ => true
  | .registerWrite _ addr _ => wordAddress addr
  | .illegalOpcode _ => true
  | .startupRegulatorStart => true
  | .vbusRise => true
  | .fireguardArm => true
  | .vtrefEnable => true
  | .twinTxEnable => true
  | .headTxEnable => true
  | .mainOscFail => true
  | .calRunAuto => true
  | .lineActivityLost => true
  | .soloTimeout => true
  | .kindlingStart => true
  | .kindlingRepeat => true
  | .kindlingAbandon => true
  | .vbusPowerFail => true
  | .vbusRecover => true
  | .vbusUndervoltage => true
  | .vbusHigh => true
  | .vbusOvervoltage => true
  | .dieTempBalStop => true
  | .dieTempBalResume => true
  | .dieTempSupply => true
  | .convGo => true
  | .convArm => true
  | .convDisarm => true
  | .convStop => true
  | .sweepAcquisition => true
  | .injectionStart => true
  | .quietWindowClose => true
  | .accCmdTclr => true
  | .accCmdXrst => true
  | .convTslRead => true
  | .timebaseWrap => true
  | .timebaseRead => true
  | .phtimSend => true
  | .modelActivate => true
  | .timingFrameMiss => true
  | .phsyncEdgeMissed => true
  | .periodCountWrap => true
  | .phaseModelRead => true
  | .reti => true
  | .yield => true
  | .waitEnd => true
  | .stallRelease => true
  | .interruptEntry => true
  | .seqLdctlAbort => true
  | .imageCheckComplete => true
  | .runBoundary => true
  | .backgroundEcho => true
  | .kindleSend => true
  | .kindleNoEcho => true
  | .ringReturnMissing => true
  | .requestSend => true
  | .requestTimeout => true
  | .trigSend => true
  | .chainHealed => true
  | .balQclr => true
  | .handover => true
  | .returnOwner => true
  | .ownershipTimeout => true
  | .clockHeartbeatFail => true
  | .configCrcCheck => true
  | .grdLock => true
  | .healthSend => true
  | .twinLinkDown => true
  | .resultDeadline => true
  | .faultWord => true
  | .safetyFrameSend => true
  | .safeDemand => true
  | .safeAck => true
  | .l0RateWindow => true
  | .diagStop => true
  | .diagStep => true
  | .diagInjection => true
  | .diagRunEnd => true
  | .converterBistStep => true
  | .memoryBistGo => true
  | .memoryBistStop => true
  | .memoryBistStep => true
  | .memoryBistResume => true
  | .hearthLogicBist => true
  | .lbh => true
  | .chkStop => true
  | .calCmdRun => true
  | .calConvertersTaken => true
  | .calRelock => true
  | .calLock => true
  | .calLoad => true
  | .calSnap => true
  | .commTimeout => true
  | .sleep => true
  | .release => true
  | .wake => true
  | .bankedEntryComplete => true
  | .headWakePhtimStart => true
  | .emberCheckEnd => true
  | .csnWake => true
  | .secLock => true
  | .glitchDetect => true
  | .flushTimer => true
  | .logFlush => true
  | .segmentProgramStart => true
  | .logMountFail => true
  | .blockEraseComplete => true
  | .logReadoutStop => true
  | .logReadoutFrame => true
  | .logEraseComplete => true
  | .snapshotCaptureEnd => true
  | .prfClr => true
  | .cycleCounterRead => true
  | .tokenRead => true
  | .ccrawRead => true
  | .fetchUncorrectable => true
  | .userFetchOutsideRegion => true
  | .chainTriggerTarget => true
  | .trigWordDelayedStart => true

end Sys2Proof
end

