-- ==== Sys2Proof/Laws/PerInstr.lean ====
section
/-!
SUPPORT. What holds of every command as syntax, one lemma for each constructor of `Instr`.
-/

namespace Sys2Proof

/-- The chain frame that a command brings, if it brings one. -/
def Instr.frame : Instr → Option Frame
  | .phtim _ _ _ f => some f
  | .ploadOpen _ f => some f
  | .ploadData _ f => some f
  | .ploadClose _ f => some f
  | .ploadAbort _ f => some f
  | .runSwap _ f => some f
  | .runRestart _ f => some f
  | .runHalt _ f => some f
  | .runCancel _ f => some f
  | .regrd _ f => some f
  | .regwr _ f => some f
  | .blkrd _ f => some f
  | .blkwr _ f => some f
  | .trig f => some f
  | .report _ f => some f
  | .logx _ f => some f
  | .frameForward _ f _ => some f
  | .hoprep _ f => some f
  | .kindle _ f => some f
  | .kindleReturn f => some f
  | .topo _ f => some f
  | .kend _ f => some f
  | .responseReceive _ f => some f
  | .breakNotice _ f => some f
  | .safety _ f => some f
  | .keyFrame _ f => some f
  | _ => none

end Sys2Proof

namespace Sys2Proof.Laws.Wf

/-- A well-formed command brings a well-formed frame: a payload of 1 to 256 bytes, and a CMAC only with AUTH (R335, R336). -/
def Statement (i : Instr) : Prop := i.wf = true → ∀ f, i.frame = some f → f.wf = true

theorem powerOnReset (head0 head1 head2 twin0 twin1 twin2 : Bool) : Statement (.powerOnReset head0 head1 head2 twin0 twin1 twin2) := fun _ _ hg => nomatch hg
theorem resetRelease (otpOk : Bool) : Statement (.resetRelease otpOk) := fun _ _ hg => nomatch hg
theorem fireguardLogicBistEnd (pass : Bool) : Statement (.fireguardLogicBistEnd pass) := fun _ _ hg => nomatch hg
theorem rcWindowEnd (inRange : Bool) : Statement (.rcWindowEnd inRange) := fun _ _ hg => nomatch hg
theorem freqWindowEnd (within : Bool) : Statement (.freqWindowEnd within) := fun _ _ hg => nomatch hg
theorem scrubStep (e : Ecc) : Statement (.scrubStep e) := fun _ _ hg => nomatch hg
theorem safeCurrentLimitTrip (out : Fin 2) : Statement (.safeCurrentLimitTrip out) := fun _ _ hg => nomatch hg
theorem buckThreshold (on : Bool) : Statement (.buckThreshold on) := fun _ _ hg => nomatch hg
theorem regulatorFault (rail : Fin 2) : Statement (.regulatorFault rail) := fun _ _ hg => nomatch hg
theorem convInjReq (w : Word) : Statement (.convInjReq w) := fun _ _ hg => nomatch hg
theorem conversionComplete (l : List Sample) : Statement (.conversionComplete l) := fun _ _ hg => nomatch hg
theorem injectionComplete (l : List Sample) : Statement (.injectionComplete l) := fun _ _ hg => nomatch hg
theorem quietWindowOpen (cut : BitVec 4) : Statement (.quietWindowOpen cut) := fun _ _ hg => nomatch hg
theorem windowBoundary (src : Fin 5) : Statement (.windowBoundary src) := fun _ _ hg => nomatch hg
theorem drawerConfigWrite (addr : BitVec 16) (w : Word) : Statement (.drawerConfigWrite addr w) := fun _ _ hg => nomatch hg
theorem accCmdRst (mask : BitVec 4) : Statement (.accCmdRst mask) := fun _ _ hg => nomatch hg
theorem resultStatusRead (r : Fin 140) : Statement (.resultStatusRead r) := fun _ _ hg => nomatch hg
theorem trackerARead (ch : Fin 34) : Statement (.trackerARead ch) := fun _ _ hg => nomatch hg
theorem trackerBRead (ch : Fin 34) : Statement (.trackerBRead ch) := fun _ _ hg => nomatch hg
theorem phtim (p : Port) (ta : BitVec 48) (step : BitVec 5) (f : Frame) : Statement (.phtim p ta step f) := fun h g hg => by cases hg; exact (Bool.and_eq_true_iff.mp h).1
theorem phsyncEdge (rising : Bool) (step : BitVec 5) : Statement (.phsyncEdge rising step) := fun _ _ hg => nomatch hg
theorem timebaseCompareArm (n : Fin 4) (w : Word) : Statement (.timebaseCompareArm n w) := fun _ _ hg => nomatch hg
theorem phaseCompareArm (n : Fin 4) (w : Word) : Statement (.phaseCompareArm n w) := fun _ _ hg => nomatch hg
theorem compareDisarm (mask : Byte) : Statement (.compareDisarm mask) := fun _ _ hg => nomatch hg
theorem timebaseCompareFire (n : Fin 4) : Statement (.timebaseCompareFire n) := fun _ _ hg => nomatch hg
theorem phaseCompareFire (n : Fin 4) : Statement (.phaseCompareFire n) := fun _ _ hg => nomatch hg
theorem captureEvent (src : BitVec 3) (step : BitVec 5) : Statement (.captureEvent src step) := fun _ _ hg => nomatch hg
theorem captureRead (u : Fin 4) : Statement (.captureRead u) := fun _ _ hg => nomatch hg
theorem aux7ComparatorEdge (rising : Bool) (step : BitVec 5) : Statement (.aux7ComparatorEdge rising step) := fun _ _ hg => nomatch hg
theorem add (rd ra rb : BitVec 4) : Statement (.add rd ra rb) := fun _ _ hg => nomatch hg
theorem sub (rd ra rb : BitVec 4) : Statement (.sub rd ra rb) := fun _ _ hg => nomatch hg
theorem adc (rd ra rb : BitVec 4) : Statement (.adc rd ra rb) := fun _ _ hg => nomatch hg
theorem sbc (rd ra rb : BitVec 4) : Statement (.sbc rd ra rb) := fun _ _ hg => nomatch hg
theorem addss (rd ra rb : BitVec 4) : Statement (.addss rd ra rb) := fun _ _ hg => nomatch hg
theorem subss (rd ra rb : BitVec 4) : Statement (.subss rd ra rb) := fun _ _ hg => nomatch hg
theorem addus (rd ra rb : BitVec 4) : Statement (.addus rd ra rb) := fun _ _ hg => nomatch hg
theorem subus (rd ra rb : BitVec 4) : Statement (.subus rd ra rb) := fun _ _ hg => nomatch hg
theorem andR (rd ra rb : BitVec 4) : Statement (.andR rd ra rb) := fun _ _ hg => nomatch hg
theorem orR (rd ra rb : BitVec 4) : Statement (.orR rd ra rb) := fun _ _ hg => nomatch hg
theorem xorR (rd ra rb : BitVec 4) : Statement (.xorR rd ra rb) := fun _ _ hg => nomatch hg
theorem bic (rd ra rb : BitVec 4) : Statement (.bic rd ra rb) := fun _ _ hg => nomatch hg
theorem shl (rd ra rb : BitVec 4) : Statement (.shl rd ra rb) := fun _ _ hg => nomatch hg
theorem shr (rd ra rb : BitVec 4) : Statement (.shr rd ra rb) := fun _ _ hg => nomatch hg
theorem sar (rd ra rb : BitVec 4) : Statement (.sar rd ra rb) := fun _ _ hg => nomatch hg
theorem ror (rd ra rb : BitVec 4) : Statement (.ror rd ra rb) := fun _ _ hg => nomatch hg
theorem mul (rd ra rb : BitVec 4) : Statement (.mul rd ra rb) := fun _ _ hg => nomatch hg
theorem mulh (rd ra rb : BitVec 4) : Statement (.mulh rd ra rb) := fun _ _ hg => nomatch hg
theorem mulhu (rd ra rb : BitVec 4) : Statement (.mulhu rd ra rb) := fun _ _ hg => nomatch hg
theorem min (rd ra rb : BitVec 4) : Statement (.min rd ra rb) := fun _ _ hg => nomatch hg
theorem max (rd ra rb : BitVec 4) : Statement (.max rd ra rb) := fun _ _ hg => nomatch hg
theorem minu (rd ra rb : BitVec 4) : Statement (.minu rd ra rb) := fun _ _ hg => nomatch hg
theorem maxu (rd ra rb : BitVec 4) : Statement (.maxu rd ra rb) := fun _ _ hg => nomatch hg
theorem cmp (ra rb : BitVec 4) : Statement (.cmp ra rb) := fun _ _ hg => nomatch hg
theorem tst (ra rb : BitVec 4) : Statement (.tst ra rb) := fun _ _ hg => nomatch hg
theorem mov (rd ra : BitVec 4) : Statement (.mov rd ra) := fun _ _ hg => nomatch hg
theorem clz (rd ra : BitVec 4) : Statement (.clz rd ra) := fun _ _ hg => nomatch hg
theorem abss (rd ra : BitVec 4) : Statement (.abss rd ra) := fun _ _ hg => nomatch hg
theorem addi (rd ra : BitVec 4) (imm : BitVec 18) : Statement (.addi rd ra imm) := fun _ _ hg => nomatch hg
theorem andi (rd ra : BitVec 4) (imm : BitVec 18) : Statement (.andi rd ra imm) := fun _ _ hg => nomatch hg
theorem ori (rd ra : BitVec 4) (imm : BitVec 18) : Statement (.ori rd ra imm) := fun _ _ hg => nomatch hg
theorem xori (rd ra : BitVec 4) (imm : BitVec 18) : Statement (.xori rd ra imm) := fun _ _ hg => nomatch hg
theorem shi (rd ra : BitVec 4) (imm : BitVec 18) : Statement (.shi rd ra imm) := fun _ _ hg => nomatch hg
theorem cmpi (ra : BitVec 4) (imm : BitVec 18) : Statement (.cmpi ra imm) := fun _ _ hg => nomatch hg
theorem movl (rd : BitVec 4) (imm : BitVec 16) : Statement (.movl rd imm) := fun _ _ hg => nomatch hg
theorem movh (rd : BitVec 4) (imm : BitVec 16) : Statement (.movh rd imm) := fun _ _ hg => nomatch hg
theorem csel (rd ra rb cond : BitVec 4) : Statement (.csel rd ra rb cond) := fun _ _ hg => nomatch hg
theorem ldw (rd ra : BitVec 4) (imm : BitVec 18) (e : Ecc) : Statement (.ldw rd ra imm e) := fun _ _ hg => nomatch hg
theorem ldh (rd ra : BitVec 4) (imm : BitVec 18) (e : Ecc) : Statement (.ldh rd ra imm e) := fun _ _ hg => nomatch hg
theorem ldhu (rd ra : BitVec 4) (imm : BitVec 18) (e : Ecc) : Statement (.ldhu rd ra imm e) := fun _ _ hg => nomatch hg
theorem ldb (rd ra : BitVec 4) (imm : BitVec 18) (e : Ecc) : Statement (.ldb rd ra imm e) := fun _ _ hg => nomatch hg
theorem ldbu (rd ra : BitVec 4) (imm : BitVec 18) (e : Ecc) : Statement (.ldbu rd ra imm e) := fun _ _ hg => nomatch hg
theorem stw (rs ra : BitVec 4) (imm : BitVec 18) : Statement (.stw rs ra imm) := fun _ _ hg => nomatch hg
theorem sth (rs ra : BitVec 4) (imm : BitVec 18) (e : Ecc) : Statement (.sth rs ra imm e) := fun _ _ hg => nomatch hg
theorem stb (rs ra : BitVec 4) (imm : BitVec 18) (e : Ecc) : Statement (.stb rs ra imm e) := fun _ _ hg => nomatch hg
theorem ldr (rd ra : BitVec 4) (imm : BitVec 18) : Statement (.ldr rd ra imm) := fun _ _ hg => nomatch hg
theorem str (rs ra : BitVec 4) (imm : BitVec 18) : Statement (.str rs ra imm) := fun _ _ hg => nomatch hg
theorem push (mask : BitVec 16) : Statement (.push mask) := fun _ _ hg => nomatch hg
theorem pop (mask : BitVec 16) (e : Ecc) : Statement (.pop mask e) := fun _ _ hg => nomatch hg
theorem branch (cond : BitVec 4) (off : BitVec 14) : Statement (.branch cond off) := fun _ _ hg => nomatch hg
theorem call (off : BitVec 14) : Statement (.call off) := fun _ _ hg => nomatch hg
theorem jr (ra : BitVec 4) : Statement (.jr ra) := fun _ _ hg => nomatch hg
theorem callr (ra : BitVec 4) : Statement (.callr ra) := fun _ _ hg => nomatch hg
theorem svc (n : BitVec 8) : Statement (.svc n) := fun _ _ hg => nomatch hg
theorem measGo (rd : BitVec 4) : Statement (.measGo rd) := fun _ _ hg => nomatch hg
theorem measArm (rd : BitVec 4) : Statement (.measArm rd) := fun _ _ hg => nomatch hg
theorem measDisarm (rd : BitVec 4) : Statement (.measDisarm rd) := fun _ _ hg => nomatch hg
theorem measStop (rd : BitVec 4) : Statement (.measStop rd) := fun _ _ hg => nomatch hg
theorem measInj (rd ra : BitVec 4) (drw : BitVec 2) (aux cur : Bool) (slot : BitVec 4) : Statement (.measInj rd ra drw aux cur slot) := fun _ _ hg => nomatch hg
theorem waitt (rd ra rb rm : BitVec 4) (isAbs : Bool) : Statement (.waitt rd ra rb rm isAbs) := fun _ _ hg => nomatch hg
theorem waitph (rd ra rm : BitVec 4) (isAbs : Bool) : Statement (.waitph rd ra rm isAbs) := fun _ _ hg => nomatch hg
theorem draw (rd ra : BitVec 4) (ch : BitVec 6) (drw : BitVec 2) (cr : Bool) (nm1 : BitVec 3) : Statement (.draw rd ra ch drw cr nm1) := fun _ _ hg => nomatch hg
theorem send (rd ra rb : BitVec 4) (auth blk : Bool) : Statement (.send rd ra rb auth blk) := fun _ _ hg => nomatch hg
theorem recv (rd ra rb : BitVec 4) (blk : Bool) : Statement (.recv rd ra rb blk) := fun _ _ hg => nomatch hg
theorem balTransfer (rd ra : BitVec 4) (sh : Fin 4) (cell : Fin 8) (dir : Bool) : Statement (.balTransfer rd ra sh cell dir) := fun _ _ hg => nomatch hg
theorem balStopShelf (rd : BitVec 4) (sh : Fin 4) : Statement (.balStopShelf rd sh) := fun _ _ hg => nomatch hg
theorem balStopAll (rd : BitVec 4) : Statement (.balStopAll rd) := fun _ _ hg => nomatch hg
theorem crc (rd ra rb : BitVec 4) (sp : BitVec 2) (res : Bool) : Statement (.crc rd ra rb sp res) := fun _ _ hg => nomatch hg
theorem logRec (rd ra rb : BitVec 4) (blk : Bool) : Statement (.logRec rd ra rb blk) := fun _ _ hg => nomatch hg
theorem raise (ra cls : BitVec 4) (lvl : BitVec 2) (code : Byte) : Statement (.raise ra cls lvl code) := fun _ _ hg => nomatch hg
theorem ploadOpen (p : Port) (f : Frame) : Statement (.ploadOpen p f) := fun h g hg => by cases hg; exact (Bool.and_eq_true_iff.mp h).1
theorem ploadData (p : Port) (f : Frame) : Statement (.ploadData p f) := fun h g hg => by cases hg; exact (Bool.and_eq_true_iff.mp h).1
theorem ploadClose (p : Port) (f : Frame) : Statement (.ploadClose p f) := fun h g hg => by cases hg; exact (Bool.and_eq_true_iff.mp h).1
theorem ploadAbort (p : Port) (f : Frame) : Statement (.ploadAbort p f) := fun h g hg => by cases hg; exact (Bool.and_eq_true_iff.mp h).1
theorem runSwap (p : Port) (f : Frame) : Statement (.runSwap p f) := fun h g hg => by cases hg; exact (Bool.and_eq_true_iff.mp h).1
theorem runRestart (p : Port) (f : Frame) : Statement (.runRestart p f) := fun h g hg => by cases hg; exact (Bool.and_eq_true_iff.mp h).1
theorem runHalt (p : Port) (f : Frame) : Statement (.runHalt p f) := fun h g hg => by cases hg; exact (Bool.and_eq_true_iff.mp h).1
theorem runCancel (p : Port) (f : Frame) : Statement (.runCancel p f) := fun h g hg => by cases hg; exact (Bool.and_eq_true_iff.mp h).1
theorem seqGrantWrite (by_ : By) (w : Word) : Statement (.seqGrantWrite by_ w) := fun _ _ hg => nomatch hg
theorem doorbell (w : Word) : Statement (.doorbell w) := fun _ _ hg => nomatch hg
theorem regrd (p : Port) (f : Frame) : Statement (.regrd p f) := fun h g hg => by cases hg; exact (Bool.and_eq_true_iff.mp h).1
theorem regwr (p : Port) (f : Frame) : Statement (.regwr p f) := fun h g hg => by cases hg; exact (Bool.and_eq_true_iff.mp h).1
theorem blkrd (p : Port) (f : Frame) : Statement (.blkrd p f) := fun h g hg => by cases hg; exact (Bool.and_eq_true_iff.mp h).1
theorem blkwr (p : Port) (f : Frame) : Statement (.blkwr p f) := fun h g hg => by cases hg; exact (Bool.and_eq_true_iff.mp h).1
theorem trig (f : Frame) : Statement (.trig f) := fun h g hg => by cases hg; exact (Bool.and_eq_true_iff.mp h).1
theorem report (p : Port) (f : Frame) : Statement (.report p f) := fun h g hg => by cases hg; exact (Bool.and_eq_true_iff.mp h).1
theorem logx (p : Port) (f : Frame) : Statement (.logx p f) := fun h g hg => by cases hg; exact (Bool.and_eq_true_iff.mp h).1
theorem frameForward (p : Port) (f : Frame) (crc : Word) : Statement (.frameForward p f crc) := fun h g hg => by cases hg; exact h
theorem ownFrameStart (p : Port) : Statement (.ownFrameStart p) := fun _ _ hg => nomatch hg
theorem faultSymbolReceived (p : Port) : Statement (.faultSymbolReceived p) := fun _ _ hg => nomatch hg
theorem echoRequest (p : Port) : Statement (.echoRequest p) := fun _ _ hg => nomatch hg
theorem echoReply (p : Port) (hop : BitVec 24) : Statement (.echoReply p hop) := fun _ _ hg => nomatch hg
theorem hoprep (p : Port) (f : Frame) : Statement (.hoprep p f) := fun h g hg => by cases hg; exact (Bool.and_eq_true_iff.mp h).1
theorem residenceMeasure (fwd rev : BitVec 16) : Statement (.residenceMeasure fwd rev) := fun _ _ hg => nomatch hg
theorem portTrain (p : Port) : Statement (.portTrain p) := fun _ _ hg => nomatch hg
theorem portUp (p : Port) (eye : Byte) : Statement (.portUp p eye) := fun _ _ hg => nomatch hg
theorem portDown (p : Port) : Statement (.portDown p) := fun _ _ hg => nomatch hg
theorem eyeWidthLow (p : Port) : Statement (.eyeWidthLow p) := fun _ _ hg => nomatch hg
theorem kindlingGo (w : Word) : Statement (.kindlingGo w) := fun _ _ hg => nomatch hg
theorem kindle (p : Port) (f : Frame) : Statement (.kindle p f) := fun h g hg => by cases hg; exact (Bool.and_eq_true_iff.mp h).1
theorem kindleReturn (f : Frame) : Statement (.kindleReturn f) := fun h g hg => by cases hg; exact (Bool.and_eq_true_iff.mp h).1
theorem topo (p : Port) (f : Frame) : Statement (.topo p f) := fun h g hg => by cases hg; exact (Bool.and_eq_true_iff.mp h).1
theorem kend (p : Port) (f : Frame) : Statement (.kend p f) := fun h g hg => by cases hg; exact (Bool.and_eq_true_iff.mp h).1
theorem ringReturnCheck (t : BitVec 48) (step : BitVec 5) : Statement (.ringReturnCheck t step) := fun _ _ hg => nomatch hg
theorem responseReceive (p : Port) (f : Frame) : Statement (.responseReceive p f) := fun h g hg => by cases hg; exact h
theorem chnTrighWrite (w : Word) : Statement (.chnTrighWrite w) := fun _ _ hg => nomatch hg
theorem spiRdreg (addr : BitVec 16) (whole : Bool) : Statement (.spiRdreg addr whole) := fun _ _ hg => nomatch hg
theorem spiWrreg (addr : BitVec 16) (w : Word) (crcOk : Bool) : Statement (.spiWrreg addr w crcOk) := fun _ _ hg => nomatch hg
theorem spiTxf (words : List Word) (crcOk : Bool) : Statement (.spiTxf words crcOk) := fun _ _ hg => nomatch hg
theorem spiRxf (whole : Bool) : Statement (.spiRxf whole) := fun _ _ hg => nomatch hg
theorem spiInvalidFrame (badCrc : Bool) : Statement (.spiInvalidFrame badCrc) := fun _ _ hg => nomatch hg
theorem breakNoticeSend (blo bhi : BitVec 7) : Statement (.breakNoticeSend blo bhi) := fun _ _ hg => nomatch hg
theorem breakNotice (p : Port) (f : Frame) : Statement (.breakNotice p f) := fun h g hg => by cases hg; exact (Bool.and_eq_true_iff.mp h).1
theorem balCmdTransfer (by_ : By) (w : Word) : Statement (.balCmdTransfer by_ w) := fun _ _ hg => nomatch hg
theorem balCmdStopShelf (by_ : By) (sh : Fin 4) : Statement (.balCmdStopShelf by_ sh) := fun _ _ hg => nomatch hg
theorem balCmdStopAll (by_ : By) : Statement (.balCmdStopAll by_) := fun _ _ hg => nomatch hg
theorem selTurnOn (k : Fin 4) : Statement (.selTurnOn k) := fun _ _ hg => nomatch hg
theorem selectionSettled (k : Fin 4) (vc : BitVec 16) : Statement (.selectionSettled k vc) := fun _ _ hg => nomatch hg
theorem switchingCycleEnd (k : Fin 4) (avg ticks : BitVec 16) (pred : BitVec 32) (ilim overcur : Bool) : Statement (.switchingCycleEnd k avg ticks pred ilim overcur) := fun _ _ hg => nomatch hg
theorem noDemagnetisation (k : Fin 4) : Statement (.noDemagnetisation k) := fun _ _ hg => nomatch hg
theorem selectionDriverFault (cell : Fin 32) : Statement (.selectionDriverFault cell) := fun _ _ hg => nomatch hg
theorem selectionInterlock (k : Fin 4) : Statement (.selectionInterlock k) := fun _ _ hg => nomatch hg
theorem selHoldExpiry (k : Fin 4) : Statement (.selHoldExpiry k) := fun _ _ hg => nomatch hg
theorem busPause (high : Bool) : Statement (.busPause high) := fun _ _ hg => nomatch hg
theorem busResume (high : Bool) : Statement (.busResume high) := fun _ _ hg => nomatch hg
theorem balXctlGo (by_ : By) (k : Fin 4) (w : Word) : Statement (.balXctlGo by_ k w) := fun _ _ hg => nomatch hg
theorem balXctlStop (by_ : By) (k : Fin 4) : Statement (.balXctlStop by_ k) := fun _ _ hg => nomatch hg
theorem excitationStart (k : Fin 4) : Statement (.excitationStart k) := fun _ _ hg => nomatch hg
theorem excitationBoundary (k : Fin 4) : Statement (.excitationBoundary k) := fun _ _ hg => nomatch hg
theorem ownHandover (ok auto : Bool) : Statement (.ownHandover ok auto) := fun _ _ hg => nomatch hg
theorem ownAck (ok : Bool) : Statement (.ownAck ok) := fun _ _ hg => nomatch hg
theorem ownStop (ok : Bool) : Statement (.ownStop ok) := fun _ _ hg => nomatch hg
theorem ownStopack (ok : Bool) : Statement (.ownStopack ok) := fun _ _ hg => nomatch hg
theorem fireguardStrobe (tripped : BitVec 76) : Statement (.fireguardStrobe tripped) := fun _ _ hg => nomatch hg
theorem comparatorSelfTest (pass : Bool) : Statement (.comparatorSelfTest pass) := fun _ _ hg => nomatch hg
theorem guardLatchClear (w : Word) : Statement (.guardLatchClear w) := fun _ _ hg => nomatch hg
theorem pairset (w : Word) : Statement (.pairset w) := fun _ _ hg => nomatch hg
theorem healthMsg (m : BitVec 48) (ok : Bool) : Statement (.healthMsg m ok) := fun _ _ hg => nomatch hg
theorem pairMsg (m : BitVec 112) (ok : Bool) (echo : BitVec 16) : Statement (.pairMsg m ok echo) := fun _ _ hg => nomatch hg
theorem resultMsg (m : TwinResult) (ok : Bool) : Statement (.resultMsg m ok) := fun _ _ hg => nomatch hg
theorem timeMsg (dep : BitVec 53) (ta : BitVec 53) (ok : Bool) : Statement (.timeMsg dep ta ok) := fun _ _ hg => nomatch hg
theorem modelMsg (m : ModelMsg) (ok : Bool) : Statement (.modelMsg m ok) := fun _ _ hg => nomatch hg
theorem sfrMsg (m : BitVec 128) (ok : Bool) : Statement (.sfrMsg m ok) := fun _ _ hg => nomatch hg
theorem trigWord (t : BitVec 16) (fine : BitVec 5) (tid : Byte) : Statement (.trigWord t fine tid) := fun _ _ hg => nomatch hg
theorem safety (p : Port) (f : Frame) : Statement (.safety p f) := fun h g hg => by cases hg; exact (Bool.and_eq_true_iff.mp h).1
theorem safetyCompareClose (a : BitVec 7) : Statement (.safetyCompareClose a) := fun _ _ hg => nomatch hg
theorem safeOn (mask : BitVec 2) : Statement (.safeOn mask) := fun _ _ hg => nomatch hg
theorem offPulseStart (j : Fin 2) : Statement (.offPulseStart j) := fun _ _ hg => nomatch hg
theorem offPulseSample (j : Fin 2) (high : Bool) : Statement (.offPulseSample j high) := fun _ _ hg => nomatch hg
theorem offPulseEnd (j : Fin 2) : Statement (.offPulseEnd j) := fun _ _ hg => nomatch hg
theorem safeReadbackSample (j : Fin 2) (high : Bool) : Statement (.safeReadbackSample j high) := fun _ _ hg => nomatch hg
theorem fltAck (by_ : By) (w : Word) : Statement (.fltAck by_ w) := fun _ _ hg => nomatch hg
theorem fltUnlock (w : Word) : Statement (.fltUnlock w) := fun _ _ hg => nomatch hg
theorem diagGo (by_ : By) : Statement (.diagGo by_) := fun _ _ hg => nomatch hg
theorem converterBistEnd (pass : Bool) : Statement (.converterBistEnd pass) := fun _ _ hg => nomatch hg
theorem memoryBistPhaseEnd (fails : BitVec 16) (word : BitVec 9) (bit : Fin 80) (unc : Bool) : Statement (.memoryBistPhaseEnd fails word bit unc) := fun _ _ hg => nomatch hg
theorem hearthLogicBistEnd (pass : Bool) : Statement (.hearthLogicBistEnd pass) := fun _ _ hg => nomatch hg
theorem chkGo (by_ : By) (w : Word) : Statement (.chkGo by_ w) := fun _ _ hg => nomatch hg
theorem scanEnd (unc : Bool) : Statement (.scanEnd unc) := fun _ _ hg => nomatch hg
theorem calRunComplete (factors : List Word) (residual : List Byte) : Statement (.calRunComplete factors residual) := fun _ _ hg => nomatch hg
theorem calUnlock (w : Word) : Statement (.calUnlock w) := fun _ _ hg => nomatch hg
theorem calShadowWrite (addr : BitVec 16) (w : Word) : Statement (.calShadowWrite addr w) := fun _ _ hg => nomatch hg
theorem calCommit (mask : BitVec 2) : Statement (.calCommit mask) := fun _ _ hg => nomatch hg
theorem trackingAttempt (moves : List Move) (residual : List Byte) : Statement (.trackingAttempt moves residual) := fun _ _ hg => nomatch hg
theorem dieTempConversion (t : BitVec 16) : Statement (.dieTempConversion t) := fun _ _ hg => nomatch hg
theorem emberCheck (cells : List (BitVec 16)) (aux : List (BitVec 16)) : Statement (.emberCheck cells aux) := fun _ _ hg => nomatch hg
theorem wakeToneRelay (p : Port) : Statement (.wakeToneRelay p) := fun _ _ hg => nomatch hg
theorem wakeToneHead (p : Port) : Statement (.wakeToneHead p) := fun _ _ hg => nomatch hg
theorem lineTrafficWake (p : Port) : Statement (.lineTrafficWake p) := fun _ _ hg => nomatch hg
theorem warmReset (w : Word) : Statement (.warmReset w) := fun _ _ hg => nomatch hg
theorem keyFrame (p : Port) (f : Frame) : Statement (.keyFrame p f) := fun h g hg => by cases hg; exact (Bool.and_eq_true_iff.mp h).1
theorem testToken (hi : Word) : Statement (.testToken hi) := fun _ _ hg => nomatch hg
theorem segmentProgramComplete (ok : Bool) : Statement (.segmentProgramComplete ok) := fun _ _ hg => nomatch hg
theorem logMountComplete (torn : BitVec 16) : Statement (.logMountComplete torn) := fun _ _ hg => nomatch hg
theorem logScrub (blk : Fin 960) (bits : Byte) (unc : Bool) : Statement (.logScrub blk bits unc) := fun _ _ hg => nomatch hg
theorem logRefresh (blk : Fin 960) : Statement (.logRefresh blk) := fun _ _ hg => nomatch hg
theorem logReadoutGo (w : Word) : Statement (.logReadoutGo w) := fun _ _ hg => nomatch hg
theorem logErase (w : Word) : Statement (.logErase w) := fun _ _ hg => nomatch hg
theorem logUtc (w : Word) : Statement (.logUtc w) := fun _ _ hg => nomatch hg
theorem logHeadseqRead (tail : Bool) : Statement (.logHeadseqRead tail) := fun _ _ hg => nomatch hg
theorem pmcOverflow (n : Fin 6) : Statement (.pmcOverflow n) := fun _ _ hg => nomatch hg
theorem pmcRead (n : Fin 6) : Statement (.pmcRead n) := fun _ _ hg => nomatch hg
theorem tagRecordClose (dropped : Bool) : Statement (.tagRecordClose dropped) := fun _ _ hg => nomatch hg
theorem tagRecordRead (r : Fin 8) : Statement (.tagRecordRead r) := fun _ _ hg => nomatch hg
theorem faultStampRead (l : Fin 4) : Statement (.faultStampRead l) := fun _ _ hg => nomatch hg
theorem registerWrite (by_ : By) (addr : BitVec 16) (w : Word) : Statement (.registerWrite by_ addr w) := fun _ _ hg => nomatch hg
theorem illegalOpcode (w : Word) : Statement (.illegalOpcode w) := fun _ _ hg => nomatch hg
theorem startupRegulatorStart : Statement .startupRegulatorStart := fun _ _ hg => nomatch hg
theorem vbusRise : Statement .vbusRise := fun _ _ hg => nomatch hg
theorem fireguardArm : Statement .fireguardArm := fun _ _ hg => nomatch hg
theorem vtrefEnable : Statement .vtrefEnable := fun _ _ hg => nomatch hg
theorem twinTxEnable : Statement .twinTxEnable := fun _ _ hg => nomatch hg
theorem headTxEnable : Statement .headTxEnable := fun _ _ hg => nomatch hg
theorem mainOscFail : Statement .mainOscFail := fun _ _ hg => nomatch hg
theorem calRunAuto : Statement .calRunAuto := fun _ _ hg => nomatch hg
theorem lineActivityLost : Statement .lineActivityLost := fun _ _ hg => nomatch hg
theorem soloTimeout : Statement .soloTimeout := fun _ _ hg => nomatch hg
theorem kindlingStart : Statement .kindlingStart := fun _ _ hg => nomatch hg
theorem kindlingRepeat : Statement .kindlingRepeat := fun _ _ hg => nomatch hg
theorem kindlingAbandon : Statement .kindlingAbandon := fun _ _ hg => nomatch hg
theorem vbusPowerFail : Statement .vbusPowerFail := fun _ _ hg => nomatch hg
theorem vbusRecover : Statement .vbusRecover := fun _ _ hg => nomatch hg
theorem vbusUndervoltage : Statement .vbusUndervoltage := fun _ _ hg => nomatch hg
theorem vbusHigh : Statement .vbusHigh := fun _ _ hg => nomatch hg
theorem vbusOvervoltage : Statement .vbusOvervoltage := fun _ _ hg => nomatch hg
theorem dieTempBalStop : Statement .dieTempBalStop := fun _ _ hg => nomatch hg
theorem dieTempBalResume : Statement .dieTempBalResume := fun _ _ hg => nomatch hg
theorem dieTempSupply : Statement .dieTempSupply := fun _ _ hg => nomatch hg
theorem convGo : Statement .convGo := fun _ _ hg => nomatch hg
theorem convArm : Statement .convArm := fun _ _ hg => nomatch hg
theorem convDisarm : Statement .convDisarm := fun _ _ hg => nomatch hg
theorem convStop : Statement .convStop := fun _ _ hg => nomatch hg
theorem sweepAcquisition : Statement .sweepAcquisition := fun _ _ hg => nomatch hg
theorem injectionStart : Statement .injectionStart := fun _ _ hg => nomatch hg
theorem quietWindowClose : Statement .quietWindowClose := fun _ _ hg => nomatch hg
theorem accCmdTclr : Statement .accCmdTclr := fun _ _ hg => nomatch hg
theorem accCmdXrst : Statement .accCmdXrst := fun _ _ hg => nomatch hg
theorem convTslRead : Statement .convTslRead := fun _ _ hg => nomatch hg
theorem timebaseWrap : Statement .timebaseWrap := fun _ _ hg => nomatch hg
theorem timebaseRead : Statement .timebaseRead := fun _ _ hg => nomatch hg
theorem phtimSend : Statement .phtimSend := fun _ _ hg => nomatch hg
theorem modelActivate : Statement .modelActivate := fun _ _ hg => nomatch hg
theorem timingFrameMiss : Statement .timingFrameMiss := fun _ _ hg => nomatch hg
theorem phsyncEdgeMissed : Statement .phsyncEdgeMissed := fun _ _ hg => nomatch hg
theorem periodCountWrap : Statement .periodCountWrap := fun _ _ hg => nomatch hg
theorem phaseModelRead : Statement .phaseModelRead := fun _ _ hg => nomatch hg
theorem reti : Statement .reti := fun _ _ hg => nomatch hg
theorem yield : Statement .yield := fun _ _ hg => nomatch hg
theorem waitEnd : Statement .waitEnd := fun _ _ hg => nomatch hg
theorem stallRelease : Statement .stallRelease := fun _ _ hg => nomatch hg
theorem interruptEntry : Statement .interruptEntry := fun _ _ hg => nomatch hg
theorem seqLdctlAbort : Statement .seqLdctlAbort := fun _ _ hg => nomatch hg
theorem imageCheckComplete : Statement .imageCheckComplete := fun _ _ hg => nomatch hg
theorem runBoundary : Statement .runBoundary := fun _ _ hg => nomatch hg
theorem backgroundEcho : Statement .backgroundEcho := fun _ _ hg => nomatch hg
theorem kindleSend : Statement .kindleSend := fun _ _ hg => nomatch hg
theorem kindleNoEcho : Statement .kindleNoEcho := fun _ _ hg => nomatch hg
theorem ringReturnMissing : Statement .ringReturnMissing := fun _ _ hg => nomatch hg
theorem requestSend : Statement .requestSend := fun _ _ hg => nomatch hg
theorem requestTimeout : Statement .requestTimeout := fun _ _ hg => nomatch hg
theorem trigSend : Statement .trigSend := fun _ _ hg => nomatch hg
theorem chainHealed : Statement .chainHealed := fun _ _ hg => nomatch hg
theorem balQclr : Statement .balQclr := fun _ _ hg => nomatch hg
theorem handover : Statement .handover := fun _ _ hg => nomatch hg
theorem returnOwner : Statement .returnOwner := fun _ _ hg => nomatch hg
theorem ownershipTimeout : Statement .ownershipTimeout := fun _ _ hg => nomatch hg
theorem clockHeartbeatFail : Statement .clockHeartbeatFail := fun _ _ hg => nomatch hg
theorem configCrcCheck : Statement .configCrcCheck := fun _ _ hg => nomatch hg
theorem grdLock : Statement .grdLock := fun _ _ hg => nomatch hg
theorem healthSend : Statement .healthSend := fun _ _ hg => nomatch hg
theorem twinLinkDown : Statement .twinLinkDown := fun _ _ hg => nomatch hg
theorem resultDeadline : Statement .resultDeadline := fun _ _ hg => nomatch hg
theorem faultWord : Statement .faultWord := fun _ _ hg => nomatch hg
theorem safetyFrameSend : Statement .safetyFrameSend := fun _ _ hg => nomatch hg
theorem safeDemand : Statement .safeDemand := fun _ _ hg => nomatch hg
theorem safeAck : Statement .safeAck := fun _ _ hg => nomatch hg
theorem l0RateWindow : Statement .l0RateWindow := fun _ _ hg => nomatch hg
theorem diagStop : Statement .diagStop := fun _ _ hg => nomatch hg
theorem diagStep : Statement .diagStep := fun _ _ hg => nomatch hg
theorem diagInjection : Statement .diagInjection := fun _ _ hg => nomatch hg
theorem diagRunEnd : Statement .diagRunEnd := fun _ _ hg => nomatch hg
theorem converterBistStep : Statement .converterBistStep := fun _ _ hg => nomatch hg
theorem memoryBistGo : Statement .memoryBistGo := fun _ _ hg => nomatch hg
theorem memoryBistStop : Statement .memoryBistStop := fun _ _ hg => nomatch hg
theorem memoryBistStep : Statement .memoryBistStep := fun _ _ hg => nomatch hg
theorem memoryBistResume : Statement .memoryBistResume := fun _ _ hg => nomatch hg
theorem hearthLogicBist : Statement .hearthLogicBist := fun _ _ hg => nomatch hg
theorem lbh : Statement .lbh := fun _ _ hg => nomatch hg
theorem chkStop : Statement .chkStop := fun _ _ hg => nomatch hg
theorem calCmdRun : Statement .calCmdRun := fun _ _ hg => nomatch hg
theorem calConvertersTaken : Statement .calConvertersTaken := fun _ _ hg => nomatch hg
theorem calRelock : Statement .calRelock := fun _ _ hg => nomatch hg
theorem calLock : Statement .calLock := fun _ _ hg => nomatch hg
theorem calLoad : Statement .calLoad := fun _ _ hg => nomatch hg
theorem calSnap : Statement .calSnap := fun _ _ hg => nomatch hg
theorem commTimeout : Statement .commTimeout := fun _ _ hg => nomatch hg
theorem sleep : Statement .sleep := fun _ _ hg => nomatch hg
theorem release : Statement .release := fun _ _ hg => nomatch hg
theorem wake : Statement .wake := fun _ _ hg => nomatch hg
theorem bankedEntryComplete : Statement .bankedEntryComplete := fun _ _ hg => nomatch hg
theorem headWakePhtimStart : Statement .headWakePhtimStart := fun _ _ hg => nomatch hg
theorem emberCheckEnd : Statement .emberCheckEnd := fun _ _ hg => nomatch hg
theorem csnWake : Statement .csnWake := fun _ _ hg => nomatch hg
theorem secLock : Statement .secLock := fun _ _ hg => nomatch hg
theorem glitchDetect : Statement .glitchDetect := fun _ _ hg => nomatch hg
theorem flushTimer : Statement .flushTimer := fun _ _ hg => nomatch hg
theorem logFlush : Statement .logFlush := fun _ _ hg => nomatch hg
theorem segmentProgramStart : Statement .segmentProgramStart := fun _ _ hg => nomatch hg
theorem logMountFail : Statement .logMountFail := fun _ _ hg => nomatch hg
theorem blockEraseComplete : Statement .blockEraseComplete := fun _ _ hg => nomatch hg
theorem logReadoutStop : Statement .logReadoutStop := fun _ _ hg => nomatch hg
theorem logReadoutFrame : Statement .logReadoutFrame := fun _ _ hg => nomatch hg
theorem logEraseComplete : Statement .logEraseComplete := fun _ _ hg => nomatch hg
theorem snapshotCaptureEnd : Statement .snapshotCaptureEnd := fun _ _ hg => nomatch hg
theorem prfClr : Statement .prfClr := fun _ _ hg => nomatch hg
theorem cycleCounterRead : Statement .cycleCounterRead := fun _ _ hg => nomatch hg
theorem tokenRead : Statement .tokenRead := fun _ _ hg => nomatch hg
theorem ccrawRead : Statement .ccrawRead := fun _ _ hg => nomatch hg
theorem fetchUncorrectable : Statement .fetchUncorrectable := fun _ _ hg => nomatch hg
theorem userFetchOutsideRegion : Statement .userFetchOutsideRegion := fun _ _ hg => nomatch hg
theorem chainTriggerTarget : Statement .chainTriggerTarget := fun _ _ hg => nomatch hg
theorem trigWordDelayedStart : Statement .trigWordDelayedStart := fun _ _ hg => nomatch hg

end Sys2Proof.Laws.Wf
end

