-- ==== Sys2Proof/Tests/Slice0.lean ====
section
/-!
SUPPORT. The tests: the checks of well-formedness refuse an ill-formed term each, words of Imvia written from the spec's formats decode to
their instructions, single commands give the results that the spec states, and for each statement with hypotheses a concrete state and
operands meet them.
-/

open Sys2Proof Sys2Proof.Machine

set_option maxRecDepth 8000

namespace Sys2Proof.Tests

/-! ### States for the tests: a primary member in Measure with Hearth running, the same in user mode, a head, and changes of each -/

/-- A primary member at address 5 in Measure, 50 ms after reset, Hearth in supervisor mode at word 100. -/
def member : Dev :=
  let d := ((Dev.reset.put F.SYS_PWRSTAT_STATE 2).put F.CHN_ADDR_ADDR 5).putB F.CHN_ADDR_VALID true
  { d with
    regs0 := d.regs, cycle := 5000000, tb := 4000000
    power := { d.power with released := true, started := true }
    chain := { d.chain with txOn := true }
    hearth := { d.hearth with run := true, pc := 100 } }

/-- A head of chain A. -/
def head : Dev :=
  let d := (member.putB F.SYS_STRAP_HEADSEL true).put F.CHN_ADDR_ADDR 0
  { d with regs0 := d.regs }

/-- The member in user mode: its region is words 32 to 4095, its window bytes 0x100 to 0x10FF, and every grant is given. -/
def user : Dev :=
  let d := (((member.put F.SEQ_UREG_USTART 32).put F.SEQ_UREG_UEND 4096).put F.SEQ_UWIN_BASE 1).put F.SEQ_UWIN_SIZE 16
  let d := ((d.put F.SEQ_GRANT_BLK 0x1FB).putB F.SEQ_GRANT_MEAS true).putB F.SEQ_GRANT_BAL true
  { d with hearth := { d.hearth with user := true } }

/-- The block with this device, empty memories and an empty queue. -/
def st (d : Dev) : State := { State.reset with dev := d }

/-- The device with a working register set. -/
def withW (d : Dev) (r : BitVec 4) (v : Nat) : Dev := d.setW r (BitVec.ofNat 32 v)

/-- The address of an Imvia load or store. -/
def ea (d : Dev) (ra : BitVec 4) (imm : BitVec 18) : Nat := (d.w ra + imm.signExtend 32).toNat

/-- A frame of a type to the member at address 5, from the head, without authentication. -/
def frameTo5 (ty : BitVec 4) (payload : List Byte) : Frame := ⟨ty, 1, 0, false, 0, false, 5, payload, 0⟩

/-! ### Well-formed commands: one ill-formed term for each check of `Instr.wf`, which the check refuses -/

theorem smoke_frame_without_payload : (Instr.regwr .dn (frameTo5 2 [])).wf = false := by decide

theorem smoke_frame_of_257_bytes : (Instr.blkwr .dn (frameTo5 4 (List.replicate 257 0))).wf = false := by decide +kernel

theorem smoke_frame_of_256_bytes : (Instr.blkwr .dn (frameTo5 4 (List.replicate 256 0))).wf = true := by decide +kernel

theorem smoke_mac_without_auth : (Instr.regwr .dn { frameTo5 2 [0] with mac := 1 }).wf = false := by decide

theorem smoke_mac_with_auth : (Instr.regwr .dn { frameTo5 2 [0] with auth := true, mac := 1 }).wf = true := by decide

/-- R338: each row takes its own frame type only; type 0 belongs to none of them. -/
theorem smoke_wrong_frame_type :
    (Instr.phtim .dn 0 0 (frameTo5 0 [0])).wf = false ∧ (Instr.ploadOpen .dn (frameTo5 0 [0])).wf = false ∧
    (Instr.ploadData .dn (frameTo5 0 [0])).wf = false ∧ (Instr.ploadClose .dn (frameTo5 0 [0])).wf = false ∧
    (Instr.ploadAbort .dn (frameTo5 0 [0])).wf = false ∧ (Instr.runSwap .dn (frameTo5 0 [0])).wf = false ∧
    (Instr.runRestart .dn (frameTo5 0 [0])).wf = false ∧ (Instr.runHalt .dn (frameTo5 0 [0])).wf = false ∧
    (Instr.runCancel .dn (frameTo5 0 [0])).wf = false ∧ (Instr.regrd .dn (frameTo5 0 [0])).wf = false ∧
    (Instr.regwr .dn (frameTo5 0 [0])).wf = false ∧ (Instr.blkrd .dn (frameTo5 0 [0])).wf = false ∧
    (Instr.blkwr .dn (frameTo5 0 [0])).wf = false ∧ (Instr.trig (frameTo5 0 [0])).wf = false ∧
    (Instr.report .dn (frameTo5 0 [0])).wf = false ∧ (Instr.logx .dn (frameTo5 0 [0])).wf = false ∧
    (Instr.safety .dn (frameTo5 0 [0])).wf = false ∧ (Instr.keyFrame .dn (frameTo5 0 [0])).wf = false ∧
    (Instr.breakNotice .dn (frameTo5 0 [0])).wf = false := by decide

/-- R348: KINDLE is subtype 1, TOPO 2, KEND 3 and HOPREP 4 of a kindling frame. -/
theorem smoke_wrong_kindling_subtype :
    (Instr.kindle .dn (frameTo5 0xC [2])).wf = false ∧ (Instr.kindleReturn (frameTo5 0xC [2])).wf = false ∧
    (Instr.topo .dn (frameTo5 0xC [1])).wf = false ∧ (Instr.kend .dn (frameTo5 0xC [4])).wf = false ∧
    (Instr.hoprep .dn (frameTo5 0xC [3])).wf = false ∧ (Instr.kindle .dn (frameTo5 2 [1])).wf = false := by decide

theorem smoke_forwarded_and_received_frames :
    (Instr.frameForward .dn (frameTo5 1 []) 0).wf = false ∧ (Instr.responseReceive .dn (frameTo5 1 [])).wf = false := by decide

theorem smoke_channel_twice_in_an_instant :
    (Instr.conversionComplete [⟨3, 0, false, false⟩, ⟨3, 1, false, false⟩]).wf = false ∧
    (Instr.injectionComplete [⟨33, 0, false, false⟩, ⟨33, 0, false, false⟩]).wf = false := by decide

theorem smoke_address_inside_a_word :
    (Instr.drawerConfigWrite 0x3001 0).wf = false ∧ (Instr.spiWrreg 0x0002 0 true).wf = false ∧
    (Instr.calShadowWrite 0xD003 0).wf = false ∧ (Instr.registerWrite .hearth 0xFFFF 0).wf = false := by decide

theorem smoke_result_without_its_values :
    (Instr.resultMsg ⟨0, 0, 5, [1]⟩ true).wf = false ∧ (Instr.resultMsg ⟨0, 0, 5, [1, 2, 3]⟩ true).wf = false := by decide

theorem smoke_transfer_frame_words :
    (Instr.spiTxf [] true).wf = false ∧ (Instr.spiTxf (List.replicate 67 0) true).wf = false := by decide +kernel

theorem smoke_calibration_lengths :
    (Instr.calRunComplete (List.replicate 203 0) (List.replicate 34 0)).wf = false ∧
    (Instr.calRunComplete (List.replicate 204 0) (List.replicate 33 0)).wf = false ∧
    (Instr.trackingAttempt (List.replicate 33 .stay) (List.replicate 34 0)).wf = false ∧
    (Instr.trackingAttempt (List.replicate 34 .stay) (List.replicate 35 0)).wf = false := by decide +kernel

theorem smoke_ember_lengths :
    (Instr.emberCheck (List.replicate 33 0) [0, 0, 0, 0, 0]).wf = false ∧ (Instr.emberCheck [] [0, 0, 0, 0]).wf = false := by decide +kernel

/-! ### Words of Imvia, each written field by field from its format in R254 and its table in R256 to R285 -/

/-- Formats R and D (R254): opcode, rd, ra, rb and the last 14 bits. -/
def wordR (op : BitVec 6) (rd ra rb : BitVec 4) (low : BitVec 14) : Word := op ++ rd ++ ra ++ rb ++ low
/-- Format I (R254). -/
def wordI (op : BitVec 6) (rd ra : BitVec 4) (imm : BitVec 18) : Word := op ++ rd ++ ra ++ imm
/-- Format M (R254). -/
def wordM (op : BitVec 6) (rd : BitVec 4) (imm : BitVec 16) : Word := op ++ rd ++ (0 : BitVec 6) ++ imm
/-- Format P (R254). -/
def wordP (op : BitVec 6) (mask : BitVec 16) : Word := op ++ (0 : BitVec 10) ++ mask

/-- The formats by one whole word each, bit by bit. -/
theorem test_formats_bit_by_bit :
    wordR 0x01 3 1 2 0x05 = 0b000001_0011_0001_0010_00000000_000101#32 ∧
    wordI 0x02 3 1 0x3FFFE = 0b000010_0011_0001_111111111111111110#32 ∧
    wordM 0x09 1 0x0A7C = 0b001001_0001_000000_0000101001111100#32 ∧
    wordP 0x1A 0x800F = 0b011010_0000000000_1000000000001111#32 := by decide

/-- R258: function codes 0x00, 0x05, 0x0E, 0x12 and 0x16, and the ones with a register field of zero. -/
theorem test_decode_alu :
    Imvia.decode (wordR 0x01 3 1 2 0x00) = .add 3 1 2 ∧ Imvia.decode (wordR 0x01 3 1 2 0x05) = .subss 3 1 2 ∧
    Imvia.decode (wordR 0x01 15 14 13 0x0E) = .sar 15 14 13 ∧ Imvia.decode (wordR 0x01 3 1 2 0x12) = .mulhu 3 1 2 ∧
    Imvia.decode (wordR 0x01 3 1 2 0x16) = .maxu 3 1 2 ∧ Imvia.decode (wordR 0x01 0 1 2 0x17) = .cmp 1 2 ∧
    Imvia.decode (wordR 0x01 0 1 2 0x18) = .tst 1 2 ∧ Imvia.decode (wordR 0x01 3 1 0 0x19) = .mov 3 1 ∧
    Imvia.decode (wordR 0x01 3 1 0 0x1A) = .clz 3 1 ∧ Imvia.decode (wordR 0x01 3 1 0 0x1B) = .abss 3 1 := by decide

/-- R255, R258: a reserved bit, rd of CMP and TST, rb of MOV, CLZ and ABSS, and function codes from 0x1C. -/
theorem test_decode_alu_illegal :
    Imvia.decode (wordR 0x01 3 1 2 0x40) = .illegalOpcode (wordR 0x01 3 1 2 0x40) ∧
    Imvia.decode (wordR 0x01 3 1 2 0x17) = .illegalOpcode (wordR 0x01 3 1 2 0x17) ∧
    Imvia.decode (wordR 0x01 3 1 2 0x19) = .illegalOpcode (wordR 0x01 3 1 2 0x19) ∧
    Imvia.decode (wordR 0x01 3 1 2 0x1C) = .illegalOpcode (wordR 0x01 3 1 2 0x1C) := by decide

/-- R256, R259, R260. -/
theorem test_decode_immediates :
    Imvia.decode (wordI 0x02 3 1 0x3FFFF) = .addi 3 1 0x3FFFF ∧ Imvia.decode (wordI 0x05 3 1 0x155) = .xori 3 1 0x155 ∧
    Imvia.decode (wordI 0x06 3 1 0x7F) = .shi 3 1 0x7F ∧ Imvia.decode (wordI 0x07 0 1 9) = .cmpi 1 9 ∧
    Imvia.decode (wordI 0x07 3 1 9) = .illegalOpcode (wordI 0x07 3 1 9) ∧
    Imvia.decode (wordM 0x08 1 0x5AC4) = .movl 1 0x5AC4 ∧ Imvia.decode (wordM 0x09 1 0x0A7C) = .movh 1 0x0A7C ∧
    Imvia.decode (wordR 0x0A 3 1 2 0x0F) = .csel 3 1 2 15 ∧
    Imvia.decode (wordR 0x0A 3 1 2 0x1F) = .illegalOpcode (wordR 0x0A 3 1 2 0x1F) := by decide

/-- R256, R261 to R263. -/
theorem test_decode_memory :
    Imvia.decode (wordI 0x10 3 1 4) = .ldw 3 1 4 .ok ∧ Imvia.decode (wordI 0x11 3 1 4) = .ldh 3 1 4 .ok ∧
    Imvia.decode (wordI 0x14 3 1 4) = .ldbu 3 1 4 .ok ∧ Imvia.decode (wordI 0x15 3 1 4) = .stw 3 1 4 ∧
    Imvia.decode (wordI 0x17 3 1 4) = .stb 3 1 4 .ok ∧ Imvia.decode (wordI 0x18 3 1 4) = .ldr 3 1 4 ∧
    Imvia.decode (wordI 0x19 3 1 4) = .str 3 1 4 ∧ Imvia.decode (wordP 0x1A 0x800F) = .push 0x800F ∧
    Imvia.decode (wordP 0x1B 0x8001) = .pop 0x8001 .ok := by decide

/-- R256, R264 to R266. -/
theorem test_decode_control :
    Imvia.decode (wordR 0x20 9 0 0 0x3FFF) = .branch 9 0x3FFF ∧ Imvia.decode (wordR 0x21 0 0 0 0x10) = .call 0x10 ∧
    Imvia.decode (wordR 0x21 1 0 0 0x10) = .illegalOpcode (wordR 0x21 1 0 0 0x10) ∧
    Imvia.decode (wordR 0x22 0 15 0 0) = .jr 15 ∧ Imvia.decode (wordR 0x22 0 7 0 1) = .callr 7 ∧
    Imvia.decode (wordR 0x22 0 7 0 2) = .illegalOpcode (wordR 0x22 0 7 0 2) ∧
    Imvia.decode (wordR 0x23 0 0 0 0xA5) = .svc 0xA5 ∧ Imvia.decode (wordR 0x24 0 0 0 0) = .reti ∧
    Imvia.decode (wordR 0x25 0 0 0 0) = .yield ∧ Imvia.decode (wordR 0x25 0 0 0 1) = .illegalOpcode (wordR 0x25 0 0 0 1) := by decide

/-- R268, R270, R276: MEAS, WAITT, WAITPH and DRAW; the fields of [13:0] are laid out as their tables give them. -/
theorem test_decode_measurement :
    Imvia.decode (wordR 0x28 3 0 0 0x000) = .measGo 3 ∧ Imvia.decode (wordR 0x28 3 0 0 0x100) = .measArm 3 ∧
    Imvia.decode (wordR 0x28 3 0 0 0x200) = .measDisarm 3 ∧ Imvia.decode (wordR 0x28 3 0 0 0x300) = .measStop 3 ∧
    Imvia.decode (wordR 0x28 3 1 0 0x4AB) = .measInj 3 1 2 true false 11 ∧
    Imvia.decode (wordR 0x28 3 0 0 0x500) = .illegalOpcode (wordR 0x28 3 0 0 0x500) ∧
    Imvia.decode (wordR 0x28 3 1 0 0x000) = .illegalOpcode (wordR 0x28 3 1 0 0x000) ∧
    Imvia.decode (wordR 0x29 3 1 2 ((5 : BitVec 4) ++ (1 : BitVec 1) ++ (0 : BitVec 9))) = .waitt 3 1 2 5 true ∧
    Imvia.decode (wordR 0x2A 3 1 0 ((5 : BitVec 4) ++ (0 : BitVec 1) ++ (0 : BitVec 9))) = .waitph 3 1 5 false ∧
    Imvia.decode ((0x2B : BitVec 6) ++ (3 : BitVec 4) ++ (1 : BitVec 4) ++ (33 : BitVec 6) ++ (2 : BitVec 2) ++ (0 : BitVec 1) ++ (0 : BitVec 6)
      ++ (5 : BitVec 3)) = .draw 3 1 33 2 false 5 := by decide

/-- R278, R280, R281, R283 to R285: SEND, RECV, BAL, CRC, LOG and RAISE. -/
theorem test_decode_devices :
    Imvia.decode (wordR 0x2C 3 1 2 0x2000) = .send 3 1 2 true false ∧ Imvia.decode (wordR 0x2D 3 1 2 0x2000) = .recv 3 1 2 true ∧
    Imvia.decode ((0x2E : BitVec 6) ++ (3 : BitVec 4) ++ (1 : BitVec 4) ++ (2 : BitVec 2) ++ (5 : BitVec 3) ++ (1 : BitVec 1) ++ (0 : BitVec 2)
      ++ (0 : BitVec 10)) = .balTransfer 3 1 2 5 true ∧
    Imvia.decode ((0x2E : BitVec 6) ++ (3 : BitVec 4) ++ (0 : BitVec 4) ++ (2 : BitVec 2) ++ (0 : BitVec 4) ++ (1 : BitVec 2) ++ (0 : BitVec 10)) =
      .balStopShelf 3 2 ∧
    Imvia.decode (wordR 0x2E 3 0 0 0x800) = .balStopAll 3 ∧ Imvia.decode (wordR 0x2E 3 0 0 0xC00) = .illegalOpcode (wordR 0x2E 3 0 0 0xC00) ∧
    Imvia.decode (wordR 0x2F 3 1 2 0x2800) = .crc 3 1 2 2 true ∧ Imvia.decode (wordR 0x30 3 1 2 0x2000) = .logRec 3 1 2 true ∧
    Imvia.decode ((0x31 : BitVec 6) ++ (0 : BitVec 4) ++ (1 : BitVec 4) ++ (0 : BitVec 4) ++ (8 : BitVec 4) ++ (2 : BitVec 2) ++ (0x80 : BitVec 8)) =
      .raise 1 8 2 0x80 := by decide

/-- R255: erased and blank program memory always traps, and so do opcodes outside the map. -/
theorem test_decode_unassigned :
    Imvia.decode 0 = .illegalOpcode 0 ∧ Imvia.decode 0xFFFFFFFF = .illegalOpcode 0xFFFFFFFF ∧
    Imvia.decode (wordI 0x0B 0 0 0) = .illegalOpcode (wordI 0x0B 0 0 0) ∧
    Imvia.decode (wordI 0x32 0 0 0) = .illegalOpcode (wordI 0x32 0 0 0) := by decide

/-! ### Single commands, with the results that the spec works out or states -/

/-- Hearth after one command on a device. -/
def hearthAfter (i : Instr) (d : Dev) : Option Hearth :=
  match exec i (st d) with
  | .next s => some s.dev.hearth
  | _ => none

/-- Register `r` and the flags Z, N, C and V after one instruction on the member with W1 and W2 as given. -/
def after (i : Instr) (a b : Nat) (r : Nat) : Option (Word × Bool × Bool × Bool × Bool) :=
  (hearthAfter i (withW (withW member 1 a) 2 b)).map (fun h => (h.w.getD r 0, h.z, h.n, h.c, h.v))

/-- R258: 0xFFFFFFFF + 1 wraps to 0 with a carry and no overflow. -/
theorem test_add_wraps : after (.add 3 1 2) 0xFFFFFFFF 1 3 = some (0, true, false, true, false) := by decide +kernel

/-- R235, R258: 0 − 1 borrows, so C = 0. -/
theorem test_sub_borrows : after (.sub 3 1 2) 0 1 3 = some (0xFFFFFFFF, false, true, false, false) := by decide +kernel

/-- R258: the limit that the ADDSS text names, with V. -/
theorem test_addss_saturates : after (.addss 3 1 2) 0x7FFFFFFF 1 3 = some (0x7FFFFFFF, false, false, false, true) := by decide +kernel

/-- R258: the absolute value of 0x80000000 saturates. -/
theorem test_abss_saturates : after (.abss 1 1) 0x80000000 0 1 = some (0x7FFFFFFF, false, false, false, true) := by decide +kernel

/-- R258: the product of −1 and −1 is 1, whose upper half is 0. -/
theorem test_mulh_is_signed : after (.mulh 3 1 2) 0xFFFFFFFF 0xFFFFFFFF 3 = some (0, true, false, false, false) := by decide +kernel

/-- R258: the leading zeros of 0 are 32. -/
theorem test_clz_of_zero : after (.clz 3 1) 0 0 3 = some (32, false, false, false, false) := by decide +kernel

/-- R258: a shift right by 1 shifts bit 0 into C; a shift by 32 is one by 0. -/
theorem test_sar_keeps_the_sign : after (.sar 3 1 2) 0x80000001 1 3 = some (0xC0000000, false, true, true, false) := by decide +kernel

theorem test_shl_by_32_is_by_0 : after (.shl 3 1 2) 0x80000001 32 3 = some (0x80000001, false, true, false, false) := by decide +kernel

/-- R259: the constant 0x0A7C5AC4 takes MOVL and then MOVH. -/
theorem test_movl : after (.movl 1 0x5AC4) 0xFFFFFFFF 0 1 = some (0x5AC4, false, false, false, false) := by decide +kernel

theorem test_movh : after (.movh 1 0x0A7C) 0x5AC4 0 1 = some (0x0A7C5AC4, false, false, false, false) := by decide +kernel

/-- R264: CALL writes the next offset to W15 and goes to the branch's own offset plus off14. -/
theorem test_call_backwards :
    (hearthAfter (.call 0x3FFF) member).map (fun h => (h.w.getD 15 0, h.pc)) = some (101, 99) := by decide +kernel

/-- R209: the 16 kHz carrier reaches angle 0x2000 at tick 781 and step 8 after TB. -/
theorem test_angle_0x2000_of_16_kHz :
    (PhaseModel.mk 0 0 175921860 0 true false false).reached 0x2000 = 781 * 32 + 8 := by decide +kernel

/-- R209: the phase counter stands below angle 0x2000 at tick 781 and above it at tick 782. -/
theorem test_phase_around_0x2000 :
    (PhaseModel.mk 0 0 175921860 0 true false false).phaseAt (781 * 32) = 0x1FFD ∧
    (PhaseModel.mk 0 0 175921860 0 true false false).phaseAt (782 * 32) = 0x2007 := by decide +kernel


/-! ### Witnesses: concrete states and operands that meet the hypotheses of each claim, clause by clause -/

theorem witness_ArithmeticGivesResultAndFlags :
    (st member).awake = true ∧ (st member).dev.willRun = true ∧ (st user).awake = true ∧ (st user).dev.willRun = true ∧
    (127 : BitVec 18).toNat < 128 ∧ (15 : BitVec 4) ≠ 8 := by decide

/-- The top word of data SRAM, and the window of user code from its first byte to its last. -/
def topOfSram : Dev := withW member 1 0x1FFFC
def bottomOfWindow : Dev := withW user 1 0x100
def topOfWindow : Dev := withW user 1 0x10FC

theorem witness_LoadsReadOrTrap_reads :
    (st topOfSram).awake = true ∧ topOfSram.willRun = true ∧ Ecc.corrected ≠ Ecc.uncorrectable ∧
    topOfSram.mayUse (ea topOfSram 1 0) 4 ∧ ea topOfSram 1 0 % 4 = 0 ∧ topOfSram.mayUse (ea topOfSram 1 2) 2 ∧ ea topOfSram 1 2 % 2 = 0 ∧
    topOfSram.mayUse (ea topOfSram 1 3) 1 ∧ bottomOfWindow.willRun = true ∧ bottomOfWindow.mayUse (ea bottomOfWindow 1 0) 4 ∧
    ea bottomOfWindow 1 0 % 4 = 0 ∧ topOfWindow.mayUse (ea topOfWindow 1 2) 2 ∧ topOfWindow.mayUse (ea topOfWindow 1 3) 1 := by decide

theorem witness_LoadsReadOrTrap_traps :
    (st topOfSram).awake = true ∧ topOfSram.willRun = true ∧ 0x20000 < ea topOfSram 1 1 + 4 ∧ ea topOfSram 1 1 % 4 ≠ 0 ∧
    0x20000 < ea topOfSram 1 3 + 2 ∧ ea topOfSram 1 3 % 2 ≠ 0 ∧ 0x20000 < ea topOfSram 1 4 + 1 ∧
    topOfSram.mayUse (ea topOfSram 1 0) 4 ∧ ea topOfSram 1 0 % 4 = 0 := by decide

/-- W14 at the top of data SRAM for POP of one register, or one word above its bottom for PUSH. -/
def stackAtTop : Dev := withW member 14 0x1FFFC
def stackAtBottom : Dev := withW member 14 4

theorem witness_StoresAndStackWriteTheirBytesOnly :
    (st stackAtTop).awake = true ∧ stackAtTop.willRun = true ∧ (0x8000 : BitVec 16) ≠ 0 ∧ (0x8000 : BitVec 16).getLsbD 14 = false ∧
    stackAtTop.mayUse (stackAtTop.w 14).toNat (4 * (regsOf 0x8000).length) ∧ (stackAtTop.w 14).toNat % 4 = 0 ∧
    stackAtBottom.willRun = true ∧
    stackAtBottom.mayUse (stackAtBottom.w 14 - BitVec.ofNat 32 (4 * (regsOf 0x8000).length)).toNat (4 * (regsOf 0x8000).length) ∧
    (stackAtBottom.w 14 - BitVec.ofNat 32 (4 * (regsOf 0x8000).length)).toNat % 4 = 0 := by decide

/-- Z set: condition 1 holds and condition 9 does not. -/
def zeroFlag : Dev := member.setFlags true false false false

theorem witness_ControlTransfersAndReturns :
    (st zeroFlag).awake = true ∧ zeroFlag.willRun = true ∧ (1 : BitVec 4) ≠ 8 ∧ zeroFlag.cond 1 = true ∧ (9 : BitVec 4) ≠ 8 ∧
    zeroFlag.cond 9 = false ∧ zeroFlag.hearth.user = false ∧ (7 : BitVec 4).toNat < 8 := by decide

/-- User code at a word outside its region, on both sides of it. -/
def belowRegion : Dev := { user with hearth := { user.hearth with pc := 31 } }
def aboveRegion : Dev := { user with hearth := { user.hearth with pc := 4096 } }

/-- Line 15 alone pending and enabled, with IEN = 1. -/
def line15 : Dev := ((member.put F.SEQ_IP_IP 0xC000).put F.SEQ_IE_IE 0x8000).putB F.SEQ_CTL_IEN true

theorem witness_ExceptionsAndInterruptsEnterTheirVector :
    (Exc.mem 0).cause < 8 ∧ user.hearth.user = true ∧ member.hearth.user = false ∧ (st user).awake = true ∧ user.willRun = true ∧
    belowRegion.issues = true ∧ 31 < belowRegion.get F.SEQ_UREG_USTART ∧ aboveRegion.issues = true ∧
    aboveRegion.get F.SEQ_UREG_UEND ≤ 4096 ∧
    (st line15).awake = true ∧ line15.hearth.run = true ∧ line15.hearth.wait = none ∧ line15.bit F.SEQ_CTL_IEN = true ∧
    line15.bitAt F.SEQ_IP_IP 15 = true ∧ line15.bitAt F.SEQ_IE_IE 15 = true ∧
    (∀ m < 15, (line15.bitAt F.SEQ_IP_IP m && line15.bitAt F.SEQ_IE_IE m) = false) ∧ member.issues = true := by decide

/-- W1 at the last register word, at SEQ_MBOX[0], at a misaligned address, at GRD_OVEN, and at BST_CTL with LBH in W2. -/
def portTop : Dev := withW member 1 0xFFFC
def portMbox : Dev := withW user 1 0x2400
def portTim : Dev := withW user 1 0x7000
def portGrd : Dev := withW member 1 0x6000
def portLbh : Dev := withW (withW member 1 R.BST_CTL) 2 0x100

theorem witness_RegisterPortReadsWritesAndTraps :
    (st portTop).awake = true ∧ portTop.willRun = true ∧ ea portTop 1 0 % 65536 % 4 = 0 ∧ portTop.hearth.wbuf = [] ∧
    Dev.authOnly (ea portTop 1 0 % 65536) = false ∧ ea portTop 1 0 % 65536 / 4096 ≠ 2 ∧ portTop.hearth.wbuf.length < 2 ∧
    (st portTim).awake = true ∧ portTim.willRun = true ∧ portTim.bitAt F.SEQ_GRANT_BLK (ea portTim 1 0 % 65536 / 4096) = true ∧
    Dev.authOnly (ea portMbox 1 0 % 65536) = false ∧ ea portMbox 1 0 % 65536 / 4096 = 2 ∧
    ea portTop 1 1 % 65536 % 4 ≠ 0 ∧ Dev.authOnly (ea portGrd 1 0 % 65536) = true ∧ ea portGrd 1 0 % 65536 % 4 = 0 ∧
    ea portLbh 1 0 % 65536 = R.BST_CTL ∧ (portLbh.w 2).getLsbD 8 = true := by decide

/-- A WAITT that has a masked event, one whose target has just come, and one whose target lies 2^47 ticks ahead. -/
def waiting (mask : BitVec 16) (t : BitVec 48) (ip : Nat) : Dev :=
  let d := member.put F.SEQ_IP_IP ip
  { d with hearth := { d.hearth with wait := some ⟨.time t, 3, mask, 4999999⟩ } }

theorem witness_WaitsFixTheirTargetAndEnd :
    (st member).awake = true ∧ member.willRun = true ∧ (st (waiting 4 0 4)).awake = true ∧
    (waiting 4 0 4).get F.SEQ_IP_IP &&& 4 ≠ 0 ∧ 4999999 < (waiting 4 0 4).cycle ∧
    (waiting 4 4000000 8).get F.SEQ_IP_IP &&& 4 = 0 ∧ ((waiting 4 4000000 8).tb - 4000000).toNat < 2 ^ 47 ∧
    2 ^ 47 ≤ ((waiting 0 4000001 8).tb - 4000001).toNat := by decide

/-- W1 with the charge and current of a transfer: 1 mC at 3,000 mA, and two that are not allowed. -/
def transferMax : Dev := withW user 1 (3000 * 65536 + 1)
def transferOver : Dev := withW user 1 (3001 * 65536 + 1)
def transferNone : Dev := withW user 1 (3000 * 65536)

theorem witness_DeviceInstructionsActOnTheirUnits :
    (st user).awake = true ∧ user.willRun = true ∧ user.isHead = false ∧ user.bit F.SEQ_GRANT_MEAS = true ∧ user.bit F.SEQ_GRANT_BAL = true ∧
    (5 : BitVec 3).toNat < 6 ∧ (10 : BitVec 4).toNat + (5 : BitVec 3).toNat ≤ 15 ∧ (37 : BitVec 6).toNat ≤ 37 ∧
    (transferMax.w 1).toNat % 2 ^ 16 ≠ 0 ∧ (transferMax.w 1).toNat / 2 ^ 16 ≤ 3000 ∧ 3000 < (transferOver.w 1).toNat / 2 ^ 16 ∧
    (transferNone.w 1).toNat % 2 ^ 16 = 0 := by decide

/-- SEND of `n` bytes from the last `n` bytes of data SRAM. -/
def sending (n : Nat) : Dev := withW (withW member 1 (0x20000 - n)) 2 n
/-- Eight frames of SEND wait in the forward stream. -/
def sendFull : Dev :=
  let d := sending 256
  { d with chain := { d.chain with ownFwd := List.replicate 8 ⟨frameTo5 9 [0], true, false, false, 0⟩ } }
def sendLocked : Dev := (sending 4).putB F.FLT_STAT_LKO true
def sendStopped : Dev := (sending 4).putB F.SEC_STAT_ASTOP true
/-- A received frame of three bytes for RECV into the last four bytes of data SRAM. -/
def received : Dev :=
  let d := withW (withW member 1 0x1FFFC) 2 4
  { d with hearth := { d.hearth with rxq := [⟨frameTo5 9 [1, 2, 3], true⟩] } }
def nothingReceived : Dev := withW (withW member 1 0x1FFFC) 2 4

theorem witness_SendAndRecvMoveFrames :
    (st (sending 256)).awake = true ∧ (sending 256).willRun = true ∧ (sending 256).hearth.user = false ∧
    ((sending 256).w 2).toNat % 2 ^ 16 = 256 ∧ ((sending 256).w 2).toNat / 2 ^ 23 < 4 ∧ ((sending 256).w 2).toNat / 2 ^ 23 % 2 = 0 ∧
    (sending 256).mayUse ((sending 256).w 1).toNat 256 ∧ ((sending 256).w 1).toNat % 4 = 0 ∧
    sendLocked.bit F.FLT_STAT_LKO = true ∧ sendLocked.willRun = true ∧ sendStopped.bit F.SEC_STAT_ASTOP = true ∧ sendStopped.willRun = true ∧
    (sending 256).bit F.FLT_STAT_LKO = false ∧ (sending 256).bit F.SEC_STAT_ASTOP = false ∧ (sending 256).keys.ks = none ∧
    sendFull.bit F.FLT_STAT_LKO = false ∧ 8 ≤ sendFull.txqCount ∧ (sending 256).txqCount < 8 ∧
    (st received).awake = true ∧ received.willRun = true ∧ received.hearth.rxq = [⟨frameTo5 9 [1, 2, 3], true⟩] ∧
    1 ≤ (received.w 2).toNat ∧ (received.w 2).toNat ≤ 256 ∧ received.mayUse (received.w 1).toNat (received.w 2).toNat ∧
    (received.w 1).toNat % 4 = 0 ∧ nothingReceived.willRun = true ∧ nothingReceived.hearth.rxq = [] := by decide

/-- A program record of `n` bytes from address 0 for LOG, before the log is mounted; the queue full; the log controller at fault. -/
def logging (n : Nat) : Dev := withW (withW member 1 0) 2 n
def logFull : Dev :=
  let d := logging 4096
  { d with log := { d.log with progQ := List.replicate 4 ⟨0x80, 0, [], true, 0, 0, 0⟩ } }
def logUnavailable : Dev := { logging 4096 with log := { (logging 4096).log with memLevels := 2 } }
/-- LOG and RECV stalled since the cycle before. -/
def logStalled : Dev :=
  let d := logging 4096
  { d with hearth := { d.hearth with wait := some ⟨.log 3 1 2, 3, 0, 4999999⟩ } }
def recvStalled : Dev := { received with hearth := { received.hearth with wait := some ⟨.recv 3 1 2, 3, 0, 4999999⟩ } }

theorem witness_CrcLogRaiseAndStalledInstructionsComplete :
    (st (logging 4096)).awake = true ∧ (logging 4096).willRun = true ∧ (logging 4096).hearth.user = false ∧
    ((logging 4096).w 2).toNat % 2 ^ 16 = 4096 ∧ ((logging 4096).w 1).toNat % 4 = 0 ∧ (logging 4096).mayUse ((logging 4096).w 1).toNat 4096 ∧
    logUnavailable.logFault = true ∧ logUnavailable.willRun = true ∧ logFull.logFault = false ∧ logFull.willRun = true ∧
    4 ≤ logFull.log.progQ.length ∧ (logging 4096).logFault = false ∧ (logging 4096).log.progQ.length < 4 ∧ (logging 4096).mounted = false ∧
    (8 : BitVec 4).toNat ≤ 8 ∧ (8 : BitVec 4) ≠ 2 ∧ 0x80 ≤ (0x80 : Byte).toNat ∧
    (st logStalled).awake = true ∧ logStalled.hearth.wait = some ⟨.log 3 1 2, 3, 0, 4999999⟩ ∧ logStalled.logFault = false ∧
    logStalled.mounted = false ∧ (st recvStalled).awake = true ∧ recvStalled.hearth.wait = some ⟨.recv 3 1 2, 3, 0, 4999999⟩ ∧
    recvStalled.hearth.rxq = [⟨frameTo5 9 [1, 2, 3], true⟩] ∧ (recvStalled.w 2).toNat = 4 := by decide

/-- VBUS rose 20,000 cycles ago and reset is still held. -/
def vbusUp : Dev := { member with power := { member.power with released := false, vbusRose := some 4980000 } }
def vbusDown : Dev := { member with power := { member.power with released := false } }

theorem witness_ResetsStartTheDeviceAnew :
    vbusUp.power.released = false ∧ vbusUp.power.vbusRose = some 4980000 ∧ 4980000 + 20000 ≤ vbusUp.cycle ∧ vbusUp.power.strapped = true ∧
    vbusDown.power.released = false ∧ vbusDown.power.vbusRose = none ∧ vbusDown.isHead = false ∧
    (st member).awake = true ∧ (0 : Word) ≠ 0x52535421 ∧ member.bit F.FLT_STAT_LKO = false := by decide

/-- The moments of start-up, each the first cycle of its step. -/
def released (n : Nat) : Dev := { member with cycle := n }
def releasedHead (n : Nat) : Dev := { head with cycle := n, chain := { head.chain with txOn := false } }
def releasedB0 : Dev := { head.putB F.SYS_STRAP_TWINSEL true with cycle := 2000000 }
/-- The scrub due at the last codeword, a SAFE output on, and a supply below the power-fail warning. -/
def scrubDue : Dev := { member with power := { member.power with scrubAt := 5000000 - 8138, scrubPos := 24575 } }
def safeOn0 : Dev := head.put F.GRD_SAFESTAT_OUT 1
/-- A running transfer toward the bus on shelf 0, one toward its cell on shelf 1, and an excitation on shelf 2. -/
def shelvesBusy : Dev := { member with bal := { member.bal with shelves :=
  [{ Shelf.reset with phase := .running, act := true, q := 5 }, { Shelf.reset with phase := .running, act := true, dir := true, q := 5 },
   { Shelf.reset with phase := .running, act := true, xmode := true }, Shelf.reset] } }

theorem witness_StartUpAndSupplyEventsAct :
    (st (released 5000)).awake = true ∧ (released 5000).power.started = true ∧ (released 5000).power.releasedAt + 5000 ≤ (released 5000).cycle ∧
    (released 5000).bit F.GRD_STAT_ARMED = false ∧ (released 10000).power.releasedAt + 10000 ≤ (released 10000).cycle ∧
    (released 35000).power.releasedAt + 35000 ≤ (released 35000).cycle ∧ (released 35000).power.wakeIdle = none ∧
    (releasedHead 50000).power.releasedAt + 50000 ≤ (releasedHead 50000).cycle ∧ (releasedHead 50000).isHead = true ∧
    (releasedHead 50000).get F.SYS_PWRSTAT_WCAUSE = 0 ∧ (releasedHead 50000).isTwin = false ∧ (releasedHead 50000).chain.txOn = false ∧
    releasedB0.power.releasedAt + 2000000 ≤ releasedB0.cycle ∧ releasedB0.isHead = true ∧ releasedB0.isTwin = true ∧
    releasedB0.get F.TWN_STAT_LINK ≠ 2 ∧
    (st scrubDue).awake = true ∧ scrubDue.power.scrubAt + 8138 ≤ scrubDue.cycle ∧ scrubDue.power.scrubPos < 24576 ∧
    (st safeOn0).awake = true ∧ safeOn0.isHead = true ∧ safeOn0.bitAt F.GRD_SAFESTAT_OUT 0 = true ∧ member.power.powerFail = false ∧
    (st shelvesBusy).awake = true ∧ (shelvesBusy.shelf 0).act = true ∧ (shelvesBusy.shelf 0).dir = false ∧
    (shelvesBusy.shelf 1).dir = true ∧ (shelvesBusy.shelf 1).xmode = false ∧ (shelvesBusy.shelf 2).xmode = true := by decide

/-- COMM_TIMEOUT of 2 s has just run out; entry to Banked began 2 ms ago; SLEEP of a head with a SAFE output on is `safeOn0`. -/
def commExpired : Dev := { member with cycle := 200000000 }
def entryOver : Dev := { member with power := { member.power with entering := some 4800000 } }
/-- A Banked member and a Banked head. -/
def banked : Dev := member.put F.SYS_PWRSTAT_STATE 3
def bankedHead : Dev := head.put F.SYS_PWRSTAT_STATE 3
def bankedLocked : Dev := banked.putB F.FLT_STAT_LKO true
/-- A head woken by CSN, before and after WAKE. -/
def wokenHead : Dev := let d := head.put F.SYS_PWRSTAT_WCAUSE 5; { d with chain := { d.chain with txOn := false } }
def wakingHead : Dev := { head with power := { head.power with phtimStart := some 5000000 } }
/-- An ember check in progress for 3 ms. -/
def emberOver : Dev := { banked with power := { banked.power with ember := some 4700000 } }
/-- Two enabled cells for an ember check, one above its threshold and one below. -/
def emberDue : Dev := banked.put F.CONV_CHEN_CELL 3

theorem witness_BankedIsEnteredWatchedAndLeft :
    (st commExpired).awake = true ∧ commExpired.isHead = false ∧ commExpired.power.entering = none ∧ commExpired.touch = [] ∧
    commExpired.power.commAt + clampNat 10 10000 (commExpired.get F.SYS_COMMTMO_TMO) * 100000 ≤ commExpired.cycle ∧
    safeOn0.isHead = true ∧ safeOn0.bitAt F.GRD_SAFESTAT_OUT 0 = true ∧
    entryOver.power.entering = some 4800000 ∧ 4800000 + 200000 ≤ entryOver.cycle ∧ entryOver.power.wakePending = none ∧
    banked.power.released = true ∧ banked.banked = true ∧ banked.power.ember = none ∧ banked.isHead = false ∧
    banked.bit F.CHN_ADDR_VALID = true ∧ bankedHead.banked = true ∧ bankedHead.power.ember = none ∧ bankedHead.isHead = true ∧
    bankedLocked.banked = true ∧ bankedLocked.bit F.FLT_STAT_LKO = true ∧
    (st wokenHead).awake = true ∧ wokenHead.isHead = true ∧ wokenHead.get F.SYS_PWRSTAT_WCAUSE ≠ 0 ∧ wokenHead.chain.txOn = false ∧
    (st wakingHead).awake = true ∧ wakingHead.power.phtimStart = some 5000000 ∧ 5000000 ≤ wakingHead.cycle ∧
    (st member).awake = true ∧ member.logFault = false ∧ member.log.hwQ = [] ∧ member.mounted = false ∧
    emberDue.power.released = true ∧ emberDue.bit F.SYS_EMBCFG_EN = true ∧ emberDue.power.ember = none ∧
    emberDue.power.emberAt ≤ emberDue.cycle ∧
    ((List.range 32).filter (fun i => emberDue.bitAt F.CONV_CHEN_CELL i)).map (fun i => nth [0x3701, 0x1F3F] i 0) = [0x3701, 0x1F3F] ∧
    emberDue.get F.SYS_EMBTHV_OV < 0x3701 ∧ 0x1F3F < emberDue.get F.SYS_EMBTHV_UV ∧ emberDue.get F.SYS_EMBTHX_IMB < 0x3701 - 0x1F3F ∧
    emberOver.banked = true ∧ emberOver.power.ember = some 4700000 ∧ 4700000 + 300000 ≤ emberOver.cycle ∧
    emberOver.log.programming = none ∧ emberOver.log.staged = [] ∧ emberOver.power.wakePending = none := by decide

/-- Settings of a sweep as they stood at the start of the cycle. -/
def settings (d : Dev) : Dev := { d with regs0 := d.regs }
/-- A member outside Measure, one in CAL_RUN, one whose sweep is in flight, one that wants the phase without a model, and one whose
interval of 99 ticks is too short. -/
def inStart : Dev := settings (member.put F.SYS_PWRSTAT_STATE 1)
def calibrating : Dev := settings (member.putB F.CAL_STAT_RUN true)
def sweeping : Dev := { member with conv := { member.conv with infl := true, next := 5000020, cfg := { member.conv.cfg with count := 2, intv := 100, cells := 0xFF } } }
def phaseSweep : Dev := settings (member.putB F.CONV_INTV_UNIT true)
def fastSweep : Dev := settings ((member.put F.CONV_SWEEP_COUNT 2).put F.CONV_INTV_INTV 99)
def slowSweep : Dev := settings ((member.put F.CONV_SWEEP_COUNT 2).put F.CONV_INTV_INTV 100)
/-- An environment of a hold edge without phase and excitation. -/
def holdEnv : HoldEnv := ⟨0, false, [], [], 0, false⟩
/-- An instant that samples cell 7 and left its converter 82 cycles after its hold edge. -/
def instant7 (last injected : Bool) : Instant := ⟨4999918, 0, 0x80, false, false, 0, 0, false, false, injected, 0, false, last, some holdEnv⟩
def completing (last : Bool) : Dev := { sweeping with conv := { sweeping.conv with instants := [instant7 last false] } }
def injectionOver : Dev := { member with conv := { member.conv with instants := [instant7 true true] }, inj := { member.inj with run := true } }
/-- Drawer 0 of the cells at its reset setting, the others off; one sample short of a result, and at the first sample of many. -/
def drawer0Only (d : Dev) : Dev := ((d.put (F.ACC_DCFG_MODE 0 1) 0).put (F.ACC_DCFG_MODE 0 2) 0).put (F.ACC_DCFG_MODE 0 3) 0
def summing : Dev := drawer0Only { member with conv := { member.conv with instants := [instant7 true false] } }
def summed : Dev := { summing with drawers := upd summing.drawers 28 (fun w => { w with work := { w.work with a := 100, cnt := 15 } }) }
/-- A pending injection whose acquisition begins now. -/
def injectionDue : Dev := { member with inj := { member.inj with pend := true, cells := 1, hold := 5000020 } }

theorem witness_SweepsLaunchAndObeyTheirCommands :
    (st inStart).awake = true ∧ inStart.isHead = false ∧ inStart.inMeasure = false ∧ calibrating.inMeasure = true ∧
    calibrating.bit F.CAL_STAT_RUN = true ∧ sweeping.inMeasure = true ∧ sweeping.bit F.CAL_STAT_RUN = false ∧ sweeping.conv.infl = true ∧
    (∀ i ∈ sweeping.conv.instants, i.hold < sweeping.cycle) ∧
    phaseSweep.inMeasure = true ∧ phaseSweep.conv.infl = false ∧ phaseSweep.sweepCfg.unit = true ∧ phaseSweep.plock = false ∧
    fastSweep.inMeasure = true ∧ fastSweep.sweepCfg.unit = false ∧ fastSweep.sweepCfg.count ≠ 1 ∧ fastSweep.sweepCfg.intv < 100 ∧
    slowSweep.inMeasure = true ∧ slowSweep.bit F.CAL_STAT_RUN = false ∧ slowSweep.conv.infl = false ∧ slowSweep.sweepCfg.unit = false ∧
    slowSweep.rateTooShort slowSweep.sweepCfg = false ∧ (st head).awake = true ∧ head.isHead = true := by decide

theorem witness_SweepsAcquireCompleteAndPublish :
    (st sweeping).awake = true ∧ sweeping.conv.infl = true ∧ sweeping.conv.noMore = false ∧ sweeping.conv.next ≤ sweeping.cycle + 20 ∧
    sweeping.conv.cfg.unit = false ∧ sweeping.conv.cfg.aux = false ∧ sweeping.inj = Injection.reset ∧
    (st (completing true)).awake = true ∧ (∀ w ∈ (completing true).drawers, w.closed = none) ∧ (completing true).conv.infl = true ∧
    (completing true).conv.instants = instant7 true false :: [] ∧ (instant7 true false).injected = false ∧
    (instant7 true false).env.isSome = true ∧ (instant7 true false).hold + 82 ≤ (completing true).cycle := by decide

theorem witness_SumDrawersAccumulateAndPublish :
    (st summing).awake = true ∧ (∀ w ∈ summing.drawers, w.closed = none) ∧ summing.drawers.length = 136 ∧ summing.trk.length = 34 ∧
    summing.conv.instants = [instant7 true false] ∧ (instant7 true false).env = some holdEnv ∧ (instant7 true false).hold + 82 ≤ summing.cycle ∧
    (instant7 true false).cells.getLsbD 7 = true ∧ (instant7 true false).diagCells.getLsbD 7 = false ∧
    (∀ k : Fin 4, k ≠ 0 → summing.get (F.ACC_DCFG_MODE 0 k) = 0) ∧ summing.get (F.ACC_DCFG_MODE 0 0) = 1 ∧
    summing.bitAt (F.ACC_DCHEN_CELL 0) 7 = true ∧ summing.get (F.ACC_DCFG_SWP 0 0) = 1 ∧
    (summing.drawer 7 0).work.cnt + 1 < sumLength (summing.get (F.ACC_DCFG_K 0 0)) ∧
    summed.conv.instants = [instant7 true false] ∧ sumLength (summed.get (F.ACC_DCFG_K 0 0)) ≤ (summed.drawer 7 0).work.cnt + 1 ∧
    (summed.drawer 7 0).work.discarded = false := by decide

theorem witness_InjectionsAndQuietWindows :
    (st member).awake = true ∧ member.isHead = false ∧ (0 : Word).getLsbD 0 = false ∧ (1 : Word).getLsbD 0 = true ∧
    inStart.inMeasure = false ∧ member.inj.pend = false ∧ member.inj.run = false ∧ member.bit F.CAL_STAT_RUN = false ∧
    member.inMeasure = true ∧ member.conv.instants = [] ∧
    (st injectionDue).awake = true ∧ injectionDue.inj.pend = true ∧ injectionDue.inj.hold ≤ injectionDue.cycle + 20 ∧
    (st injectionOver).awake = true ∧ (∀ w ∈ injectionOver.drawers, w.closed = none) ∧
    injectionOver.conv.instants = instant7 true true :: [] ∧ (instant7 true true).injected = true ∧
    (instant7 true true).hold + 82 ≤ injectionOver.cycle ∧
    member.bal.shelves.length = 4 ∧ member.bal.quietUntil ≤ member.cycle ∧ member.quietWanted = false ∧
    (15 : BitVec 4).getLsbD 0 = true ∧ shelvesBusy.bitAt F.BAL_CTL_QWEN 0 = true ∧ (shelvesBusy.shelf 0).inCycle = true ∧
    (shelvesBusy.shelf 0).xrunning = false ∧ sweeping.quietWanted = true := by decide

/-- Drawer 1 of cell 0 in WINDOW mode on the device's phase, closed; open with two periods left; and open in its last period. -/
def windowed (isOpen : Bool) (left cnt : Nat) : Dev :=
  let d := member.put (F.ACC_DCFG_MODE 0 1) 2
  { d with drawers := upd d.drawers 1 (fun w => { w with work := { w.work with isOpen := isOpen, cnt := cnt }, periodsLeft := left }) }
/-- A result that has just been published over an older one, in a drawer and in an excitation accumulator. -/
def justPublished : Dev := { member with
  drawers := upd member.drawers 0 (fun w => { w with before := some w.vis })
  excs := upd member.excs 0 (fun w => { w with before := some w.vis }) }

theorem witness_WindowsDrawerCommandsAndResultReads :
    (st (windowed false 0 0)).awake = true ∧ (windowed false 0 0).drawers.length = 136 ∧ (∀ x ∈ (windowed false 0 0).drawers, x.closed = none) ∧
    (windowed false 0 0).conv.instants = [] ∧ (windowed false 0 0).drawerRuns 0 1 = true ∧ 2 ≤ (windowed false 0 0).get (F.ACC_DCFG_MODE 0 1) ∧
    psrcOf ((windowed false 0 0).get (F.ACC_DCFG_PSRC 0 1)) = 0 ∧ (nth (windowed false 0 0).drawers 1 Drawer.reset).work.isOpen = false ∧
    (nth (windowed true 2 5).drawers 1 Drawer.reset).work.isOpen = true ∧ 1 < (nth (windowed true 2 5).drawers 1 Drawer.reset).periodsLeft ∧
    (nth (windowed true 1 1).drawers 1 Drawer.reset).periodsLeft ≤ 1 ∧ (nth (windowed true 1 1).drawers 1 Drawer.reset).work.discarded = false ∧
    (nth (windowed true 1 1).drawers 1 Drawer.reset).work.cnt < 2 ∧ member.get (F.ACC_DCFG_MODE 0 1) < 2 ∧
    (st head).awake = true ∧ head.isHead = true ∧ member.isHead = false ∧ (nth member.drawers 135 Drawer.reset).before = none ∧
    (nth justPublished.drawers 0 Drawer.reset).before = some (nth justPublished.drawers 0 Drawer.reset).vis ∧ (member.exc 3).before = none ∧
    (justPublished.exc 0).before = some (justPublished.exc 0).vis := by decide

/-- The model of a 16 kHz carrier whose boundary is now, at period count 5. -/
def theModel : PhaseModel := ⟨128000000, 5, 175921860, 7, true, false, false⟩
def modelled : Dev := { member with tim := { member.tim with model := some theModel } }
def beforeWrap : Dev := { member with tim := { member.tim with model := some { theModel with pc := 0xFFFF } } }
/-- All compare units armed, with one timebase value and one phase value in each. -/
def timeUnit (v : BitVec 48) (inc : Nat) : Dev :=
  let d := (member.put F.TIM_CMPSTAT_ARMED 0xFF).put (F.TIM_TCMPINC_INC 3) inc
  { d with tim := { d.tim with tcmp := List.replicate 4 v } }
def phaseUnit (v : Nat) (inc : Nat) : Dev :=
  ((modelled.put F.TIM_CMPSTAT_ARMED 0xFF).wr (R.TIM_PCMP 3) (BitVec.ofNat 32 v)).put (F.TIM_PCMPINC_INC 3) inc
def phaseJustFired : Dev := { phaseUnit 0x50000 0 with tim := { (phaseUnit 0x50000 0).tim with pLast := List.replicate 4 (some 4999901) } }
/-- A sweep of one instant triggered by timebase compare 3, armed or not for one shot. -/
def compareSweep (oneshot : Nat) (armed : Bool) : Dev :=
  let d := ((((timeUnit 4000000 0).put F.CONV_SWEEP_COUNT 1).put F.CONV_TRIG_SRC 1).put F.CONV_TRIG_CMP 3).put F.CONV_TRIG_ONESHOT oneshot
  settings { d with conv := { d.conv with armed := armed } }
/-- Capture unit 3 takes a source; the comparator of AUX7 runs. -/
def capturing (d : Dev) (src : Nat) : Dev := (d.put (F.TIM_CAPCFG_SRC 3) src).putB F.TIM_AUXCMP_EN true

theorem witness_TimeReadsComparesAndCaptures :
    (st member).awake = true ∧ member.tim.model = none ∧ modelled.tim.model = some theModel ∧ theModel.tb < 2 ^ 53 ∧
    (st modelled).awake = true ∧ member.tim.tcmp.length = 4 ∧ member.tim.capH.length = 4 ∧
    (capturing member 3).get (F.TIM_CAPCFG_SRC 3) = 3 ∧ (capturing member 4).get (F.TIM_CAPCFG_SRC 3) = 4 ∧
    (capturing member 5).get (F.TIM_CAPCFG_SRC 3) = 5 ∧ (capturing member 6).get (F.TIM_CAPCFG_SRC 3) = 6 ∧
    (capturing head 1).isHead = true ∧ (capturing head 1).get (F.TIM_CAPCFG_SRC 3) = 1 ∧
    (capturing head 2).isHead = true ∧ (capturing head 2).get (F.TIM_CAPCFG_SRC 3) = 2 ∧ member.isHead = false ∧
    (capturing member 0).bit F.TIM_AUXCMP_EN = true ∧ member.bit F.TIM_AUXCMP_EN = false ∧ (st (capturing member 0)).awake = true := by decide

theorem witness_ComparesFireAndDriveTheTrigger :
    (timeUnit 4000000 0).tim.tcmp.length = 4 ∧ (timeUnit 4000000 0).tim.again.getLsbD 3 = false ∧
    (timeUnit 4000000 0).get0 F.CONV_TRIG_SRC ≠ 1 ∧ member.bitAt F.TIM_CMPSTAT_ARMED 3 = false ∧
    ¬ ((timeUnit 4000001 0).tb - 4000001).toNat < 2 ^ 47 ∧ (st (timeUnit 4000000 0)).awake = true ∧
    (timeUnit 4000000 0).bitAt F.TIM_CMPSTAT_ARMED 3 = true ∧ ((timeUnit 4000000 0).tb - 4000000).toNat < 2 ^ 47 ∧
    (timeUnit 4000000 0).get (F.TIM_TCMPINC_INC 3) = 0 ∧ (timeUnit 3999900 50).get (F.TIM_TCMPINC_INC 3) = 50 ∧
    2 ^ 47 ≤ ((timeUnit 3999901 50).tb - (3999901 + BitVec.ofNat 48 (max 50 100))).toNat ∧
    ((timeUnit 3999900 50).tb - (3999900 + BitVec.ofNat 48 (max 50 100))).toNat < 2 ^ 47 ∧
    (st (phaseUnit 0x50000 0)).awake = true ∧ (phaseUnit 0x50000 0).tim.again.getLsbD 7 = false ∧ (phaseUnit 0x50000 0).get0 F.CONV_TRIG_SRC ≠ 2 ∧
    member.bitAt F.TIM_CMPSTAT_ARMED 7 = false ∧ member.tim.model = none ∧ (phaseUnit 0x50100 0).phasePassed 0x50100 = false ∧
    nth phaseJustFired.tim.pLast 3 none = some 4999901 ∧ phaseJustFired.cycle < 4999901 + 100 ∧
    (phaseUnit 0x50000 0).bitAt F.TIM_CMPSTAT_ARMED 7 = true ∧ (phaseUnit 0x50000 0).phasePassed 0x50000 = true ∧
    nth (phaseUnit 0x50000 0).tim.pLast 3 none = none ∧ (phaseUnit 0x50000 0).get (F.TIM_PCMPINC_INC 3) = 0 ∧
    (phaseUnit 0x40000 65536).get (F.TIM_PCMPINC_INC 3) = 65536 ∧ (phaseUnit 0x40100 65536).phasePassed 0x40100 = true ∧
    (phaseUnit 0x40100 65536).phasePassed (0x40100 + BitVec.ofNat 32 65536) = false ∧
    (phaseUnit 0x40000 65536).phasePassed (0x40000 + BitVec.ofNat 32 65536) = true ∧
    (st (compareSweep 0 false)).awake = true ∧ (compareSweep 0 false).tim.tcmp.length = 4 ∧ (compareSweep 0 false).get0 F.CONV_TRIG_SRC = 1 ∧
    (compareSweep 0 false).get0 F.CONV_TRIG_CMP = 3 ∧ (compareSweep 0 false).bitAt F.TIM_CMPSTAT_ARMED 3 = true ∧
    ((compareSweep 0 false).tb - nth (compareSweep 0 false).tim.tcmp 3 0).toNat < 2 ^ 47 ∧ (compareSweep 0 false).conv.infl = false ∧
    (compareSweep 0 false).inMeasure = true ∧ (compareSweep 0 false).bit F.CAL_STAT_RUN = false ∧ (compareSweep 0 false).sweepCfg.unit = false ∧
    (compareSweep 0 false).sweepCfg.count = 1 ∧ (compareSweep 0 false).isHead = false ∧ (compareSweep 0 false).get0 F.CONV_TRIG_ONESHOT = 0 ∧
    (compareSweep 1 true).conv.armed = true ∧ (compareSweep 1 false).get0 F.CONV_TRIG_ONESHOT = 1 ∧ (compareSweep 1 false).conv.armed = false := by
  decide

/-- A PHTIM payload with a send time, and zeros for the model, the token and the path updates. -/
def phtimOf (t : Nat) (step : Byte) : Frame := frameTo5 8 (beBytes 6 t ++ [step] ++ List.replicate 29 0)
/-- A member that steps at its next PHTIM, with a path delay of 100/4096 tick. -/
def stepping : Dev :=
  let d := member.putB F.TIM_PDLY_VALID true
  { d with tim := { d.tim with stepNext := true, d := 100 } }
/-- Three timing frames have been missed and the next is overdue. -/
def threeMissed : Dev := { modelled with tim := { modelled.tim with everFramed := true, expected := 4948800, missRun := 3 } }
def modelDue : Dev := { member with tim := { member.tim with waiting := some theModel } }
def modelAhead : Dev := { member with tim := { member.tim with waiting := some { theModel with tb := 128000032 } } }
/-- A head whose next PHTIM is due, with its phase loop at a number of edges. -/
def loopHead (edges missed : Nat) : Dev := { head with
  chain := { head.chain with phtimAt := some 5000000 }
  loop := { head.loop with edges := edges, lastEdge := 127800000, period := 200000, predicted := 127990000, locked := true, missedRun := missed } }
def twinHead : Dev := let d := head.putB F.SYS_STRAP_TWINSEL true; { d with regs0 := d.regs }
def soloHead : Dev := twinHead.putB F.SYS_CLKSTAT_SOLO true
/-- A MODEL message with its boundary 300 ticks ahead. -/
def modelMessage : ModelMsg := ⟨BitVec.ofNat 53 (128000000 + 9600), 6, 175921860, 8, true, false, false⟩

theorem witness_AlignmentAndPhaseModels :
    (st stepping).awake = true ∧ stepping.isHead = false ∧ (phtimOf 1000 0).payload.length = 36 ∧ stepping.bit F.CHN_ADDR_TENT = false ∧
    stepping.bit F.TIM_PDLY_VALID = true ∧ stepping.tim.stepNext = true ∧
    (∀ i < 36, 7 ≤ i → byteAt (phtimOf 1000 0).payload i = 0) ∧
    wrapDiff 60 ((1001 * 32 + 0) * 128) ((fieldAt (phtimOf 1000 0).payload 0 6 * 32 + byteAt (phtimOf 1000 0).payload 6 % 32) * 128 + stepping.tim.d)
      = 3996 ∧
    roundHalfUp (3996 % 4096) 128 = 31 ∧ (frameTo5 8 [0]).payload.length ≠ 36 ∧
    (st threeMissed).awake = true ∧ threeMissed.tim.everFramed = true ∧ threeMissed.tim.expected + 51200 ≤ threeMissed.cycle ∧
    threeMissed.tim.missRun = 3 ∧ member.tim.everFramed = false ∧
    (st modelDue).awake = true ∧ member.tim.waiting = none ∧ modelAhead.tim.waiting = some { theModel with tb := 128000032 } ∧
    0 < wrapDiff 53 (128000032 / 32 * 32) (modelAhead.now * 32) ∧ modelDue.tim.waiting = some theModel ∧
    wrapDiff 53 (theModel.tb / 32 * 32) (modelDue.now * 32) ≤ 0 ∧
    (st (loopHead 2 3)).awake = true ∧ (loopHead 0 0).isHead = true ∧ (loopHead 0 0).chain.phtimAt = some 5000000 ∧
    (5000000 : Nat) ≤ (loopHead 0 0).cycle ∧ (loopHead 0 0).isTwin = false ∧ (loopHead 0 0).get F.TIM_PHCFG_SRC = 0 ∧
    (loopHead 0 0).get F.CHN_TRIGCFG_PHS = 0 ∧ (loopHead 0 0).loop.edges = 0 ∧ (loopHead 1 0).loop.edges = 1 ∧ 2 ≤ (loopHead 2 0).loop.edges ∧
    (loopHead 2 0).loop.locked = true ∧
    ((loopHead 2 0).loop.period : Int) <
      100 * (wrapDiff 53 (((loopHead 2 0).now * 32 + 31 + 2 ^ 53 - 192) % 2 ^ 53) (loopHead 2 0).loop.predicted).natAbs ∧
    ((loopHead 2 3).loop.period : Int) ≤ wrapDiff 53 ((loopHead 2 3).now * 32) (loopHead 2 3).loop.predicted * 100 ∧
    3 ≤ (loopHead 2 3).loop.missedRun ∧ (loopHead 2 2).loop.missedRun < 3 ∧
    (st soloHead).awake = true ∧ soloHead.isHead = true ∧ soloHead.isTwin = true ∧ soloHead.bit F.SYS_CLKSTAT_SOLO = true ∧
    soloHead.bit F.TIM_PHSTAT_PLOCK = false ∧ twinHead.bit F.SYS_CLKSTAT_SOLO = false ∧ modelMessage.pinc ≠ 0 ∧ twinHead.tim.model = none ∧
    twinHead.tim.waiting = none ∧ 300 * 32 ≤ wrapDiff 53 modelMessage.tb.toNat (twinHead.now * 32) ∧ head.isTwin = false := by decide

/-- A chain trigger whose target was the last tick, on a member that waits for chain triggers; and one on a member that does not. -/
def chainTriggered : Dev :=
  let d := (member.put F.CONV_SWEEP_COUNT 1).put F.CONV_TRIG_SRC 3
  settings { d with chain := { d.chain with targets := [⟨3999999, 31⟩] } }
def strayTrigger : Dev := { member with chain := { member.chain with targets := [⟨4000000, 0⟩] } }
/-- A TRIG frame for address 5 far enough ahead. -/
def trigFrame : Frame := frameTo5 7 (beBytes 6 4000290 ++ [31, 9])
/-- A head with a committed trigger, and one whose trigger word waits for its time. -/
def committed : Dev := { head with chain := { head.chain with trigs := [⟨4009000, 3, 7, 5⟩] } }
def delayedWord : Dev := { head with chain := { head.chain with delayed := [⟨4065000, 3, 7, 5⟩] } }
/-- CHN_TRIGL of a trigger at a tick. -/
def trigLow (t : Nat) : Dev := head.put F.CHN_TRIGL_TL t

theorem witness_ChainTriggersAreCommittedAndLaunch :
    (st chainTriggered).awake = true ∧ chainTriggered.isHead = false ∧ member.chain.targets = [] ∧ strayTrigger.chain.targets = [⟨4000000, 0⟩] ∧
    wrapDiff 48 4000000 strayTrigger.now ≤ 0 ∧ strayTrigger.get0 F.CONV_TRIG_SRC ≠ 3 ∧ chainTriggered.chain.targets = [⟨3999999, 31⟩] ∧
    (3999999 : BitVec 48) = chainTriggered.tb - 1 ∧ chainTriggered.get0 F.CONV_TRIG_SRC = 3 ∧ chainTriggered.get0 F.CONV_TRIG_ONESHOT = 0 ∧
    chainTriggered.conv.infl = false ∧ chainTriggered.inMeasure = true ∧ chainTriggered.bit F.CAL_STAT_RUN = false ∧
    chainTriggered.sweepCfg.unit = false ∧ chainTriggered.sweepCfg.count = 1 ∧ trigFrame.ty = 7 ∧ trigFrame.payload.length = 8 ∧
    trigFrame.dest.toNat = chainTriggered.addr ∧ chainTriggered.addrValid = true ∧
    300 ≤ wrapDiff 48 (fieldAt trigFrame.payload 0 6 + chainTriggered.delayTo (byteAt trigFrame.payload 6 % 32)) chainTriggered.now ∧
    (st (trigLow 4065000)).awake = true ∧ (trigLow 4065000).isHead = true ∧ (trigLow 4065000).relaysModels = false ∧
    ((trigLow 4065000).get F.CHN_TRIGCFG_LEAD : Int) ≤ wrapDiff 48 ((trigLow 4065000).get F.CHN_TRIGL_TL) (trigLow 4065000).now ∧
    wrapDiff 48 ((trigLow 4065000).get F.CHN_TRIGL_TL) (trigLow 4065000).now = 65000 ∧
    wrapDiff 48 ((trigLow 4065001).get F.CHN_TRIGL_TL) (trigLow 4065001).now = 65001 ∧
    wrapDiff 48 ((trigLow 3999999).get F.CHN_TRIGL_TL) (trigLow 3999999).now < (trigLow 3999999).get F.CHN_TRIGCFG_LEAD ∧
    committed.isHead = true ∧ committed.chain.trigs = [⟨4009000, 3, 7, 5⟩] ∧ committed.healed = false ∧ head.chain.trigs = [] ∧
    twinHead.isHead = true ∧ twinHead.isTwin = true ∧ delayedWord.chain.delayed = [⟨4065000, 3, 7, 5⟩] ∧
    wrapDiff 48 4065000 delayedWord.now ≤ 65000 ∧ head.chain.delayed = [] := by decide

/-- The member under session key 0, and a frame with the CMAC of message counter 1 under it. -/
def keyed : Dev := { member with keys := { member.keys with ks := some 0 } }
def authed (ty : BitVec 4) (payload : List Byte) : Frame :=
  let f := { frameTo5 ty payload with auth := true }
  { f with mac := frameMac 0 f 1 }
/-- The header of a supervisor image of 32 words, of a user segment, of an image whose CODECRC is that of one zero word, and of a bad one. -/
def headerOf (w0 w3 w4 crc : Word) : List Word := [w0, 9, 0x00010001, w3, w4, crc, 0, 0] ++ List.replicate 8 0
def goodHeader : List Word := headerOf 0x4D590100 32 0x20000020 0
def bytesOf (l : List Word) : List Byte := (l.map wordBytes).flatten
def openGood : Frame := authed 5 ([1, 0, 0, 0] ++ bytesOf goodHeader)
def openBad : Frame := authed 5 ([1, 0, 0, 0] ++ bytesOf (headerOf 0 32 0 0))
def swapPending : Dev := (keyed.putB F.SEQ_RUNSTAT_PEND true).put F.SEQ_RUNSTAT_FORM 0
/-- An open session of an image of 64 words; the same with every chunk present. -/
def loading : Dev :=
  let d := keyed.put F.SEQ_LDSTAT_STATE 1
  { d with load := { d.load with hdr := headerOf 0x4D590100 33 0 0 } }
def loaded : Dev := loading.wr (R.SEQ_LDMAP 0) 3
def dataChunk (i : Nat) : Frame := authed 5 ([2, 0] ++ beBytes 2 i ++ List.replicate 128 7)
def closeFrame : Frame := authed 5 ([3, 0, 0, 0] ++ List.replicate 16 1)
def abortFrame : Frame := authed 5 [4, 0, 0, 0]
/-- A closed image of one zero word, with a CODECRC, a provisioning key and a trailer. -/
def checking (w0 crc : Word) (kp : Option (BitVec 128)) (good : Bool) : Dev :=
  let d := member.put F.SEQ_LDSTAT_STATE 2
  let h := headerOf w0 1 0 crc
  { d with
    keys := { d.keys with kp := kp }
    load := { d.load with hdr := h, trailer := if good then beBytes 16 (Aes.cmac 0 (bytesOf h ++ [0, 0, 0, 0])).toNat else List.replicate 16 0 } }

theorem witness_ImagesLoadAndAreChecked_open :
    (st keyed).awake = true ∧ openGood.payload.length = 68 ∧ byteAt openGood.payload 0 = 1 ∧ keyed.accepts .dn openGood ∧
    (keyed.bit F.SEQ_RUNSTAT_PEND && keyed.get F.SEQ_RUNSTAT_FORM == 0) = false ∧
    keyed.headerCause ⟨goodHeader⟩ (keyed.get F.CHN_PSTAT_BREV) = none ∧ keyed.accepts .dn openBad ∧
    keyed.headerCause ⟨headerOf 0 32 0 0⟩ (keyed.get F.CHN_PSTAT_BREV) = some 1 ∧
    (swapPending.bit F.SEQ_RUNSTAT_PEND && swapPending.get F.SEQ_RUNSTAT_FORM == 0) = true := by decide +kernel

theorem witness_ImagesLoadAndAreChecked_frames :
    (st loading).awake = true ∧ loading.accepts .dn (dataChunk 1) ∧ (dataChunk 1).payload.length = 132 ∧ byteAt (dataChunk 1).payload 0 = 2 ∧
    loading.get F.SEQ_LDSTAT_STATE = 1 ∧ 1 < (Image.mk loading.load.hdr).chunks ∧ (Image.mk loading.load.hdr).chunks ≤ 2 ∧
    loading.accepts .dn closeFrame ∧ closeFrame.payload.length = 20 ∧ byteAt closeFrame.payload 0 = 3 ∧
    (∀ j < (Image.mk loaded.load.hdr).chunks, loaded.hasChunk j = true) ∧ loading.hasChunk 1 = false ∧
    loading.accepts .dn abortFrame ∧ abortFrame.payload.length = 4 ∧ byteAt abortFrame.payload 0 = 4 ∧ loading.sessionOpen = true ∧
    keyed.sessionOpen = false := by decide +kernel

theorem witness_ImagesLoadAndAreChecked_check :
    (st (checking 0x4D590100 0 none false)).awake = true ∧ (checking 0x4D590100 0 none false).get F.SEQ_LDSTAT_STATE = 2 ∧
    Crc.crc32 [0, 0, 0, 0] ≠ 0 ∧ ((imageCode (st member).mems 1 ⟨headerOf 0x4D590100 1 0 0⟩).map wordBytes).flatten = [0, 0, 0, 0] ∧
    member.otherBank = 1 ∧ (checking 0x4D590100 (Crc.crc32 [0, 0, 0, 0]) none false).keys.kp = none ∧
    Aes.cmac 0 (bytesOf (headerOf 0x4D590100 1 0 (Crc.crc32 [0, 0, 0, 0])) ++ [0, 0, 0, 0]) ≠ 0 ∧
    Aes.cmac 0 (bytesOf (headerOf 0x4D590100 1 0 (Crc.crc32 [0, 0, 0, 0])) ++ [0, 0, 0, 0]) =
      BitVec.ofNat 128 (ofBeBytes (checking 0x4D590100 (Crc.crc32 [0, 0, 0, 0]) (some 0) true).load.trailer) ∧
    (Image.mk (headerOf 0x4D590100 1 0 0)).isUser = false ∧ member.load.banks.length = 2 ∧
    Aes.cmac 0 (bytesOf (headerOf 0x4D590101 1 0 (Crc.crc32 [0, 0, 0, 0])) ++ [0, 0, 0, 0]) =
      BitVec.ofNat 128 (ofBeBytes (checking 0x4D590101 (Crc.crc32 [0, 0, 0, 0]) (some 0) true).load.trailer) ∧
    member.regionBad ⟨headerOf 0x4D590101 1 0 0⟩ = true := by decide +kernel

/-- A RUN frame of a form for the boundary of a period count. -/
def runFrame (form : Byte) (pcb : Nat) : Frame := authed 6 ([form, 0] ++ beBytes 2 pcb ++ [0, 0, 0, 0])
/-- The device holds a model, both banks are valid and its program has run; a request is pending for a period count. -/
def runnable : Dev :=
  let d := { keyed with tim := modelled.tim, hearth := { keyed.hearth with ranOnce := true } }
  ((d.put F.SEQ_BANK_VALID 3).put (F.SEQ_BGEN_LREV 0) 1).put (F.SEQ_BGEN_LREV 1) 1
def requested (form pcb : Nat) : Dev := ((runnable.putB F.SEQ_RUNSTAT_PEND true).put F.SEQ_RUNSTAT_FORM form).put F.SEQ_RUNSTAT_PCB pcb

theorem witness_ProgramsRunAtTheirBoundary_run :
    (st runnable).awake = true ∧ runnable.accepts .dn (runFrame 0 6) ∧ (runFrame 0 6).payload.length = 8 ∧
    byteAt (runFrame 0 6).payload 0 % 4 = 0 ∧ runnable.runCause true 0 6 = none ∧ runnable.accepts .dn (runFrame 1 6) ∧
    runnable.runCause false 0 6 = none ∧ keyed.accepts .dn (runFrame 1 6) ∧ keyed.runCause false 0 6 = some 1 ∧
    runnable.accepts .dn (runFrame 2 0) ∧ runnable.hearth.run = true := by decide +kernel

theorem witness_ProgramsRunAtTheirBoundary_boundary :
    (requested 0 6).accepts .dn (runFrame 3 0) ∧
    (requested 0 6).bit F.SEQ_RUNSTAT_PEND = true ∧ keyed.bit F.SEQ_RUNSTAT_PEND = false ∧
    (requested 0 5).boundaryOf ((requested 0 5).get F.SEQ_RUNSTAT_PCB) = some 128000000 ∧
    wrapDiff 53 (128000000 / 32 * 32) ((requested 0 5).now * 32) ≤ 0 ∧ (requested 0 5).bit F.BST_STAT_LBUSY = false ∧
    (requested 1 6).boundaryOf ((requested 1 6).get F.SEQ_RUNSTAT_PCB) = some (128000000 + 200000) ∧
    ¬ wrapDiff 53 ((128000000 + 200000) / 32 * 32) ((requested 1 6).now * 32) ≤ 0 ∧
    member.hearth.user = false ∧ user.hearth.user = true := by decide +kernel

/-- PMC 0 has wrapped, with PMC 1 chained and counting, and with sampling; the open record of the tagger. -/
def wrappedPmc (sen : Bool) (chain : Bool) : Dev :=
  let d := (((member.putB (F.PRF_PMCFG_SEN 0) sen).putB (F.PRF_PMCFG_CHAIN 1) chain).put F.PRF_CTL_EN 3).putB F.PRF_CTL_FRZOVF true
  { d with perf := { d.perf with wrapped := [0] } }
def tagging : Dev := { member with perf := { member.perf with tagOpen := some ⟨1, 0, 2, 12, 3, 4, 5⟩ } }

theorem witness_CountersOverflowLatchAndClear :
    (st (wrappedPmc false true)).awake = true ∧ 0 ∉ member.perf.wrapped ∧ 0 ∈ (wrappedPmc false true).perf.wrapped ∧
    (wrappedPmc false true).bit (F.PRF_PMCFG_SEN 0) = false ∧ (wrappedPmc false true).chained 1 = true ∧
    (wrappedPmc false true).pmcCounts 1 = true ∧ (wrappedPmc false false).chained 1 = false ∧
    (wrappedPmc true false).bit (F.PRF_PMCFG_SEN 0) = true ∧ (wrappedPmc true false).bit F.PRF_CTL_FRZOVF = true ∧
    member.perf.shadow.length = 7 ∧ (st tagging).awake = true ∧ member.perf.tagOpen = none ∧
    tagging.perf.tagOpen = some ⟨1, 0, 2, 12, 3, 4, 5⟩ ∧ tagging.perf.tags.length = 8 := by decide

/-- The member with Fireguard's configuration locked. -/
def lockedGuard : Dev := member.putB F.GRD_STAT_LOCKED true

theorem witness_RegisterWritesTakeEffectOrAreIgnored :
    (st member).awake = true ∧ descAt 0xFFFC = none ∧ (0xFFFC : BitVec 16) ≠ BitVec.ofNat 16 R.SYS_RSTCMD ∧
    member.needsAuth R.BAL_CMD 0 = true ∧ Dev.authOnly R.GRD_OVEN = true ∧ member.inactive R.GRD_SAFECTL = true ∧
    (descAt R.GRD_OVEN).isSome = true ∧ lockedGuard.inactive R.GRD_OVEN = false ∧ lockedGuard.lockedReg R.GRD_OVEN = true ∧
    member.touch = [] ∧ member.isHead = false ∧ (st head).awake = true ∧ head.isHead = true ∧ head.touch = [] := by decide

/-- Requests to address 5: REGRD and REGWR of CONV_SWEEP, of misaligned addresses, of GRD_CTL; BLKRD and BLKWR of data SRAM. -/
def regRd (a : Nat) : Frame := frameTo5 1 (beBytes 2 a ++ [0, 0])
def regWr (a : Nat) : Frame := frameTo5 2 (beBytes 2 a ++ [0, 0, 0, 0, 0, 9])
def blkRd (n a : Nat) : Frame := frameTo5 3 ([1, 0] ++ beBytes 2 n ++ beBytes 4 a)
def blkWr (n a : Nat) : Frame := frameTo5 4 ([1, 0] ++ beBytes 2 n ++ beBytes 4 a ++ List.replicate n 0xA5)
def lockedOut : Dev := member.putB F.FLT_STAT_LKO true
def foreign : Dev := member.putB F.SYS_PWRSTAT_FOREIGN true

theorem witness_RequestsAreServedOrRefused_registers :
    (st member).awake = true ∧ member.accepts .dn (regRd R.CONV_SWEEP) ∧ (regRd R.CONV_SWEEP).payload.length = 4 ∧
    fieldAt (regRd R.CONV_SWEEP).payload 0 2 % 4 = 0 ∧ member.accepts .dn (regRd 0x1002) ∧ fieldAt (regRd 0x1002).payload 0 2 % 4 ≠ 0 ∧
    member.accepts .dn (regWr R.CONV_SWEEP) ∧ (regWr R.CONV_SWEEP).payload.length = 8 ∧
    ((member.event 18 1).frameSeen.writeReg .plain R.CONV_SWEEP 9).2.chain = member.chain ∧
    ((member.event 18 1).frameSeen.writeReg .plain R.CONV_SWEEP 9).2.side = 0 ∧ fieldAt (regWr 0x1002).payload 0 2 % 4 ≠ 0 ∧
    (st member).awake = true := by decide

theorem witness_RequestsAreServedOrRefused_refused :
    member.isHead = false ∧ member.consumes .dn (frameTo5 2 [0]) = true ∧ (frameTo5 2 [0]).dest ≠ 127 ∧ member.side = 0 ∧
    member.power.releasedAt ≠ member.cycle ∧ (frameTo5 2 [0]).payload.length ≠ 8 ∧ (authed 2 (List.replicate 8 0)).auth = true ∧
    member.consumes .dn (authed 2 (List.replicate 8 0)) = true ∧ member.keys.ks = none ∧ lockedOut.bit F.FLT_STAT_LKO = true ∧
    lockedOut.consumes .dn (regWr R.CONV_SWEEP) = true ∧ foreign.bit F.SYS_PWRSTAT_FOREIGN = true ∧ foreign.bit F.FLT_STAT_LKO = false ∧
    foreign.consumes .dn (regWr 0) = true ∧ member.bit F.SYS_PWRSTAT_FOREIGN = false ∧ member.consumes .dn (regWr R.GRD_CTL) = true ∧
    member.consumes .up (regWr R.CONV_SWEEP) = false := by decide +kernel

theorem witness_RequestsAreServedOrRefused_blocks :
    member.accepts .dn (blkRd 248 0x1FF08) ∧ byteAt (blkRd 248 0x1FF08).payload 0 = 1 ∧ 0x1FF08 + 248 = 0x20000 ∧
    fieldAt (blkRd 248 0x1FF08).payload 2 2 = 248 ∧ fieldAt (blkRd 248 0x1FF08).payload 4 4 = 0x1FF08 ∧
    0x20000 < fieldAt (blkRd 248 0x1FF0C).payload 4 4 + 248 ∧ ¬ fieldAt (blkRd 252 0).payload 2 2 ≤ 248 ∧
    member.accepts .dn (blkWr 4 0x1FFFC) ∧ (blkWr 4 0x1FFFC).payload.length = 8 + 4 ∧ byteAt (blkWr 4 0x1FFFC).payload 0 = 1 ∧
    fieldAt (blkWr 4 0x1FFFC).payload 4 4 + 4 ≤ 0x20000 := by decide

/-- The words of a TXF that sends a REGRD to address 5; a head with it queued, with its queue full, and with a received record. -/
def txfRegRd : List Word := [0x14000503, 0x10000000]
def queued (d : Dev) (f : Frame) : Dev := { d with chain := { d.chain with htx := [f], txOn := true } }
def queueFull : Dev := { head with chain := { head.chain with htx := List.replicate 16 (regRd 0) } }
def recordHeld : Dev := { head with chain := { head.chain with hrx := [⟨12, List.replicate 12 1⟩] } }
def headLockedOut : Dev := head.putB F.FLT_STAT_LKO true
/-- A response to a REGRD, and a head with the request outstanding. -/
def responseOf5 : Frame := ⟨1, 1, 0, false, 5, true, 0, List.replicate 8 0, 0⟩
def outstanding (at_ retries : Nat) : Dev := { head with chain := { head.chain with outst := [⟨regRd 0x1000, at_, retries, 0⟩], txOn := true } }

theorem witness_TheHostAndTheHeadsTransactions_host :
    (st head).awake = true ∧ head.power.releasedAt ≠ head.cycle ∧ member.isHead = false ∧ head.isHead = true ∧ head.bit F.FLT_STAT_LKO = false ∧
    (0x1000 : BitVec 16) ≠ BitVec.ofNat 16 R.SYS_RSTCMD ∧ headLockedOut.bit F.FLT_STAT_LKO = true ∧ (0x1000 : BitVec 16).toNat ≠ R.FLT_UNLOCK ∧
    head.chain.htx.length < 16 ∧ (txfFrame txfRegRd).src = 0 ∧ (txfFrame txfRegRd).orig = false ∧ (txfFrame txfRegRd).ty = 1 ∧
    (txfFrame txfRegRd).rev = head.requestRev (txfFrame txfRegRd).dest.toNat ∧ txfRegRd.length = txfWords txfRegRd ∧ head.healed = false ∧
    16 ≤ queueFull.chain.htx.length ∧ recordHeld.chain.hrx = [⟨12, List.replicate 12 1⟩] := by decide

theorem witness_TheHostAndTheHeadsTransactions_requests :
    (st (queued head (regRd 0x1000))).awake = true ∧ (queued head (regRd 0x1000)).chain.htx = [regRd 0x1000] ∧ head.chain.outst = [] ∧
    (regRd 0x1000).dest ≠ 0 ∧ (regRd 0x1000).dest ≠ 127 ∧ (queued head (regRd 0x1000)).chain.txOn = true ∧ head.chain.fwdBusy ≤ head.cycle ∧
    (regRd 0x1000).ty.toNat < 7 ∧ head.chain.htx = [] ∧ (outstanding 4950000 1).chain.outst = [⟨regRd 0x1000, 4950000, 1, 0⟩] ∧
    (regRd 0x1000).dest = responseOf5.src ∧ (regRd 0x1000).ty = responseOf5.ty ∧ (regRd 0x1000).seq = responseOf5.seq ∧ responseOf5.src ≠ 0 ∧
    responseOf5.dest = 0 ∧ responseOf5.auth = false ∧
    head.hostUsed + 4 + (max (frameBytes responseOf5).length 4 + 3) / 4 * 4 ≤ 16384 ∧
    4950000 + max 50 ((outstanding 4950000 1).get F.CHN_TMO_TMO) * 100 ≤ (outstanding 4950000 1).cycle := by decide

/-- A LOGX or REPORT frame for address 5 from address 3; an own frame that waits; outputs that are taken. -/
def reportOf3 (ty : BitVec 4) (dest : BitVec 7) : Frame := ⟨ty, 1, 0, false, 3, false, dest, [1, 2, 3, 4], 0⟩
def ownWaiting (d : Dev) (sent : Bool) : Dev := { d with chain := { d.chain with ownFwd := [⟨reportOf3 9 2, sent, false, false, 0⟩] } }
def outputTaken (d : Dev) : Dev := { d with chain := { d.chain with fwdBusy := 5000001 } }
def insertion (d : Dev) : Dev := { d with chain := { d.chain with insFwd := [(reportOf3 9 2, 0)] } }
def silent (d : Dev) : Dev := { d with chain := { d.chain with txOn := false } }
def rxFull : Dev := { member with hearth := { member.hearth with rxq := List.replicate 4 ⟨reportOf3 9 5, false⟩ } }

theorem witness_FramesAreForwardedSentAndQueued :
    (st member).awake = true ∧ (reportOf3 9 2).rev = BitVec.ofNat 2 member.linkRev ∧ member.isHead = false ∧ member.chain.insFwd = [] ∧
    member.chain.fwdBusy ≤ member.cycle ∧ frameCrc (reportOf3 9 2) ≠ 0 ∧ frameCrc (reportOf3 9 2) ^^^ 0xFF ≠ 0 ∧
    (outputTaken member).cycle < (outputTaken member).chain.fwdBusy ∧ head.isHead = true ∧ (reportOf3 9 2).rev = BitVec.ofNat 2 head.linkRev ∧
    (ownWaiting member true).chain.ownFwd = [⟨reportOf3 9 2, true, false, false, 0⟩] ∧ (ownWaiting member true).chain.txOn = true ∧
    (silent (ownWaiting member true)).chain.txOn = false ∧ (insertion (ownWaiting member true)).chain.insFwd ≠ [] ∧
    (reportOf3 9 5).auth = false ∧ member.takesReport .dn (reportOf3 9 5) = true ∧ member.hearth.rxq.length < 4 ∧
    member.takesReport .dn (reportOf3 0xB 5) = true ∧ (reportOf3 0xB 5).dest ≠ 127 ∧ (reportOf3 0xB 5).orig = false ∧
    4 ≤ rxFull.hearth.rxq.length ∧ rxFull.takesReport .dn (reportOf3 9 5) = true ∧ member.takesReport .dn (reportOf3 9 2) = false ∧
    head.takesReport .dn { reportOf3 9 0 with src := 0 } = true ∧
    head.hostUsed + 4 + ((frameBytes { reportOf3 9 0 with src := 0 }).length + 3) / 4 * 4 ≤ 16384 ∧
    head.bit F.CHN_HQCTL_SEQCOPY = false := by decide

/-- A member whose DN port is at a state; one echo short of its average; a hop that has changed by 3 units. -/
def portAt (n : Nat) : Dev := member.put F.CHN_PSTAT_DNST n
def upPortAt (n : Nat) : Dev := (member.put F.CHN_PSTAT_UPST n).putB F.CHN_ADDR_VALID false
def lastEcho : Dev := { member with chain := { member.chain with echoN := 4095, echoSum := 100000 } }
def hopChanged : Dev := { member with chain := { member.chain with hop := 103, hopRep := 100 } }
def aKindling (echoed : Option Nat) : Kindling := ⟨6, 1000, 2000, 7, 1, 0, 0, 1, echoed, false⟩
def kindled (echoed : Option Nat) : Dev := { member with chain := { member.chain with kin := some (aKindling echoed), pend := some 6, pendKid := 7 } }
/-- A HOPREP of the hop above address 3. -/
def hoprepOf (kind : Byte) : Frame := ⟨0xC, 1, 0, false, 3, true, 0, [4, kind, 0, 0] ++ beBytes 4 77, 0⟩

theorem witness_PortsEchoesAndHopReports :
    (st member).awake = true ∧ member.isHead = false ∧ head.isHead = true ∧ (portAt 0).portState .dn = 0 ∧ (portAt 1).portState .dn = 1 ∧
    24 ≤ (24 : Byte).toNat ∧ (portAt 1).cal.active.length = 209 ∧ (23 : Byte).toNat < 24 ∧ (portAt 2).portState .dn = 2 ∧
    (upPortAt 2).portState .up = 2 ∧ (upPortAt 2).bit F.CHN_ADDR_VALID = false ∧
    member.chain.txOn = true ∧ (silent member).chain.txOn = false ∧ member.chain.kin = none ∧ member.chain.echoN + 1 < 4096 ∧
    4096 ≤ lastEcho.chain.echoN + 1 ∧ lastEcho.chain.kin = none ∧ (kindled none).chain.kin.isSome = true ∧ hopChanged.addrValid = true ∧
    hopChanged.side = 0 ∧ hopChanged.chain.lastRep = none ∧ 3 ≤ ((hopChanged.chain.hop : Int) - hopChanged.chain.hopRep).natAbs ∧
    (hoprepOf 1).payload.length = 8 ∧ byteAt (hoprepOf 1).payload 0 = 4 ∧ (hoprepOf 1).src ≠ 0 ∧ byteAt (hoprepOf 1).payload 1 = 1 ∧
    byteAt (hoprepOf 3).payload 1 = 3 := by decide

/-- A KINDLE with a NEXT, and a TOPO with a KID. -/
def kindleOf (next : Byte) : Frame := ⟨0xC, 1, 0, false, 0, false, 127, [1, 0, 0, next] ++ beBytes 4 500 ++ beBytes 4 600 ++ beBytes 2 7 ++ [1, 0], 0⟩
def topoOf (kid : Nat) : Frame := ⟨0xC, 1, 0, false, 0, false, 127, [2, 0] ++ beBytes 2 kid ++ beBytes 6 0x700000009 ++ List.replicate 22 1, 0⟩
/-- A head before its first kindling, one that kindles since 2 s, and one whose repetition is due. -/
def freshHead : Dev := { head with power := { head.power with started := true } }
def kindlingHead (n : Nat) : Dev :=
  let d := (head.put F.CHN_KCTL_KSTATE 1).put F.CHN_KSTAT_KID 7
  { d with cycle := n, chain := { d.chain with kinSince := some 0 } }

theorem witness_KindlingGivesAddressesAndDelays :
    (st member).awake = true ∧ member.isHead = false ∧ (kindleOf 126).payload.length = 16 ∧ byteAt (kindleOf 126).payload 0 = 1 ∧
    byteAt (kindleOf 126).payload 1 = 0 ∧ byteAt (kindleOf 126).payload 3 = 126 ∧ 126 < byteAt (kindleOf 127).payload 3 ∧
    (kindled (some 90)).chain.kin = some (aKindling (some 90)) ∧ (aKindling (some 90)).echoed = some 90 ∧ (aKindling (some 90)).went = false ∧
    member.chain.kin = none ∧ (kindled none).chain.kin = some (aKindling none) ∧ (aKindling none).echoed = none ∧
    (topoOf 7).payload.length = 32 ∧ byteAt (topoOf 7).payload 0 = 2 ∧ (kindled none).chain.pend = some 6 ∧
    fieldAt (topoOf 7).payload 2 2 = (kindled none).chain.pendKid.toNat ∧ member.chain.pend = none ∧
    fieldAt (topoOf 8).payload 2 2 ≠ (kindled none).chain.pendKid.toNat ∧
    (st freshHead).awake = true ∧ freshHead.isHead = true ∧ freshHead.power.started = true ∧
    freshHead.power.releasedAt + 1000000 ≤ freshHead.cycle ∧ freshHead.get F.CHN_KCTL_KSTATE = 0 ∧
    (kindlingHead 200000000).kindling = true ∧ (kindlingHead 200000000).power.kindleAt ≤ 200000000 ∧
    (kindlingHead 200000000).chain.kinSince = some 0 ∧ 0 + 200000000 ≤ (kindlingHead 200000000).cycle ∧ head.chain.kinSince = none ∧
    fieldAt (kindleOf 6).payload 12 2 = (kindlingHead 200000000).get F.CHN_KSTAT_KID ∧ 1 ≤ byteAt (kindleOf 1).payload 3 := by decide

/-- A head of a closed ring that expects its PHTIM back at a time (1/4096 tick), with its ports up. -/
def ringHead (m : Nat) : Dev :=
  let d := (head.put F.CHN_PSTAT_DNST 2).put F.CHN_PSTAT_UPST 2
  { d with chain := { d.chain with phtimAt := some 5050000, marker := some m } }
def kendOf : Frame := ⟨0xC, 1, 0, false, 9, false, 0, [3, 1, 10, 0, 0, 0, 0, 0], 0⟩
/-- A break has been indicated; its notice is on its way. -/
def brokenHead (notice : Option Nat) : Dev :=
  let d := (head.put F.CHN_BRK_STATE 1).put F.CHN_BRK_CAUSE 4
  { d with chain := { d.chain with phtimAt := some 5050000, noticeAt := notice } }
/-- A break notice between two addresses. -/
def noticeOf (lo hi : Nat) : Frame := ⟨2, 1, 0, false, 0, false, 127, beBytes 2 R.CHN_HEAL ++ [0, 0] ++ beBytes 4 (hi * 65536 + lo * 256), 0⟩

theorem witness_BreaksAreNoticedAndHealed :
    (st (ringHead 16383998976)).awake = true ∧ (ringHead 16383998976).ringClosed = true ∧
    wrapDiff 60 ((ringHead 16383998976).now * 4096) 16383998976 = 1024 ∧ (ringHead 16383998975).chain.marker = some 16383998975 ∧
    1024 < wrapDiff 60 ((ringHead 16383998975).now * 4096) 16383998975 ∧
    1024 < (wrapDiff 60 ((4000000 : BitVec 48).toNat * 4096 + (0 : BitVec 5).toNat * 128) 16383998975).natAbs ∧
    (wrapDiff 60 ((4000000 : BitVec 48).toNat * 4096 + (0 : BitVec 5).toNat * 128) 16383998976).natAbs ≤ 1024 ∧
    (ringHead 0).kindling = false ∧ kendOf.payload.length = 8 ∧ byteAt kendOf.payload 0 = 3 ∧ (ringHead 0).portState .up ≠ 0 ∧
    (ringHead 0).portState .dn ≠ 0 ∧ (brokenHead none).isHead = true ∧ (brokenHead none).get F.CHN_BRK_STATE = 1 ∧
    (brokenHead none).chain.noticeAt = none ∧ (brokenHead (some 5000000)).chain.noticeAt = some 5000000 ∧
    (5000000 : Nat) ≤ (brokenHead (some 5000000)).cycle ∧ member.isHead = false ∧ (noticeOf 5 6).payload.length = 8 ∧
    fieldAt (noticeOf 5 6).payload 0 2 = R.CHN_HEAL ∧ member.addrValid = true ∧ member.revOk (noticeOf 5 6) = true ∧
    bitsOf (fieldAt (noticeOf 5 6).payload 4 4) 8 7 = 5 ∧ bitsOf (fieldAt (noticeOf 5 6).payload 4 4) 16 7 = 6 := by decide

/-- The primary owns balancing, shelf 3 is fitted, and CMDQ asks for 1 mC at 3,000 mA; XAMP asks for 2,999 mA about −1 mA. -/
def balReady : Dev :=
  let d := ((((member.put F.BAL_STAT_OWNER 1).put F.BAL_CMDQ_QMC 1).put F.BAL_CMDQ_IMA 3000).put (F.BAL_SHLIM_IMAX 3) 3000)
  let d := (d.putB (F.BAL_SHCFG_FIT 3) true).put F.CONV_CHEN_CELL 0xFFFFFFFF
  (d.put (F.BAL_XAMP_AMP 3) 2999).put (F.BAL_XAMP_OFS 3) 0x1FFF
def balOver : Dev := (balReady.put F.BAL_CMDQ_IMA 3001).put (F.BAL_XAMP_AMP 3) 3000
/-- Shelf 3 changed by a function. -/
def shelf3 (d : Dev) (f : Shelf → Shelf) : Dev := { d with bal := { d.bal with shelves := upd d.bal.shelves 3 f } }
/-- A transfer of 1 mC into cell 31 and an excitation of two periods, at a phase of their work. -/
def transferAt (ph : ShelfPhase) : Dev := shelf3 balReady fun w =>
  { w with phase := ph, act := true, dir := true, cell := 31, q := 1, current := 3000, due := 5000000, shcfg := 0x80000000, endCause := 2 }
def excitationAt (running : Bool) (n : Nat) : Dev := shelf3 modelled fun w =>
  { w with
    phase := .running, act := true, xmode := true, cell := 31, due := 5000000, shcfg := 0x80000000, xrunning := running
    nper := 2, xperiods := n, startAtPcb := true, pcb := 5 }
def laterBoundary : Dev := shelf3 (excitationAt false 0) fun w => { w with pcb := 6 }

theorem witness_ShelfWorkIsJudgedTakenAndStopped :
    (st balReady).awake = true ∧ balReady.bal.shelves.length = 4 ∧ bitsOf (0x0003E000 : Word).toNat 16 2 = 3 ∧ balReady.isHead = false ∧
    By.auth ≠ By.plain ∧ head.isHead = true ∧ balReady.pstate = 2 ∧
    balReady.get F.BAL_STAT_OWNER = 1 ∧ balReady.bal.handing = false ∧ (balReady.shelf 3).faulted = false ∧
    (balReady.flt.first.drop 2).any (·.valid) = false ∧ balReady.power.tempStop = false ∧ balReady.bitAt F.CONV_CHEN_CELL 31 = true ∧
    balReady.bal.busHigh = false ∧ (balReady.shelf 3).act = false ∧ balReady.get F.BAL_CMDQ_QMC ≠ 0 ∧
    ¬ 3000 < balReady.get F.BAL_CMDQ_IMA ∧ min (balReady.get (F.BAL_SHLIM_IMAX 3)) 3000 ≠ 0 ∧ inStart.pstate ≠ 2 ∧
    3000 < balOver.get F.BAL_CMDQ_IMA ∧
    ((excitationAt true 0).shelf 3).xmode = true ∧ ((transferAt .running).shelf 3).xmode = false ∧
    balReady.bitAt F.CONV_CHEN_CELL 24 = true ∧ ¬ 3000 < balReady.get (F.BAL_XAMP_AMP 3) + (signed 13 (balReady.get (F.BAL_XAMP_OFS 3))).natAbs ∧
    3000 < balOver.get (F.BAL_XAMP_AMP 3) + (signed 13 (balOver.get (F.BAL_XAMP_OFS 3))).natAbs ∧ (1 : Word).getLsbD 1 = false ∧
    (member.shelf 3).act = false ∧ (laterBoundary.shelf 3).startAtPcb = true ∧
    laterBoundary.phasePassed (BitVec.ofNat 32 ((laterBoundary.shelf 3).pcb.toNat * 65536)) = false ∧
    ((excitationAt false 0).shelf 3).act = true ∧ ((excitationAt false 0).shelf 3).xrunning = false ∧
    ((excitationAt false 0).shelf 3).phase = .running ∧ ((excitationAt false 0).shelf 3).due ≤ (excitationAt false 0).cycle ∧
    (excitationAt false 0).phasePassed (BitVec.ofNat 32 (((excitationAt false 0).shelf 3).pcb.toNat * 65536)) = true ∧
    ((excitationAt true 1).shelf 3).xperiods < ((excitationAt true 1).shelf 3).nper ∧ ((excitationAt true 2).shelf 3).xrunning = true ∧
    ((excitationAt true 2).shelf 3).nper ≠ 0 ∧ ((excitationAt true 2).shelf 3).nper ≤ ((excitationAt true 2).shelf 3).xperiods := by decide

/-- Shelf 3 as not fitted; its cell's mean as published by drawer 0; a selection held; runs one short of their faults. -/
def notFitted (ph : ShelfPhase) : Dev := shelf3 (transferAt ph) fun w => { w with shcfg := 0 }
def cellMean : Dev :=
  let d := transferAt .selecting
  { d with drawers := upd d.drawers 124 (fun w => { w with vis := { w.vis with valid := true, a := 0x100000 } }) }
def holding (u : Nat) : Dev := shelf3 balReady fun w => { w with sel := some 31, cell := 31, holdUntil := some u }
def atRuns : Dev := shelf3 (transferAt .running) fun w => { w with q := 1000, cycles := 63, overRun := 3, errRun := 255 }

theorem witness_ShelvesSelectSwitchAndFail_select :
    (st (transferAt .deselecting)).awake = true ∧ (transferAt .deselecting).bal.shelves.length = 4 ∧ (member.shelf 3).act = false ∧
    ((transferAt .deselecting).shelf 3).act = true ∧ ((transferAt .deselecting).shelf 3).phase = .deselecting ∧
    ((transferAt .deselecting).shelf 3).due ≤ (transferAt .deselecting).cycle ∧ ((transferAt .deselecting).shelf 3).fit = true ∧
    ((notFitted .deselecting).shelf 3).fit = false ∧ ((transferAt .selecting).shelf 3).phase = .selecting ∧
    cellMean.get (F.ACC_DCFG_MODE 0 0) = 1 ∧ ((cellMean.drawer 31 0).vis).valid = true ∧
    1600 * (sumLength (cellMean.get (F.ACC_DCFG_K 0 0)) : Int) <
      ((cellMean.drawer 31 0).vis.a.toInt * (2 ^ min (cellMean.get (F.ACC_DCFG_SHIFT 0 0)) 8 : Nat) - 0).natAbs ∧
    (member.shelf 3).holdUntil = none ∧ ((holding 5000000).shelf 3).holdUntil = some 5000000 ∧ ((holding 5000001).shelf 3).holdUntil = some 5000001 ∧
    ((holding 5000000).shelf 3).act = false := by decide

theorem witness_ShelvesSelectSwitchAndFail_switch :
    (st (transferAt .running)).awake = true ∧ (transferAt .running).bal.qcell.length = 32 ∧ ((transferAt .running).shelf 3).cell < 32 ∧
    ((transferAt .running).shelf 3).act = true ∧ ((transferAt .running).shelf 3).xmode = false ∧
    ((transferAt .running).shelf 3).q * 1000000000 ≤ (((transferAt .running).shelf 3).qdone + 30000 * 40000 : Int).natAbs ∧
    (((transferAt .stopping).shelf 3).qdone + 30000 * 100 : Int).natAbs < ((transferAt .stopping).shelf 3).q * 1000000000 ∧
    ((transferAt .stopping).shelf 3).phase = .stopping ∧ 4 ≤ (atRuns.shelf 3).overRun + 1 ∧ 63 ≤ (atRuns.shelf 3).cycles ∧
    256 ≤ (atRuns.shelf 3).errRun + 1 ∧ (atRuns.shelf 3).phase = .running ∧ ((excitationAt true 0).shelf 3).xrunning = true ∧
    head.isHead = true ∧ member.isHead = false ∧ (member.shelf 3).act = false := by decide

/-- A primary and a secondary on an UP, paired link, with an owner code; the partner's HEALTH; a handover and a return in progress. -/
def linked (twin : Bool) (owner : Nat) : Dev :=
  let d := (((member.putB F.SYS_STRAP_TWINSEL twin).put F.TWN_STAT_LINK 2).put F.TWN_STAT_PRES 1).put F.BAL_STAT_OWNER owner
  { d with twin := { d.twin with health := some 0x00020F0000, lastValid := 4900000 }, power := { d.power with twinTx := true } }
def handing : Dev := { linked false 1 with bal := { (linked false 1).bal with handing := true } }
def returning : Dev := { linked false 2 with bal := { (linked false 2).bal with returning := true } }
def unlinked (owner : Nat) : Dev := member.put F.BAL_STAT_OWNER owner

theorem witness_PacingAndOwnershipOfBalancing :
    (st (linked false 1)).awake = true ∧ (linked false 1).bal.shelves.length = 4 ∧ head.isHead = true ∧ (linked true 1).isTwin = true ∧
    (linked true 1).isHead = false ∧ handing.bal.handing = true ∧ member.hoAvail = false ∧ member.bal.handing = false ∧
    (linked false 1).hoAvail = true ∧ (linked false 0).hoAvail = true ∧ (linked false 0).get F.BAL_STAT_OWNER = 0 ∧
    (linked false 1).get F.BAL_STAT_OWNER = 1 ∧ (linked false 2).get F.BAL_STAT_OWNER = 2 ∧ returning.bal.returning = true ∧
    (linked false 2).bal.returning = false ∧ (unlinked 2).linkUp = false ∧ (unlinked 2).power.ownDecided = false ∧
    (unlinked 2).power.releasedAt + 135000 ≤ (unlinked 2).cycle ∧ (unlinked 2).get F.BAL_STAT_OWNER ≠ 1 ∧
    (linked false 1).twin.failRun + 1 < 4 ∧ (linked true 2).linkUp = true ∧ (linked true 2).get F.BAL_STAT_OWNER ≠ 1 ∧
    handing.linkUp = true ∧ handing.isTwin = false ∧ handing.get F.BAL_STAT_OWNER = 1 ∧ (linked true 1).get F.BAL_STAT_OWNER = 1 ∧
    returning.linkUp = true ∧ returning.isTwin = false ∧ returning.get F.BAL_STAT_OWNER ≠ 1 := by decide

/-- A link that needs one more valid message, one that one more failed CRC takes down, and one silent for 1 ms. -/
def nearlyUp : Dev := { member with twin := { member.twin with validRun := 2 }, power := { member.power with twinTx := true } }
def nearlyDown : Dev := { linked false 2 with twin := { (linked false 2).twin with failRun := 3 } }
/-- A paired device on an UP link: its log has mounted, or is mounting. -/
def mountedLink (mount : Nat) : Dev := ((linked false 1).put F.LOG_STAT_MOUNT mount).put F.TWN_PAIRID_OWN 0x1234
/-- The partner's PAIR: ID 0x1234, secondary, at address 5. -/
def pairOf (id : Nat) : BitVec 112 := BitVec.ofNat 112 (id * 2 ^ 96 + 2 ^ 89 + 2 ^ 87 + 5 * 2 ^ 80)
/-- Comparison active with one kept publication, whose deadline is now or has passed. -/
def comparing (deadline run : Nat) (bit : Bool) : Dev :=
  let d := (mountedLink 2).putB F.TWN_STAT_CMPACT bit
  { d with twin := { d.twin with kept := [⟨77, deadline, 0, [(0, 0x10000)]⟩], diffRun := List.replicate 32 run, missRun := run } }
def resultOf (ph0 : Word) (v : BitVec 18) : TwinResult := ⟨1, ph0, 1, [v]⟩

theorem witness_TheTwinLinkCarriesPairsAndResults :
    (st nearlyUp).awake = true ∧ nearlyUp.bal.shelves.length = 4 ∧ member.power.twinTx = false ∧ nearlyUp.twin.lastSent + 25000 ≤ nearlyUp.cycle ∧
    nearlyUp.power.twinTx = true ∧ (linked false 2).linkUp = true ∧ nearlyUp.linkUp = false ∧ 3 ≤ nearlyUp.twin.validRun + 1 ∧
    member.twin.validRun + 1 < 3 ∧ member.twin.failRun + 1 < 4 ∧ 4 ≤ nearlyDown.twin.failRun + 1 ∧ nearlyDown.linkUp = true ∧
    (linked false 2).twin.lastValid + 100000 ≤ (linked false 2).cycle ∧
    (0xFFFF : Word).toNat % 65536 = 0xFFFF ∧ (0x1234 : Word).toNat % 65536 ≠ 0xFFFF ∧ (mountedLink 2).logFault = false ∧
    (mountedLink 2).log.hwQ = [] ∧ (mountedLink 2).linkUp = true ∧ 2 ≤ (mountedLink 2).get F.LOG_STAT_MOUNT ∧ (mountedLink 2).power.twinTx = true ∧
    (mountedLink 1).get F.LOG_STAT_MOUNT < 2 ∧ (mountedLink 2).get F.TWN_PAIRID_OWN = bitsOf (pairOf 0x1234).toNat 96 16 ∧
    (pairOf 0x1234).getLsbD 89 ≠ (mountedLink 2).isTwin ∧ bitsOf (pairOf 0x1234).toNat 80 7 = (mountedLink 2).addr ∧
    (pairOf 0x1234).getLsbD 87 = true ∧ (mountedLink 2).bit F.CHN_ADDR_VALID = true ∧
    (comparing 5000000 0 true).linkUp = true ∧ (comparing 5000000 0 true).twin.diffRun.length = 32 ∧
    (comparing 5000000 0 false).bit F.TWN_STAT_CMPACT = false ∧ (comparing 5000000 0 true).bit F.TWN_STAT_CMPACT = true ∧
    (comparing 5000000 0 true).twin.kept.find? (fun p => p.ph0 == 78) = none ∧
    (comparing 5000000 0 true).twin.kept.find? (fun p => p.ph0 == 77) = some ⟨77, 5000000, 0, [(0, 0x10000)]⟩ ∧
    (resultOf 77 0).mask = BitVec.ofNat 32 (2 ^ 0) ∧ (comparing 4999999 0 true).twin.kept.all (fun p => decide (p.deadline < 5000000)) = true ∧
    (comparing 5000000 0 true).get F.TWN_TOL_TOL < 0x10000 ∧ (0x10000 - 0xFFFF : Int).natAbs ≤ (comparing 5000000 0 true).get F.TWN_TOL_TOL := by
  decide

/-- The SAFETY frame of the period has gone, or not; the timebase stands before the first; the device stands below a break. -/
def lastPeriodWas (k : Option Nat) : Dev := { member with twin := { member.twin with lastPeriod := k } }
def beforeFirst : Dev := { member with tb := 100 }
def belowBreak : Dev := member.put F.CHN_HEAL_SIDE 1
def safetyOf (g : Byte) : Frame := ⟨0xA, 1, 0, false, 5, true, 0, [0, 2, 0, 0, 0, g, 0, 0], 0⟩
/-- A head on an UP link, the same with its link not yet UP, and with a pair of period k and the frames of both chains. -/
def linkedHead : Dev := let d := head.put F.TWN_STAT_LINK 2; { d with power := { d.power with twinTx := true } }
def pairHead (k : Nat) (own far : Option (BitVec 128)) : Dev :=
  let d := linkedHead.putB F.TWN_CCCFG_EN true
  { d with twin := { d.twin with pairs := [⟨5, own, far, own, far, k⟩] } }
def pairAlone (own : Option (BitVec 128)) : Dev := (pairHead 2 own none).put F.TWN_STAT_LINK 0
def pairOff : Dev := (pairHead 2 none none).putB F.TWN_CCCFG_EN false
def rawOf5 (g : Nat) : BitVec 128 := BitVec.ofNat 128 (5 * 2 ^ 112 + 2 * 2 ^ 80 + g * 2 ^ 48)

theorem witness_SafetyFramesAreSentRelayedAndCompared :
    (st member).awake = true ∧ beforeFirst.tb.toNat < beforeFirst.addr * 1000000 / 128 ∧
    clampNat 2 100 (bitsOf (member.guardWord 9) 16 7) * 100000 = 1000000 ∧ (lastPeriodWas (some 3)).twin.lastPeriod = some 3 ∧
    ((lastPeriodWas (some 3)).tb.toNat - 5 * 1000000 / 128) / 1000000 = 3 ∧ head.isHead = true ∧ member.isHead = false ∧
    member.bit F.CHN_ADDR_VALID = true ∧ member.bit F.CHN_ADDR_TENT = false ∧ member.pstate = 2 ∧ 5 * 1000000 / 128 ≤ member.tb.toNat ∧
    member.twin.lastPeriod ≠ some 3 ∧ member.side ≠ 3 ∧ belowBreak.side = 1 ∧
    (st linkedHead).awake = true ∧ linkedHead.isHead = true ∧ (safetyOf 0).src ≠ 0 ∧ (safetyOf 0).payload.length = 8 ∧ linkedHead.linkUp = true ∧
    (linked false 1).linkUp = true ∧ head.linkUp = false ∧ head.twin.validRun + 1 < 3 ∧ Dev.rawByte (rawOf5 0) 1 % 128 = 5 ∧
    Dev.rawByte (rawOf5 1) 9 ≠ 0 ∧ Dev.rawByte (rawOf5 0) 9 = 0 ∧ Dev.rawByte (rawOf5 0) 10 % 4 = 0 ∧
    (pairHead 2 none none).twin.pairs.find? (fun p => p.addr == (5 : BitVec 7).toNat) = some ⟨5, none, none, none, none, 2⟩ ∧
    (pairHead 2 none none).safetyPeriod = 1000000 ∧
    0 ≤ wrapDiff 48 (pairHead 2 none none).tb.toNat ((2 * 1000000 + 5 * 1000000 / 128 + 1000000 + 200000) % 2 ^ 48) ∧
    ¬ 0 ≤ wrapDiff 48 (pairHead 3 none none).tb.toNat ((3 * 1000000 + 5 * 1000000 / 128 + 1000000 + 200000) % 2 ^ 48) ∧
    pairOff.bit F.TWN_CCCFG_EN = false ∧ (pairHead 2 none none).bit F.TWN_CCCFG_EN = true ∧ (pairAlone (some 0)).linkUp = false ∧
    (pairAlone none).twin.pairs = [⟨5, none, none, none, none, 2⟩] ∧ (pairHead 2 none none).rd R.TWN_CCFIRST = 0 := by decide

/-- A head with its configuration locked, its output 0 on or off, and an off-pulse begun at a cycle. -/
def safeHead (on : Bool) (o : SafeOut → SafeOut) : Dev :=
  let d := (head.putB F.GRD_STAT_LOCKED true).put F.GRD_SAFESTAT_OUT on.toNat
  { d with guard := { d.guard with active := Guard.resetConfig true }, safe := { d.safe with outs := upd d.safe.outs 0 o } }
def pulsed (at_ fails : Nat) (sampled : Bool) : Dev :=
  (safeHead false fun o => { o with pulse := some at_, sampled := sampled, fails := fails }).putB F.GRD_SAFESTAT_PULSE true
def pulseDue (on : Bool) : Dev := safeHead on fun o => { o with nextPulse := 5000000 }
def retryDue (on : Bool) : Dev := safeHead on fun o => { o with retryAt := some 5000000 }
/-- A readback that has been wrong a number of times in a row, and one held by its fault. -/
def readback (on : Bool) (wrong : Nat) : Dev := safeHead on fun o => { o with wrong := wrong, changedAt := 4990000 }
def rbFault (low : Nat) : Dev := (safeHead false fun o => { o with lowRun := low }).put F.GRD_SAFESTAT_RBF 1
def rbUnack : Dev := { rbFault 2 with flt := { (rbFault 2).flt with first := upd (rbFault 2).flt.first 2 (fun x => { x with valid := true }) } }
def slotNow : Dev := { safeHead false id with safe := { (safeHead false id).safe with faultSlot := some 4998400 } }

theorem witness_SafeOutputsSwitchPulseAndReadBack :
    (st (safeHead false id)).awake = true ∧ (safeHead false id).safe.outs.length = 2 ∧ member.isHead = false ∧ (safeHead false id).isHead = true ∧
    slotNow.cycle ≤ 4998400 + 1600 ∧ (safeHead false id).safe.faultSlot = none ∧ (safeHead false id).safe.partnerDem = false ∧
    (safeHead false id).highFault = false ∧ (safeHead false id).safe.frmPair = none ∧ (3 : BitVec 2) ≠ 0 ∧
    (safeHead false id).bit F.GRD_SAFESTAT_DEM = false ∧ (safeHead false id).bit F.GRD_STAT_LOCKED = true ∧
    ((safeHead false id).guardWord 10).testBit 16 = true ∧ ((safeHead false id).guardWord 10).testBit 17 = true ∧
    (safeHead false id).bitAt F.GRD_SAFESTAT_RBF 0 = false ∧ ((safeHead false id).safeOut 0).pulse = none ∧ head.bit F.GRD_STAT_LOCKED = false ∧
    ((pulsed 4985000 0 false).safeOut 0).pulse = some 4985000 ∧ ((pulseDue true).safeOut 0).pulse = none ∧
    ((pulseDue true).safeOut 0).nextPulse ≠ 0 ∧ ((pulseDue true).safeOut 0).nextPulse ≤ (pulseDue true).cycle ∧
    ((retryDue false).safeOut 0).retryAt = some 5000000 ∧ ((retryDue false).safeOut 0).nextPulse = 0 ∧ (pulsed 0 0 false).pulseWidth = 15000 ∧
    ((pulsed 4986000 0 false).safeOut 0).sampled = false ∧ 4986000 + 15000 ≤ (pulsed 4986000 0 false).cycle + 1000 ∧
    ¬ 4986001 + 15000 ≤ (pulsed 4986001 0 false).cycle + 1000 ∧ ((pulsed 4986000 1 false).safeOut 0).fails ≠ 0 ∧
    4985000 + 15000 ≤ (pulsed 4985000 0 true).cycle ∧ ¬ 4985001 + 15000 ≤ (pulsed 4985001 0 true).cycle ∧
    (rbFault 2).bitAt F.GRD_SAFESTAT_RBF 0 = true ∧ (rbFault 2).flt.unack.testBit 2 = false ∧ rbUnack.flt.unack.testBit 2 = true ∧
    (rbFault 1).bitAt F.GRD_SAFESTAT_RBF 0 = true ∧ (readback true 1).bitAt F.GRD_SAFESTAT_RBF 0 = false ∧
    ((readback true 1).safeOut 0).changedAt + 10000 ≤ (readback true 1).cycle ∧ ((readback true 1).safeOut 0).wrong < 2 ∧
    2 ≤ ((readback true 2).safeOut 0).wrong ∧ (readback true 1).bitAt F.GRD_SAFESTAT_OUT 0 = true := by decide

/-- Fireguard armed, with every deglitch count at a value and a run of failed self-tests; and with its guard bits latched. -/
def armedGuard (n fails : Nat) : Dev :=
  let d := member.putB F.GRD_STAT_ARMED true
  { d with guard := { d.guard with counts := List.replicate 76 n, testFails := List.replicate 76 fails } }
def latchedGuard : Dev := (armedGuard 0 0).put F.GRD_GLATCH_GUARD 0x3FF
/-- The CRC of R451 over a list of words, and a member whose CFGCRC fits its shadow set. -/
def guardCrc (l : List Word) : Word := Crc.crc32c (l.map wordBytesLe).flatten
def guardShadow (d : Dev) : List Word := (List.range 10).map (fun i => d.rd (R.GRD_OVEN + 4 * i)) ++ [0]
def lockable : Dev := member.wr R.GRD_CFGCRC (guardCrc (guardShadow member))
def wrongActive : Dev := { armedGuard 0 0 with guard := { (armedGuard 0 0).guard with active := List.replicate 11 0 } }

theorem witness_FireguardLatchesTestsAndLocks :
    (st (armedGuard 3 1)).awake = true ∧ (armedGuard 3 1).power.entering = none ∧ head.isHead = true ∧ member.bit F.GRD_STAT_ARMED = false ∧
    (armedGuard 3 1).isHead = false ∧ (armedGuard 3 1).bit F.GRD_STAT_ARMED = true ∧
    bitsOf ((armedGuard 3 1).guardWord 9) 0 6 + 1 = 4 ∧ (armedGuard 3 1).comparatorOn 0 = true ∧ nth (armedGuard 3 1).guard.counts 0 0 + 1 = 4 ∧
    nth (armedGuard 2 1).guard.counts 0 0 + 1 < 4 ∧ latchedGuard.bitAt F.GRD_GLATCH_GUARD 0 = true ∧
    (armedGuard 3 1).guard.testFails.length = 76 ∧ (armedGuard 3 1).guard.testNext ≤ 0 ∧ nth (armedGuard 3 1).guard.testFails 0 0 + 1 = 2 ∧
    (st member).awake = true ∧ member.power.entering = none ∧ lockedGuard.bit F.GRD_STAT_LOCKED = true ∧
    guardCrc (guardShadow member) ≠ member.rd R.GRD_CFGCRC ∧ guardCrc (guardShadow lockable) = lockable.rd R.GRD_CFGCRC ∧
    lockable.bit F.GRD_STAT_LOCKED = false ∧
    guardCrc (armedGuard 0 0).guard.active = guardCrc (Guard.resetConfig false) ∧
    guardCrc wrongActive.guard.active ≠ guardCrc (Guard.resetConfig false) ∧ wrongActive.bit F.GRD_STAT_ARMED = true ∧
    latchedGuard.touch.find? (fun x => x.addr == R.GRD_GLATCH) = none ∧ (∀ i < 76, nth latchedGuard.guard.counts i 0 = 0) ∧
    (∀ i < 76, nth (armedGuard 3 1).guard.counts i 0 ≠ 0) := by decide +kernel

/-- One fault posted and nothing else waiting, on a device that holds a fault of its class, or none. -/
def posting (cls lvl held : Nat) : Dev :=
  let c : Collector := { Collector.reset with
    cls := upd Collector.reset.cls cls (fun _ => held)
    first := upd Collector.reset.first 1 (fun x => { x with valid := held.testBit 1 }) }
  { keyed with posted := [⟨cls, lvl, 1, 7, false⟩], flt := c, fltBase := c }
/-- A member in Lockout under a session key, and the word that unlocks it. -/
def unlockable : Dev := { lockedOut with keys := { lockedOut.keys with ks := some 0, chal := 5 } }
def unlockWord : Word := Aes.cmac32 0 (wordBytes (unlockable.rd R.SYS_ID) ++ wordBytes 5 ++ wordBytes 0)
def l0Due : Dev := { member with log := { member.log with l0At := 0 }, cycle := 100000000 }

theorem witness_FaultsAreLatchedAndAcknowledged :
    (posting 8 3 0).posted = [⟨8, 3, 1, 7, false⟩] ∧ (posting 8 0 2).posted = [⟨8, 0, 1, 7, false⟩] ∧ (posting 8 0 2).fltNow = [] ∧
    (posting 8 0 2).fltBase = (posting 8 0 2).flt ∧ (posting 8 0 2).lengths = Dev.reset.lengths ∧ (posting 8 1 2).lengths = Dev.reset.lengths ∧
    nth (posting 8 1 2).flt.cls 8 0 = 2 ∧
    (st unlockable).awake = true ∧ unlockable.fltNow = [] ∧ unlockable.fltBase = unlockable.flt ∧ unlockable.flt.first.length = 4 ∧
    member.bit F.FLT_STAT_LKO = false ∧ unlockable.bit F.FLT_STAT_LKO = true ∧ unlockable.keys.ks = some 0 ∧
    unlockWord = Aes.cmac32 0 (wordBytes (unlockable.rd R.SYS_ID) ++ wordBytes unlockable.keys.chal ++
      wordBytes ((nth unlockable.flt.first 3 ⟨false, false, false, false, 0, 0, 0, 0, 0⟩).stamp.truncate 32)) ∧ unlockWord ≠ 0 ∧
    member.cycle < member.log.l0At + 100000000 ∧ l0Due.log.l0At + 100000000 ≤ l0Due.cycle := by decide +kernel

theorem witness_FaultLevelsDiscardAndReact :
    (posting 8 1 0).posted = [⟨8, 1, 1, 7, false⟩] ∧ (posting 0 1 0).posted = [⟨0, 1, 1, 7, false⟩] ∧ (posting 8 2 0).posted = [⟨8, 2, 1, 7, false⟩] ∧
    (posting 8 0 0).pub0 = [] ∧ (posting 8 0 0).fltNow = [] ∧ (posting 8 0 0).fltBase = (posting 8 0 0).flt ∧
    (posting 8 0 0).lengths = Dev.reset.lengths ∧ (posting 0 1 0).lengths = Dev.reset.lengths ∧ (posting 8 2 0).lengths = Dev.reset.lengths ∧
    (posting 8 3 0).bit F.FLT_STAT_LKO = false ∧ (posting 8 3 0).lengths = Dev.reset.lengths := by decide

/-! ### The machine as a whole -/

theorem witness_AStepRunsTheFrontCommand : ({ st member with pending := [.add 1 2 3, .mov 1 2] } : State).pending = .add 1 2 3 :: [.mov 1 2] := by decide

theorem witness_AnEmptyQueueIsOneCycle :
    State.reset.pending = [] ∧ State.reset.dev.power.released = false ∧ (st member).pending = [] ∧ (st member).awake = true := by decide

theorem witness_EveryCommandHasAnEffectOrNone :
    State.reset.dev.power.released = false ∧ State.reset.awake = false ∧ (st banked).awake = false ∧ (st banked).dev.power.released = true := by decide

theorem witness_ACycleEndsWithNothingWaiting : member.calm ∧ (st member).dev.calm := by decide

theorem witness_MemoriesStayCanonical : (st member).mems.wf = true ∧ (Mems.mk [(3, 7)] [(2, 1)] [(9, 0)]).wf = true := by decide

theorem witness_ListsKeepTheirLengths : member.lengths = Dev.reset.lengths := by decide

theorem witness_RegisterFieldsFollowTheirAccessTypes :
    (descAt R.TIM_STAT).isSome = true ∧ (descAt R.CONV_SWEEP).isSome = true ∧ descAt 0xFFFC = none ∧ (∀ x ∈ member.touch, x.addr ≠ R.TIM_STAT) ∧
    (member.touch.map (·.addr)).Nodup := by decide

theorem witness_NoBitOfAnInstructionWordIsDropped :
    Imvia.decode 0xB8400000 = Imvia.decode 0xB8400000 := by decide

theorem witness_TheCycleCounterCountsSystemCycles :
    (st member).pending = [] ∧ (st member).awake = true ∧ (st banked).dev.power.released = true ∧ banked.banked = true := by decide

/-- A member in Start at frequency lock that owes its first calibration; one whose calibration runs, before and after its 12 ms; one with an
instant left in its converters. -/
def calOwed : Dev := { (inStart.putB F.SYS_CLKSTAT_FLOCK true) with power := { inStart.power with calPending := true } }
def calRuns (taken : Option Nat) : Dev := { calibrating with cal := { calibrating.cal with taken := taken } }
def convertersBusy : Dev := { calibrating with conv := { calibrating.conv with instants := [instant7 true true] } }
/-- The limit of the residuals at 10, and residuals of which channel 2 is the first above it. -/
def calLimited (qf : Bool) : Dev := ((calRuns (some 3800000)).put F.CAL_QLIM_LIM 10).putB F.CAL_CTL_QFEN qf
def residuals : List Byte := List.replicate 2 10 ++ List.replicate 32 11

theorem witness_CalibrationRunsAndCompletes :
    (st calOwed).awake = true ∧ banked.pstate ≠ 1 ∧ lockedOut.pstate ≠ 1 ∧ head.isHead = true ∧ head.pstate = 2 ∧ calibrating.bit F.CAL_STAT_RUN = true ∧
    member.pstate = 2 ∧ member.isHead = false ∧ member.bit F.CAL_STAT_RUN = false ∧ sweeping.conv.infl = true ∧
    calOwed.power.calPending = true ∧ calOwed.bit F.SYS_CLKSTAT_FLOCK = true ∧ calOwed.pstate = 1 ∧ calOwed.isHead = false ∧
    calOwed.bit F.CAL_STAT_RUN = false ∧ member.power.calPending = false ∧
    (calRuns none).cal.taken = none ∧ (calRuns none).inj.pend = false ∧ (calRuns none).inj.run = false ∧ (calRuns none).conv.instants = [] ∧
    convertersBusy.conv.instants ≠ [] ∧ (calRuns (some 3800000)).cal.taken = some 3800000 ∧ 3800000 + 1200000 ≤ (calRuns (some 3800000)).cycle ∧
    ¬ 3800001 + 1200000 ≤ (calRuns (some 3800001)).cycle ∧ (List.replicate 204 (0 : Word)).length = 204 ∧ member.cal.active.length = 209 ∧
    (calLimited true).get F.CAL_QLIM_LIM < (nth residuals 2 0).toNat ∧ ¬ (calLimited true).get F.CAL_QLIM_LIM < (nth residuals 1 0).toNat ∧
    (calLimited true).bit F.CAL_CTL_QFEN = true ∧ (calLimited false).bit F.CAL_CTL_QFEN = false ∧ (calLimited true).bit F.CAL_CTL_LOGW = true ∧
    (calLimited true).logFault = false ∧ (calLimited true).log.hwQ = [] := by decide

/-- The CRC of R579 over a set, the block with its shadow open, and with slots of calibration sets. -/
def setCrc (set : List Word) : Word := Crc.crc32 ((set.map wordBytesLe).flatten)
def slotOf (order : Nat) : CalSlot := ⟨Cal.resetSet, setCrc Cal.resetSet, order⟩
def shadowOpen (a b : Option CalSlot) : Dev :=
  let d := (member.putB F.CAL_STAT_LOCKED false).put F.LOG_STAT_MOUNT 2
  { d with cal := { d.cal with wroteAt := 4000000 }, nv := { d.nv with calA := a, calB := b } }
def shadowStale : Dev := { shadowOpen none none with cycle := 104000000 }
def headOpen : Dev := head.putB F.CAL_STAT_LOCKED false
/-- The shadow checked against its CRC. -/
def shadowChecked (d : Dev) : Dev := d.wr R.CAL_CHECK (setCrc d.cal.shadow)
/-- Tracking due, with counters one short of an update; a converter occupied by its last hold edge. -/
def trackDue (n : Nat) (next : Bool) (hold : Nat) : Dev :=
  let d := (member.putB F.CAL_CTL_TRKEN true).put F.CONV_CHEN_CELL 0xFFFFFFFE
  { d with cal := { d.cal with
    trk := List.replicate 34 ⟨n, n, next, 4000000, 4000000, false, false, 0⟩, lastHold := List.replicate 34 hold, trkAt := 4998000 } }

theorem witness_TheShadowIsCommittedAndTracked :
    (st (shadowOpen none none)).awake = true ∧ (0 : Word) ≠ 0x43414C21 ∧ (0xD32C : BitVec 16).toNat = 0xD000 + 4 * 203 ∧ head.isHead = true ∧
    (0xD34C : BitVec 16).toNat = 0xD340 + 4 * (207 - 204) ∧ (0xD350 : BitVec 16).toNat = 0xD350 ∧ member.bit F.CAL_STAT_LOCKED = true ∧
    (shadowOpen none none).bit F.CAL_STAT_LOCKED = false ∧ (shadowOpen none none).cycle < (shadowOpen none none).cal.wroteAt + 100000000 ∧
    shadowStale.cal.wroteAt + 100000000 ≤ shadowStale.cycle ∧ (shadowOpen none none).nv.calA = none ∧ (shadowOpen none none).nv.calB = none ∧
    (shadowOpen (some (slotOf 1)) none).nv.calA = some (slotOf 1) ∧ (shadowOpen (some (slotOf 1)) none).mounted = true ∧
    (slotOf 1).set.length = 209 ∧ setCrc (slotOf 1).set = (slotOf 1).crc ∧ (slotOf 1).order < (slotOf 2).order ∧
    member.cal.shadow.length = 209 ∧ banked.pstate ≠ 2 ∧ calibrating.bit F.CAL_STAT_RUN = true ∧
    setCrc (shadowOpen none none).cal.shadow ≠ (shadowOpen none none).rd R.CAL_CHECK ∧
    setCrc (shadowChecked (shadowOpen none none)).cal.shadow = (shadowChecked (shadowOpen none none)).rd R.CAL_CHECK ∧
    (shadowChecked (shadowOpen none none)).bit F.CAL_STAT_LOCKED = false ∧ headOpen.bit F.CAL_STAT_LOCKED = false ∧
    (st (trackDue 63 true 0)).awake = true ∧ (trackDue 63 true 0).bit F.CAL_CTL_TRKEN = true ∧
    (trackDue 63 true 0).cal.trkAt + 2000 ≤ (trackDue 63 true 0).cycle ∧ (trackDue 63 true 0).cal.trk.length = 34 ∧
    (trackDue 63 true 0).chanEnabled 0 = false ∧ (trackDue 63 true 0).chanEnabled 31 = true ∧
    (trackDue 63 true 4999821).cycle < nth (trackDue 63 true 4999821).cal.lastHold 31 0 + 180 ∧
    ¬ (trackDue 63 true 4999820).cycle < nth (trackDue 63 true 4999820).cal.lastHold 31 0 + 180 ∧ member.cal.trkAt = 0 ∧
    (trackDue 63 true 0).isHead = false ∧ head.isHead = true := by decide +kernel

/-- A diagnostic run set up: its kind, on drawer 3, and a test transfer on shelf 3. -/
def diagSet (d : Dev) (kind : Nat) : Dev :=
  let d := ((d.put F.BST_DCFG_KIND kind).put F.BST_DCFG_DRW 3).put F.BST_DCELL_CELL 0xFF
  let d := (List.range 3).foldl (fun d g => (d.put (F.ACC_DCFG_MODE g 3) 1).put (F.ACC_DCFG_SWP g 3) 0) d
  ((d.put F.BST_BTCFG_SH 3).put F.BST_BTCFG_CELL 7).put F.BST_BTI_I 100
def injecting (d : Dev) : Dev := { d with inj := { d.inj with pend := true } }
def badDrawer : Dev := (diagSet balReady 0).put (F.ACC_DCFG_MODE 0 3) 0
/-- A run in progress: its kind and step, what is left to inject, and its last measurements. -/
def diagRun (kind step left : Nat) : Dev :=
  let d := (((diagSet balReady kind).put F.BST_DSTAT_STATE 1).put F.BST_DSTAT_KIND kind)
  { d with diag := { d.diag with step := step, left := left, n := 4, cells := 0xFF, drw := 3, half := step + 1, means := List.replicate step [] } }
def diagRunMeans (kind : Nat) : Dev :=
  let d := diagRun kind (if kind = 2 then 3 else 1) 0
  { d with diag := { d.diag with means := List.replicate (if kind = 2 then 3 else 1) [(0, 8000), (1, -640), (7, 640)] } }
def halfDone (half code : Nat) : Dev :=
  let d := (diagRun 3 0 0).put (F.BAL_SHSTAT_END 3) code
  { d with diag := { d.diag with half := half } }

theorem witness_DiagnosticsRunToTheirVerdict :
    (st (diagSet balReady 0)).awake = true ∧ (diagSet balReady 0).bal.shelves.length = 4 ∧ (diagSet balReady 3).get F.BST_DCFG_KIND = 3 ∧
    (diagRun 0 0 0).diagRuns = true ∧ (injecting (diagSet balReady 0)).inj.pend = true ∧ (diagSet balReady 0).diagRuns = false ∧
    (diagSet balReady 0).inj.pend = false ∧ (diagSet balReady 0).inj.run = false ∧ (diagSet inStart 0).pstate ≠ 2 ∧ (diagSet head 0).isHead = true ∧
    (diagSet head 0).pstate = 2 ∧ badDrawer.get (F.ACC_DCFG_MODE 0 3) ≠ 1 ∧ badDrawer.get F.BST_DCELL_CELL &&& badDrawer.get F.CONV_CHEN_CELL ≠ 0 ∧
    (∀ g < (3 : Nat), (diagSet balReady 0).get (F.ACC_DCFG_MODE g 3) = 1) ∧ (∀ g < (3 : Nat), (diagSet balReady 0).get (F.ACC_DCFG_SWP g 3) ≠ 1) ∧
    (diagSet calibrating 0).bit F.CAL_STAT_RUN = true ∧ (diagSet (holding 5000001) 2).get F.BST_DCFG_KIND = 2 ∧
    ((diagSet (holding 5000001) 2).shelf 3).sel ≠ none ∧ (diagSet balReady 3).get F.BST_BTI_I ≠ 0 ∧
    (diagSet balOver 3).pstate = 2 ∧ (diagSet (balReady.put F.BAL_STAT_OWNER 0) 3).get F.BAL_STAT_OWNER ≠ 1 ∧
    (diagRun 1 0 4).diag.left ≠ 0 ∧ (diagRun 1 0 4).diag.stepAt + 4000 ≤ (diagRun 1 0 4).cycle ∧ (diagRun 1 0 4).pstate = 2 ∧
    (diagRun 2 0 0).diag.left = 0 ∧ (diagRun 2 0 0).diag.start + (0 + 1) * (4000 + 200 * 4) ≤ (diagRun 2 0 0).cycle ∧
    ¬ 4 ≤ (diagRun 2 2 0).diag.step + 1 ∧ 4 ≤ (diagRun 2 3 0).diag.step + 1 ∧ (halfDone 1 1).diag.half = 1 ∧ ((halfDone 1 1).shelf 3).act = false ∧
    (halfDone 1 1).get (F.BAL_SHSTAT_END 3) = 1 ∧ (halfDone 1 2).get (F.BAL_SHSTAT_END 3) ≠ 1 ∧ (halfDone 2 1).diag.half = 2 ∧
    (diagRunMeans 1).diag.means.length = 1 ∧ (diagRunMeans 1).diag.start + 2 * (4000 + 200 * 4) ≤ (diagRunMeans 1).cycle ∧
    (diagRunMeans 0).get F.BST_DSTAT_KIND = 0 ∧ (diagRunMeans 2).get F.BST_DSTAT_KIND = 2 := by decide

/-- Converter tests due, or in progress at a converter. -/
def convDue (enabled : Nat) : Dev := (((member.putB F.BST_CCFG_AUTO true).put F.BST_CCFG_INTV 1).put F.CONV_CHEN_CELL enabled).put F.CONV_DEVEN_CUR 0
def noneEnabled : Dev := (convDue 0).put F.CONV_DEVEN_AUX 0
def convBusy (c : Nat) : Dev := (member.putB F.BST_STAT_CBUSY true).put F.BST_STAT_CCH c
/-- Memory tests due, paused, or in a phase since a cycle. -/
def memDue : Dev := ((member.putB F.BST_MCFG_AUTO true).put F.BST_MCFG_INTV 1).put F.BST_MCFG_LAST 48
def memPaused : Dev := (member.putB F.BST_STAT_MBUSY true).putB F.BST_STAT_MPAUSE true
def memPhase (blk phase since : Nat) (bkgs : List Nat) (stop : Bool) : Dev :=
  let d := (((member.putB F.BST_STAT_MBUSY true).put F.BST_STAT_MBLK blk).put F.BST_STAT_MPHASE phase).put F.BST_MCFG_LAST 48
  { d with bist := { d.bist with phaseAt := since, bkgs := bkgs, stop := stop } }
/-- Hearth's logic test in progress since a cycle. -/
def logicRuns (at_ : Nat) (compared : Bool) : Dev :=
  let d := member.putB F.BST_STAT_LBUSY true
  { d with bist := { d.bist with lbAt := at_, lbCompared := compared }, power := { d.power with releasedAt := 3000000 } }
def logicOwed : Dev := { inStart with hearth := { inStart.hearth with run := false } }
def haltedMember : Dev := { member with hearth := { member.hearth with run := false } }

theorem witness_SelfTestsOfConvertersMemoryAndLogic :
    (st (convDue 0x80000000)).awake = true ∧ (convDue 0x80000000).powerAccount + 5 ≤ 661 ∧ (convDue 0x80000000).bit F.BST_CCFG_AUTO = true ∧
    (convDue 0x80000000).bist.convAt + max 1 ((convDue 0x80000000).get F.BST_CCFG_INTV) * 1000000 ≤ (convDue 0x80000000).cycle ∧
    (convDue 0x80000000).bit F.BST_STAT_MBUSY = false ∧ (convDue 0x80000000).bit F.BST_STAT_CBUSY = false ∧
    (convDue 0x80000000).bit F.BST_STAT_LBUSY = false ∧ (convDue 0x80000000).bist.convNext = 0 ∧ (convDue 0x80000000).chanEnabled 31 = true ∧
    (∀ c < (31 : Nat), (convDue 0x80000000).chanEnabled c = false) ∧ (∀ c < (34 : Nat), noneEnabled.chanEnabled c = false) ∧
    (convBusy 33).bit F.BST_STAT_CBUSY = true ∧ (convBusy 31).get F.BST_STAT_CCH = 31 ∧
    memDue.bit F.BST_MCFG_AUTO = true ∧ memDue.bist.memAt + max 1 (memDue.get F.BST_MCFG_INTV) * 1000000 ≤ memDue.cycle ∧
    memDue.powerAccount + 40 ≤ 661 ∧ memDue.bit F.BST_MSTAT_RMV = false ∧ memPaused.bit F.BST_STAT_MPAUSE = true ∧
    memPaused.powerAccount + 40 ≤ 661 ∧ (memPhase 0 0 4999488 [0] false).bit F.BST_STAT_MBUSY = true ∧
    (memPhase 0 0 4999488 [0] false).bist.phaseAt + 512 ≤ 5000000 ∧ ¬ (memPhase 0 0 4999489 [0] false).bist.phaseAt + 512 ≤ 5000000 ∧
    (memPhase 47 1 4984640 [0, 1] false).bist.phaseAt + 15360 ≤ 5000000 ∧ (memPhase 47 1 4984640 [0] false).bist.bkgs.length ≤ 1 ∧
    (memPhase 48 1 4984640 [0] true).bist.stop = true ∧ (memPhase 48 1 4984640 [0] true).get F.BST_STAT_MBLK = 48 ∧
    2 ≤ (memPhase 0 2 4999488 [] false).get F.BST_STAT_MPHASE ∧
    logicOwed.bit F.BST_STAT_LBUSY = false ∧ logicOwed.bit F.BST_LSTAT_HRUN = false ∧ logicOwed.power.releasedAt + 10000 ≤ logicOwed.cycle ∧
    logicOwed.pstate = 1 ∧ member.hearth.run = true ∧ haltedMember.hearth.run = false ∧ haltedMember.pstate = 2 ∧
    (logicRuns 4975998 false).bit F.BST_STAT_LBUSY = true ∧ (logicRuns 4975998 false).bist.lbAt + 24002 ≤ 5000000 ∧
    ¬ (logicRuns 4975999 false).bist.lbAt + 24002 ≤ 5000000 ∧ (logicRuns 4973998 true).bist.lbAt + 26002 ≤ 5000000 := by decide

/-- A scan set up over a length, and a scan in progress in a space with a configuration and what remains. -/
def scanSet (start len : Nat) : Dev := (member.put F.CHK_START_START start).put F.CHK_LEN_LEN len
def scanning (space rem : Nat) (cfg : Word) : Dev :=
  let d := ((member.putB F.CHK_STAT_BUSY true).put F.CHK_STAT_SPC space).put F.CHK_REM_REM rem
  { d with check := { d.check with cfg := cfg } }
def scanMismatch : Dev := (scanning 1 0 0x181F).put F.CHK_EXP_EXP 1

theorem witness_ScansAreStartedStoppedAndCompleted :
    (st (scanSet 0xFFFC 4)).awake = true ∧ (scanSet 0xFFFC 4).bit F.CHK_STAT_BUSY = false ∧ (scanSet 0xFFFC 4).get F.CHK_LEN_LEN ≠ 0 ∧
    (scanSet 0xFFFC 4).get F.CHK_START_START + (scanSet 0xFFFC 4).get F.CHK_LEN_LEN = 0x10000 ∧ (scanSet 0 0).get F.CHK_LEN_LEN = 0 ∧
    (scanning 1 0 0x181F).bit F.CHK_STAT_BUSY = true ∧ (scanning 1 4 0x181F).get F.CHK_REM_REM ≠ 0 ∧ (scanning 1 0 0x181F).get F.CHK_REM_REM = 0 ∧
    (0x181F : Word).getLsbD 11 = true ∧ (0x181F : Word).getLsbD 12 = true ∧
    (BitVec.ofNat 32 (Crc.finish 32 false false (scanMismatch.get F.CHK_RUN_RUN)) : Word).toNat ≠ scanMismatch.get F.CHK_EXP_EXP % 2 ^ 32 ∧
    (BitVec.ofNat 32 (Crc.finish 32 false false ((scanning 1 0 0x181F).get F.CHK_RUN_RUN)) : Word).toNat =
      (scanning 1 0 0x181F).get F.CHK_EXP_EXP % 2 ^ 32 ∧
    (scanning 2 4 0).get F.CHK_STAT_SPC = 2 ∧ (scanning 0 4 0).get F.CHK_STAT_SPC = 0 ∧ (scanning 3 4 0).get F.CHK_STAT_SPC = 3 := by decide

/-- A key frame for address 5 with an OP and a KVER, under key 0 and the challenge 0; a member that holds that key, provisioned or not. -/
def keyBytes (kver op : Nat) : List Byte := [0, 0] ++ beBytes 2 24 ++ beBytes 4 (R.SEC_PROVBUF 0) ++ List.replicate 16 0xC3 ++ beBytes 4 kver ++ beBytes 4 op
def keyFrameOf (kver op : Nat) : Frame :=
  let f := { frameTo5 4 (keyBytes kver op) with auth := true }
  { f with mac := frameMac 0 f 0 }
def provisioned : Dev := { member with keys := { member.keys with kp := some 0, dnonce := 0 } }
def keyBroadcast : Frame := { keyFrameOf 1 1 with dest := 127 }
def keyPlain : Frame := { keyFrameOf 1 1 with auth := false }
def keyShort : Frame := frameTo5 4 ((keyBytes 1 1).take 12)
def keyWrong : Frame := { keyFrameOf 1 1 with mac := 0 }
def keyLockedOut : Dev := provisioned.putB F.FLT_STAT_LKO true

theorem witness_KeysAlarmsAndTokens_frames :
    (st provisioned).awake = true ∧ provisioned.consumes .dn (keyFrameOf 1 1) = true ∧ (keyFrameOf 1 1).ty = 4 ∧
    (nth (keyFrameOf 1 1).payload 0 0).toNat = 0 ∧ ofBeBytes (((keyFrameOf 1 1).payload.drop 4).take 4) = R.SEC_PROVBUF 0 ∧
    ofBeBytes (((keyFrameOf 1 1).payload.drop 2).take 2) = 24 ∧ (keyFrameOf 1 1).payload.length = 32 ∧ (keyFrameOf 1 1).auth = true ∧
    (keyFrameOf 1 1).dest ≠ 127 ∧ provisioned.bit F.FLT_STAT_LKO = false ∧ (regWr 0).ty ≠ 4 ∧ provisioned.consumes .dn keyBroadcast = true ∧
    keyBroadcast.dest = 127 ∧ keyShort.payload.length ≠ 32 ∧ ofBeBytes ((keyShort.payload.drop 4).take 4) = R.SEC_PROVBUF 0 ∧
    keyPlain.auth = false ∧ keyLockedOut.bit F.FLT_STAT_LKO = true := by decide +kernel

theorem witness_KeysAlarmsAndTokens_judged :
    provisioned.keys.kp = some 0 ∧ provisioned.bit F.SEC_STAT_RELEASED = false ∧
    frameMac 0 (keyFrameOf 1 1) provisioned.keys.dnonce.toNat = (keyFrameOf 1 1).mac ∧
    frameMac 0 keyWrong provisioned.keys.dnonce.toNat ≠ keyWrong.mac ∧ provisioned.get F.SEC_AFAIL_CONSEC + 1 < 16 ∧
    nth (wordsOf ((keyFrameOf 0 1).payload.drop 8)) 4 0 = 0 ∧ nth (wordsOf ((keyFrameOf 1 3).payload.drop 8)) 5 0 = 3 ∧
    nth (wordsOf ((keyFrameOf 1 1).payload.drop 8)) 4 0 = 1 ∧ nth (wordsOf ((keyFrameOf 1 1).payload.drop 8)) 5 0 = 1 ∧
    nth (wordsOf ((keyFrameOf 1 2).payload.drop 8)) 5 0 = 2 ∧
    frameMac 0 (keyFrameOf 1 2) 0 = (keyFrameOf 1 2).mac ∧ frameMac 0 (keyFrameOf 0 1) 0 = (keyFrameOf 0 1).mac := by decide +kernel

/-- Sources 0 and 2 at a step of the policy, not seen before or again. -/
def policy (p : Nat) (seen : Bool) : Dev := (provisioned.put ⟨R.SEC_POLICY, 0, 32⟩ p).put F.SEC_ALM_SRC (if seen then 5 else 0)
/-- The token that this device expects (R624), and devices that hold its low half: in Start with Hearth halted, and in Measure. -/
def tokenOf (d : Dev) : Nat :=
  let id := d.rd R.SYS_ID
  let kx := Aes.encrypt Config.rootKey (Aes.ofBytes ((beBytes 2 0x5454 ++ wordBytes id ++ beBytes 8 Config.traceCode.toNat ++ [0, 0]).map
    BitVec.toNat))
  (Aes.cmac kx (wordBytes id ++ wordBytes d.keys.tch ++ beBytes 8 Config.traceCode.toNat)).toNat / 2 ^ 64
def tokenHeld (d : Dev) : Dev := { d with keys := { d.keys with tokL := BitVec.ofNat 32 (tokenOf d) } }

theorem tokenOf_lt (d : Dev) : tokenOf d < 2 ^ 64 := by
  unfold tokenOf
  have h := (Aes.cmac (Aes.encrypt Config.rootKey (Aes.ofBytes ((beBytes 2 0x5454 ++ wordBytes (d.rd R.SYS_ID) ++
    beBytes 8 Config.traceCode.toNat ++ [0, 0]).map BitVec.toNat)))
    (wordBytes (d.rd R.SYS_ID) ++ wordBytes d.keys.tch ++ beBytes 8 Config.traceCode.toNat)).isLt
  simp only
  omega

theorem witness_KeysAlarmsAndTokens_right (d : Dev) :
    (BitVec.ofNat 32 (tokenOf d / 2 ^ 32) : Word).toNat * 2 ^ 32 + (tokenHeld d).keys.tokL.toNat = tokenOf (tokenHeld d) := by
  have e : tokenOf (tokenHeld d) = tokenOf d := rfl
  have h := tokenOf_lt d
  rw [e]
  simp only [tokenHeld, BitVec.toNat_ofNat]
  omega

theorem witness_KeysAlarmsAndTokens_wrong (d : Dev) :
    (BitVec.ofNat 32 (tokenOf d / 2 ^ 32 + 1) : Word).toNat * 2 ^ 32 + (tokenHeld d).keys.tokL.toNat ≠ tokenOf (tokenHeld d) := by
  have e : tokenOf (tokenHeld d) = tokenOf d := rfl
  have h := tokenOf_lt d
  rw [e]
  simp only [tokenHeld, BitVec.toNat_ofNat]
  omega

theorem witness_KeysAlarmsAndTokens_alarms :
    (st (tokenHeld logicOwed)).awake = true ∧ logicOwed.pstate = 1 ∧ logicOwed.hearth.run = false ∧ logicOwed.get F.GRD_SAFESTAT_OUT = 0 ∧
    member.pstate ≠ 1 ∧ bitsOf ((policy 0x22 false).rd R.SEC_POLICY).toNat 0 2 = 2 ∧ bitsOf ((policy 0x33 true).rd R.SEC_POLICY).toNat 4 2 = 3 ∧
    (policy 0x33 true).bitAt F.SEC_ALM_SRC 0 = true ∧ (policy 0x33 false).bitAt F.SEC_ALM_SRC 0 = false := by decide

/-- A record of a body length staged in a cycle, and a mounted log that holds staging elements. -/
def recordOf (n at_ : Nat) : LogRec := ⟨1, 0, List.replicate n 7, false, 9, 3, at_⟩
def logWith (l : List Staged) : Dev := let d := member.put F.LOG_STAT_MOUNT 2; { d with log := { d.log with staged := l } }
def segmentFull : Dev := logWith [.record (recordOf 20 4000000), .cut]
def segmentOld : Dev := { logWith [.record (recordOf 20 4000000)] with cycle := 4000000 + 2550000000 }
def programming (installs : Bool) : Dev :=
  let d := logWith []
  { d with
    log := { d.log with programming := some 4990000 }
    keys := { d.keys with installing := if installs then some (7, 3) else none } }
/-- The log mounts since a cycle, over a die without keys, and over one with a key record. -/
def mounting (from_ : Nat) : Dev := let d := member.put F.LOG_STAT_MOUNT 1; { d with log := { d.log with mountFrom := from_ } }
def mountingKey : Dev := { mounting 4990000 with nv := { member.nv with keyA := some (keyRec 5 1 1), pairId := 0x1234 } }

theorem witness_TheLogProgramsAndMounts :
    (st segmentFull).awake = true ∧ segmentFull.get F.LOG_STAT_MOUNT = 2 ∧ segmentFull.log.programming = none ∧ segmentFull.power.powerFail = false ∧
    segmentFull.bit F.BST_STAT_LBUSY = false ∧ segmentFull.bit F.LOG_STAT_RDONLY = false ∧ segmentFull.needsErase = false ∧
    1024 ≤ segmentFull.log.total ∧ member.get F.LOG_STAT_MOUNT ≠ 2 ∧ segmentOld.log.oldest = some 4000000 ∧
    4000000 + max 1 (segmentOld.get F.LOG_CFG_FLUSH) * 10000000 ≤ segmentOld.cycle ∧ member.log.oldest = none ∧
    segmentOld.log.total % 1024 ≠ 0 ∧ (logWith []).log.total % 1024 = 0 ∧ member.log.programming = none ∧
    (programming true).log.programming ≠ none ∧ (programming true).keys.installing = some (7, 3) ∧ (programming false).keys.installing = none ∧
    (mounting 0).twin.held = none ∧ (mounting 0).get F.LOG_STAT_MOUNT = 1 ∧ (mounting 0).cycle ≤ (mounting 0).log.mountFrom + 5000000 ∧
    (mounting 1).cycle < (mounting 1).log.mountFrom + 5000000 ∧ (mounting 0).log.mountFrom + 5000000 ≤ (mounting 0).cycle ∧
    (mounting 0).nv.pairId = 0 ∧ newerKey (mounting 0).nv.keyA (mounting 0).nv.keyB = none ∧ (mounting 0).nv.rdonly = false ∧
    (mounting 0).log.staged = [] ∧ member.get F.LOG_STAT_MOUNT ≠ 1 := by decide

theorem witness_TheLogProgramsAndMounts_key : newerKey mountingKey.nv.keyA mountingKey.nv.keyB = some (keyRec 5 1 1) := by
  simp [mountingKey, newerKey, KeyRec.intact, keyRec, member, Dev.reset, Nv.reset, Dev.put, Dev.putB, Dev.wr]

/-- The head of the ring stands before a block that still holds a record; the log streams out; an erasure waits for its record. -/
def blockDue : Dev := { logWith [] with nv := { member.nv with ofs := 0x400000, starts := [⟨0x400010, 3, 4⟩, ⟨0x800000, 4, 5⟩], tailOfs := 0x400010 } }
def streaming (left at_ : Nat) : Dev :=
  let d := (logWith []).put F.LOG_RDSTAT_STATE 1
  { d with log := { d.log with rdLeft := left, rdAt := at_ }, nv := { d.nv with ofs := 4096 } }
def streamingHead : Dev := { (streaming 500 5000000).putB F.SYS_STRAP_HEADSEL true with chain := head.chain }
def erasing (n : Nat) : Dev :=
  let d := { blockDue with log := { blockDue.log with erasing := some (BitVec.ofNat 48 n) } }
  d.putB F.LOG_STAT_EBUSY true
def faultedLog : Dev := member.put F.LOG_STAT_MOUNT 3
/-- A capture with a number of entries that began at a cycle. -/
def capturingSnap (n began : Nat) : Dev := { member with log := { member.log with cap := some ⟨0, 0, [], List.replicate n [], began⟩ } }

theorem witness_TheLogErasesReadsOutAndCaptures :
    (st blockDue).awake = true ∧ blockDue.get F.LOG_STAT_MOUNT = 2 ∧ blockDue.nv.ofs % 0x400000 = 0 ∧
    (∃ r ∈ blockDue.nv.starts, r.ofs / 0x400000 = blockDue.nv.ofs / 0x400000) ∧ member.get F.LOG_STAT_MOUNT ≠ 2 ∧
    clampNat 8 40 (blockDue.get F.LOG_CFG_RTHR) < (41 : Byte).toNat ∧ (7 : Byte).toNat ≤ clampNat 8 40 (blockDue.get F.LOG_CFG_RTHR) ∧
    member.get F.LOG_RDSTAT_STATE ≠ 1 ∧ (streaming 0 5000000).get F.LOG_RDSTAT_STATE = 1 ∧ (streaming 0 5000000).log.rdAt ≤ 5000000 ∧
    (streaming 0 5000000).log.rdLeft = 0 ∧ (streaming 248 5000000).log.rdLeft ≤ 248 ∧ 248 < (streaming 249 5000000).log.rdLeft ∧
    (streaming 1 5000001).cycle < (streaming 1 5000001).log.rdAt ∧ (streaming 1 0).side = 0 ∧ streamingHead.isHead = true ∧
    streamingHead.hostUsed + 300 ≤ 16384 ∧
    (1 : Word) ≠ 0x45524153 ∧ faultedLog.logFault = true ∧ (logWith []).get F.LOG_RDSTAT_STATE ≠ 1 ∧ (logWith []).bit F.LOG_STAT_EBUSY = false ∧
    (logWith []).logFault = false ∧ (logWith []).log.hwQ = [] ∧ member.log.erasing = none ∧ (erasing 9).log.erasing = some 9 ∧
    (∀ r ∈ (erasing 9).nv.starts, r.seq ≠ 9) ∧ (erasing 4).nv.starts = [⟨0x400010, 3, 4⟩] ++ ⟨0x800000, 4, 5⟩ :: [] ∧
    (∀ x ∈ [(⟨0x400010, 3, 4⟩ : RecStart)], x.seq ≠ 4) ∧
    member.log.cap = none ∧ (capturingSnap 63 4000000).log.cap = some ⟨0, 0, [], List.replicate 63 [], 4000000⟩ ∧
    (capturingSnap 63 4000000).cycle < 4000000 + 100000000 ∧ 64 ≤ (List.replicate 64 ([] : List Byte)).length := by decide

theorem witness_ConditionCodesTestTheFlags : (st member).awake = true ∧ member.willRun = true ∧ (7 : BitVec 4).toNat < 8 := by decide

end Sys2Proof.Tests
end

section
/-!
PROOF. REGISTER_WRITE (R12 to R17, R242): which branch of `Dev.writeReg` a write takes, what the alarm of a locked register changes, and
what a write does to the fields of a register that no meaning watches.
-/

namespace Sys2Proof.Machine

/-- Only the warm reset initialises the SRAMs (R608). -/
theorem Mems.afterWrite_other (m : Mems) {a : Nat} (w : Word) (h : a ≠ R.SYS_RSTCMD) : m.afterWrite a w = m := by
  simp [Mems.afterWrite, h]

/-- A register write other than that of SYS_RSTCMD acts on the device alone. -/
theorem State.registerWrite_becomes {s : State} {who : By} {a : BitVec 16} {w : Word} {d : Dev} (hs : s.awake = true)
    (ha : a ≠ BitVec.ofNat 16 R.SYS_RSTCMD) (hd : (s.dev.writeReg who a.toNat w).2 = d) : s.becomes (.registerWrite who a w) d := by
  have hn : a.toNat ≠ R.SYS_RSTCMD := fun h => ha (BitVec.eq_of_toNat_eq h)
  have he : exec (.registerWrite who a w) s = execRegisterWrite who a w s := rfl
  unfold State.becomes
  rw [he, execRegisterWrite, State.onM_awake _ _ hs]
  simp only [Mems.afterWrite_other _ _ hn, ite_self, hd]

namespace Dev

/-! ### The branches of a register write -/

theorem readReg_unimplemented (d : Dev) {a : Nat} (h : descAt a = none) : d.readReg a = (0, d) := by
  simp [readReg, h]

theorem writeReg_unimplemented (d : Dev) (who : By) {a : Nat} (w : Word) (h : descAt a = none) : d.writeReg who a w = (0, d) := by
  simp [writeReg, h]

theorem descAt_of_authOnly {a : Nat} (h : authOnly a = true) : (descAt a).isNone = false := by
  unfold authOnly at h
  rw [Bool.and_eq_true] at h
  rw [← Option.not_isSome, h.1]
  rfl

theorem writeReg_needsAuth (d : Dev) {a : Nat} {w : Word} (h : d.needsAuth a w = true) : (d.writeReg .plain a w).2 = d := by
  simp only [writeReg, h]
  split <;> rfl

theorem writeReg_hearth_authOnly (d : Dev) {a : Nat} (w : Word) (h : authOnly a = true) : d.writeReg .hearth a w = (0, d) := by
  simp [writeReg, descAt_of_authOnly h, h]

/-- Whoever writes an inactive register, the write is ignored (R16). -/
theorem writeReg_inactive (d : Dev) (who : By) {a : Nat} (w : Word) (h : d.inactive a = true) : (d.writeReg who a w).2 = d := by
  simp only [writeReg, h, if_true]
  split_ifs <;> rfl

theorem writeReg_locked (d : Dev) {a : Nat} (w : Word) (hd : descAt a ≠ none) (hi : d.inactive a = false) (hl : d.lockedReg a = true) :
    d.writeReg .auth a w = (5, d.lockedWrite) := by
  simp [writeReg, hd, hi, hl]

/-- Where a chain write needs no authentication, Hearth may write too (R242, R546). -/
theorem hearthBar_of_needsAuth {d : Dev} {a : Nat} {w : Word} (h : d.needsAuth a w = false) :
    (authOnly a || (a == R.BST_CTL && w.getLsbD 8)) = false := by
  unfold needsAuth at h
  simp only [Bool.or_eq_false_iff, Bool.and_eq_false_iff] at h ⊢
  obtain ⟨⟨⟨ha, -⟩, -⟩, hb⟩ := h
  exact ⟨ha, hb.imp_right And.left⟩

/-- A write that nothing bars does what the register does. -/
theorem writeReg_open (d : Dev) (who : By) {a : Nat} {w : Word} (hd : (descAt a).isNone = false) (hn : d.needsAuth a w = false)
    (hi : d.inactive a = false) (hl : d.lockedReg a = false) : (d.writeReg who a w).2 = d.writeOp who a w := by
  simp only [writeReg, hd, hn, hi, hl, hearthBar_of_needsAuth hn, Bool.and_false, Bool.false_eq_true, if_false]

/-! ### Registers that stay -/

theorem keepsRegs_refl (d : Dev) (l : List Nat) : d.keepsRegs d l := fun _ _ => rfl

theorem keepsRegs_trans {a b c : Dev} {l : List Nat} (h₁ : a.keepsRegs b l) (h₂ : b.keepsRegs c l) : a.keepsRegs c l :=
  fun x hx => (h₂ x hx).trans (h₁ x hx)

theorem keepsRegs_mono {a b : Dev} {l m : List Nat} (h : a.keepsRegs b l) (hs : l ⊆ m) : a.keepsRegs b m :=
  fun x hx => h x (fun hl => hx (hs hl))

theorem keepsRegs_wr (d : Dev) {a : Nat} (v : Word) {l : List Nat} (h : a ∈ l) : d.keepsRegs (d.wr a v) l :=
  fun _ hx => rd_wr_other d v (fun e => hx (e ▸ h))

theorem keepsRegs_put (d : Dev) {f : Fld} (v : Nat) {l : List Nat} (h : f.addr ∈ l) : d.keepsRegs (d.put f v) l :=
  d.keepsRegs_wr _ h

theorem keepsRegs_flagBits (d : Dev) {f : Fld} (v : Nat) {l : List Nat} (h : f.addr ∈ l) : d.keepsRegs (d.flagBits f v) l :=
  fun _ hx => rd_flagBits_other d f v (fun e => hx (e ▸ h))

theorem keepsRegs_count (d : Dev) {f : Fld} (n : Nat) {l : List Nat} (h : f.addr ∈ l) : d.keepsRegs (d.count f n) l :=
  fun _ hx => rd_count_other d f n (fun e => hx (e ▸ h))

/-! ### A hardware record of the log -/

theorem foldl_stage_regs (l : List LogRec) : ∀ d : Dev, (l.foldl stage d).regs = d.regs := by
  induction l with
  | nil => exact fun _ => rfl
  | cons r t ih => exact fun d => ih (d.stage r)

theorem stageQueues_keepsRegs (d : Dev) : d.keepsRegs d.stageQueues [R.SEQ_IP] := by
  unfold stageQueues
  split
  · exact d.keepsRegs_refl _
  · have h : d.keepsRegs ((mergeQueues (d.log.hwQ.length + d.log.progQ.length) d.log.hwQ d.log.progQ).foldl stage
        { d with log := { d.log with hwQ := [], progQ := [] } }) [R.SEQ_IP] := fun x _ => rd_congr (foldl_stage_regs _ _) x
    dsimp only
    split
    · exact h
    · exact keepsRegs_trans h (keepsRegs_flagBits _ _ (by decide))

theorem logHw_keepsRegs (d : Dev) (ty : Nat) (tag : BitVec 16) (body : List Byte) :
    d.keepsRegs (d.logHw ty tag body) [R.LOG_DROP, R.SEQ_IP] := by
  unfold logHw
  dsimp only
  split
  · exact d.keepsRegs_count _ (by decide)
  · exact keepsRegs_mono (stageQueues_keepsRegs _) (by decide)

/-- A record passes from its queue to the staging buffer without a fault and without a key. -/
@[simp] theorem stageQueues_posted (d : Dev) : d.stageQueues.posted = d.posted := by
  rw [(cycleEnds_stageQueues d).1]
  rfl

@[simp] theorem stageQueues_keys (d : Dev) : d.stageQueues.keys = d.keys := by
  rw [(cycleEnds_stageQueues d).1]
  rfl

@[simp] theorem logHw_posted (d : Dev) (ty : Nat) (tag : BitVec 16) (body : List Byte) : (d.logHw ty tag body).posted = d.posted := by
  unfold logHw
  dsimp only
  split
  · rfl
  · exact stageQueues_posted _

@[simp] theorem logHw_keys (d : Dev) (ty : Nat) (tag : BitVec 16) (body : List Byte) : (d.logHw ty tag body).keys = d.keys := by
  unfold logHw
  dsimp only
  split
  · rfl
  · exact stageQueues_keys _

/-! ### The alarm (R626 to R628) -/

/-- An alarm of this source takes the second step, which erases KP too (R626, R627). -/
def alarmErasesKp (d : Dev) (src : Nat) : Bool := d.policyOf src == 2 || (d.policyOf src == 3 && d.bitAt F.SEC_ALM_SRC src)

/-- The keys that an alarm erases. -/
def alarmErase (d : Dev) (kp : Bool) : Dev := if kp then d.dropKs.eraseKp else d.dropKs

/-- The marks that an alarm leaves in SEC_STAT and SEC_ALM. -/
def alarmMark (d : Dev) (src : Nat) (kp : Bool) : Dev :=
  (((d.putB F.SEC_STAT_ASTOP true).flagBits F.SEC_ALM_SRC (2 ^ src)).count F.SEC_ALM_CNT 1).put F.SEC_ALM_STEP (if kp then 2 else 1)

/-- What follows the marks of an alarm: its fault, new challenges, a record. -/
def alarmReport (d : Dev) (src : Nat) (kp : Bool) : Dev :=
  ((d.post 7 2 (if kp then 3 else 2) (BitVec.ofNat 32 src)).drawDnonce.drawTch).secRecord 1

theorem alarm_eq (d : Dev) (src : Nat) : d.alarm src =
    ((d.alarmErase (d.alarmErasesKp src)).alarmMark src (d.alarmErasesKp src)).alarmReport src (d.alarmErasesKp src) := rfl

/-- The registers that an alarm may write. -/
def alarmRegs : List Nat := [R.SEC_STAT, R.SEC_ALM, R.SEC_KVER, R.LOG_DROP, R.SEQ_IP]

theorem setKp_keepsRegs (d : Dev) (k : Option (BitVec 128 × Word)) : d.keepsRegs (d.setKp k) [R.SEC_STAT, R.SEC_KVER] :=
  keepsRegs_trans (b := { d with keys := { d.keys with kp := k.map (fun x : BitVec 128 × Word => x.1) } }) (fun _ _ => rfl)
    (keepsRegs_trans (keepsRegs_put _ _ (by decide)) (keepsRegs_put _ _ (by decide)))

theorem dropKs_keepsRegs (d : Dev) : d.keepsRegs d.dropKs [R.SEC_STAT] := by
  intro x hx
  exact keepsRegs_put { d with keys := { d.keys with ks := none, sendC := [], recvU := [], recvB := [], last := [] } } _ (by decide) x hx

theorem eraseKp_keepsRegs (d : Dev) : d.keepsRegs d.eraseKp [R.SEC_STAT, R.SEC_KVER] := by
  intro x hx
  exact setKp_keepsRegs _ none x hx

theorem alarmErase_keepsRegs (d : Dev) (kp : Bool) : d.keepsRegs (d.alarmErase kp) alarmRegs := by
  have hs : d.keepsRegs d.dropKs alarmRegs := keepsRegs_mono d.dropKs_keepsRegs (by decide)
  cases kp with
  | false => exact hs
  | true => exact keepsRegs_trans hs (keepsRegs_mono (eraseKp_keepsRegs _) (by decide))

theorem alarmMark_keepsRegs (d : Dev) (src : Nat) (kp : Bool) : d.keepsRegs (d.alarmMark src kp) alarmRegs :=
  keepsRegs_trans (keepsRegs_trans (keepsRegs_trans (keepsRegs_put d _ (by decide)) (keepsRegs_flagBits _ _ (by decide)))
    (keepsRegs_count _ _ (by decide))) (keepsRegs_put _ _ (by decide))

theorem alarmReport_keepsRegs (d : Dev) (src : Nat) (kp : Bool) : d.keepsRegs (d.alarmReport src kp) [R.LOG_DROP, R.SEQ_IP] := by
  intro x hx
  exact logHw_keepsRegs _ _ _ _ x hx

theorem alarm_keepsRegs (d : Dev) (src : Nat) : d.keepsRegs (d.alarm src) alarmRegs := by
  rw [alarm_eq]
  exact keepsRegs_trans (keepsRegs_trans (alarmErase_keepsRegs _ _) (alarmMark_keepsRegs _ _ _))
    (keepsRegs_mono (alarmReport_keepsRegs _ _ _) (by decide))

theorem alarmErase_ks (d : Dev) (kp : Bool) : (d.alarmErase kp).keys.ks = none := by cases kp <;> rfl

theorem alarmErase_posted (d : Dev) (kp : Bool) : (d.alarmErase kp).posted = d.posted := by cases kp <;> rfl

theorem alarmReport_ks (d : Dev) (src : Nat) (kp : Bool) : (d.alarmReport src kp).keys.ks = d.keys.ks := by
  rw [alarmReport, secRecord, logHw_keys]
  rfl

theorem alarmReport_posted (d : Dev) (src : Nat) (kp : Bool) :
    (d.alarmReport src kp).posted = d.posted ++ [⟨7, 2, if kp then 3 else 2, BitVec.ofNat 32 src, false⟩] := logHw_posted _ _ _ _

theorem alarm_ks (d : Dev) (src : Nat) : (d.alarm src).keys.ks = none := by
  rw [alarm_eq, alarmReport_ks]
  exact alarmErase_ks _ _

/-- An alarm posts its L2 fault of class 7, with the code of its step. -/
theorem alarm_posts (d : Dev) (src : Nat) :
    d.posts (d.alarm src) [(7, 2, if d.alarmErasesKp src then 3 else 2, BitVec.ofNat 32 src)] := by
  rw [alarm_eq, posts, alarmReport_posted]
  exact congrArg (· ++ _) (alarmErase_posted _ _)

theorem alarm_astop (d : Dev) (src : Nat) : (d.alarm src).bit F.SEC_STAT_ASTOP = true := by
  rw [alarm_eq]
  generalize d.alarmErasesKp src = kp
  generalize d.alarmErase kp = e
  have hr : ((e.alarmMark src kp).alarmReport src kp).rd R.SEC_STAT = (e.putB F.SEC_STAT_ASTOP true).rd R.SEC_STAT :=
    calc ((e.alarmMark src kp).alarmReport src kp).rd R.SEC_STAT
      _ = (e.alarmMark src kp).rd R.SEC_STAT := alarmReport_keepsRegs _ _ _ _ (by decide)
      _ = (e.putB F.SEC_STAT_ASTOP true).rd R.SEC_STAT := by
        rw [alarmMark, rd_put_other _ _ _ (by decide), rd_count_other _ _ _ (by decide), rd_flagBits_other _ _ _ (by decide)]
  unfold bit
  rw [get_of_rd hr]
  exact bit_putB_same e F.SEC_STAT_ASTOP true (by decide) rfl

/-- An alarm stands in SEC_ALM.SRC at the bit of its source. -/
theorem alarm_src (d : Dev) {src : Nat} (h : src < 4) : (d.alarm src).bitAt F.SEC_ALM_SRC src = true := by
  rw [alarm_eq]
  generalize d.alarmErasesKp src = kp
  generalize d.alarmErase kp = e
  have hg : ((e.alarmMark src kp).alarmReport src kp).get F.SEC_ALM_SRC = (e.putB F.SEC_STAT_ASTOP true).get F.SEC_ALM_SRC ||| 2 ^ src % 2 ^ 4 :=
    calc ((e.alarmMark src kp).alarmReport src kp).get F.SEC_ALM_SRC
      _ = (e.alarmMark src kp).get F.SEC_ALM_SRC := get_of_rd (alarmReport_keepsRegs _ _ _ _ (by decide))
      _ = ((e.putB F.SEC_STAT_ASTOP true).flagBits F.SEC_ALM_SRC (2 ^ src)).get F.SEC_ALM_SRC := by
        rw [alarmMark, get_put_apart _ _ _ _ (by decide) (by decide), get_count_apart _ _ _ _ (by decide) (by decide)]
      _ = _ := get_flagBits_same _ _ _ (by decide)
  rw [bitAt, hg, Nat.testBit_or, Nat.testBit_mod_two_pow]
  simp [h]

/-- No register that may be locked is one that the alarm writes (R15, R681). -/
theorem not_mem_alarmRegs_of_locked {d : Dev} {a : Nat} (h : d.lockedReg a = true) : a ∉ alarmRegs := by
  intro hm
  have hf : d.lockedReg a = false := by
    simp only [alarmRegs, List.mem_cons, List.not_mem_nil, or_false] at hm
    rcases hm with rfl | rfl | rfl | rfl | rfl <;> rfl
  rw [hf] at h
  exact Bool.false_ne_true h

/-! ### Fields of registers that no meaning watches -/

theorem bit_eq_getLsbD (d : Dev) (a lo : Nat) : d.bit ⟨a, lo, 1⟩ = (d.rd a).getLsbD lo := by
  have h : d.bit ⟨a, lo, 1⟩ = (bitsOf (d.rd a).toNat lo 1).testBit 0 := (Nat.testBit_zero _).symm
  rw [h, testBit_bitsOf]
  rfl

/-- A write of fields changes the register file alone (R12). -/
theorem writeFields_eq_regs (d : Dev) (a : Nat) (w : Word) (locked : Bool) :
    d.writeFields a w locked = { d with regs := (d.writeFields a w locked).regs } := by
  unfold writeFields
  split <;> rfl

theorem writeFields_keepsRegs (d : Dev) (a : Nat) (w : Word) (locked : Bool) : d.keepsRegs (d.writeFields a w locked) [a] := by
  unfold writeFields
  split
  · exact d.keepsRegs_refl _
  · exact d.keepsRegs_wr _ (List.mem_singleton_self a)

/-- A write of a register whose only field is RW sets that field. -/
theorem writeFields_rw (d : Dev) {a lo width reset : Nat} (w : Word) (h : descAt a = some ⟨a, [], [⟨lo, width, .rw, reset⟩]⟩) :
    d.writeFields a w false = d.put ⟨a, lo, width⟩ (bitsOf w.toNat lo width) := by
  simp [writeFields, h, put]

theorem get_writeFields_rw (d : Dev) {a lo width reset : Nat} (w : Word) (h : descAt a = some ⟨a, [], [⟨lo, width, .rw, reset⟩]⟩)
    (hf : lo + width ≤ 32) : (d.writeFields a w false).get ⟨a, lo, width⟩ = bitsOf w.toNat lo width := by
  rw [writeFields_rw d w h, get_put_same _ _ _ hf]
  exact Nat.mod_eq_of_lt (bitsOf_lt _ _ _)

theorem descAt_timStat : descAt R.TIM_STAT =
    some ⟨R.TIM_STAT, [], [⟨4, 1, .w1c, 0⟩, ⟨3, 1, .w1c, 0⟩, ⟨2, 1, .w1c, 0⟩, ⟨1, 1, .w1c, 0⟩, ⟨0, 1, .ro, 0⟩]⟩ := by decide

/-- While hardware has set no bit in this cycle, a write of TIM_STAT clears the bits 1 to 4 that it names, and leaves the RO bit 0 (R13, R230). -/
theorem getLsbD_writeFields_timStat (d : Dev) (w : Word) (h : d.touch = []) {i : Nat} (hi : i < 5) :
    ((d.writeFields R.TIM_STAT w false).rd R.TIM_STAT).getLsbD i = ((d.rd R.TIM_STAT).getLsbD i && (i == 0 || !w.getLsbD i)) := by
  simp only [writeFields, descAt_timStat, h, List.find?_nil, Option.map_none, Option.getD_none, List.foldl_cons, List.foldl_nil, rd_wr_same]
  interval_cases i <;> simp

/-- No meaning watches a write of TIM_CMPIE; nor, of the next two, CONV_SWEEP at a member and TIM_STAT. -/
theorem writeReg_timCmpie (d : Dev) (who : By) (w : Word) : (d.writeReg who R.TIM_CMPIE w).2 = d.writeFields R.TIM_CMPIE w false :=
  d.writeReg_open who rfl rfl (by unfold inactive; split <;> rfl) rfl

theorem writeReg_convSweep (d : Dev) (who : By) (w : Word) (h : d.isHead = false) :
    (d.writeReg who R.CONV_SWEEP w).2 = d.writeFields R.CONV_SWEEP w false :=
  d.writeReg_open who rfl rfl (by simp only [inactive, h]; rfl) rfl

theorem writeReg_timStat (d : Dev) (who : By) (w : Word) : (d.writeReg who R.TIM_STAT w).2 = d.writeFields R.TIM_STAT w false :=
  d.writeReg_open who rfl rfl (by unfold inactive; split <;> rfl) rfl

/-- The CONV block is inactive at a head (R149). -/
theorem inactive_convSweep (d : Dev) (h : d.isHead = true) : d.inactive R.CONV_SWEEP = true := by
  simp only [inactive, h]
  rfl

end Dev

theorem claim_registerWritesTakeEffectOrAreIgnored : Claims.RegisterWritesTakeEffectOrAreIgnored := by
  intro s who a w hs ha d n
  refine ⟨fun hn => ⟨d.readReg_unimplemented hn, ?unimplemented⟩, ?plain, ?hearth, ?inactive, ?locked⟩
  case unimplemented => exact State.registerWrite_becomes hs ha (congrArg Prod.snd (d.writeReg_unimplemented who w hn))
  case plain =>
    rintro rfl hn
    exact State.registerWrite_becomes hs ha (d.writeReg_needsAuth hn)
  case hearth =>
    rintro rfl hn
    exact State.registerWrite_becomes hs ha (congrArg Prod.snd (d.writeReg_hearth_authOnly w hn))
  case inactive => exact fun hi => State.registerWrite_becomes hs ha (d.writeReg_inactive who w hi)
  case locked =>
    rintro hd rfl hi hl
    exact ⟨d.alarm 3, State.registerWrite_becomes hs ha (congrArg Prod.snd (d.writeReg_locked w hd hi hl)),
      d.alarm_keepsRegs 3 n (Dev.not_mem_alarmRegs_of_locked hl), d.alarm_src (by decide), d.alarm_ks 3, d.alarm_astop 3, _,
      d.alarm_posts 3⟩

theorem claim_plainWritesSetTheirFields : Claims.PlainWritesSetTheirFields := by
  intro s who w hs ht d
  refine ⟨?cmpie, fun hm => ?sweep, fun hh => ?sweepOfHead, ?stat⟩
  case cmpie =>
    exact ⟨d.writeFields R.TIM_CMPIE w false, State.registerWrite_becomes hs (by decide) (d.writeReg_timCmpie who w),
      d.get_writeFields_rw (a := R.TIM_CMPIE) (reset := 0) w (by decide) (by decide), d.writeFields_keepsRegs _ w _,
      d.writeFields_eq_regs _ w _⟩
  case sweep =>
    exact ⟨d.writeFields R.CONV_SWEEP w false, State.registerWrite_becomes hs (by decide) (d.writeReg_convSweep who w hm),
      d.get_writeFields_rw (a := R.CONV_SWEEP) (reset := 1) w (by decide) (by decide), d.writeFields_keepsRegs _ w _,
      d.writeFields_eq_regs _ w _⟩
  case sweepOfHead => exact State.registerWrite_becomes hs (by decide) (d.writeReg_inactive who w (d.inactive_convSweep hh))
  case stat =>
    have hbit {i : Nat} (hi : i < 5) : (d.writeFields R.TIM_STAT w false).bit ⟨R.TIM_STAT, i, 1⟩ =
        (d.bit ⟨R.TIM_STAT, i, 1⟩ && (i == 0 || !w.getLsbD i)) := by
      rw [Dev.bit_eq_getLsbD, Dev.bit_eq_getLsbD, d.getLsbD_writeFields_timStat w ht hi]
    exact ⟨d.writeFields R.TIM_STAT w false, State.registerWrite_becomes hs (by decide) (d.writeReg_timStat who w), hbit (by decide),
      hbit (by decide), hbit (by decide), hbit (by decide), (hbit (by decide)).trans (Bool.and_true _), d.writeFields_keepsRegs _ w _,
      d.writeFields_eq_regs _ w _⟩

/-- Settles O39: the branches of a register write, and the fields that a write without a meaning of its own sets and clears. -/
theorem registerWritesTakeEffectOrAreIgnored : Obligations.RegisterWritesTakeEffectOrAreIgnored :=
  ⟨claim_registerWritesTakeEffectOrAreIgnored, claim_plainWritesSetTheirFields⟩

end Sys2Proof.Machine
end

section
/-!
PROOF. Time registers, compare units and captures (R195, R196, R218 to R220, R223 to R227, R231, R390): what a read of a low word latches,
what arms and disarms a compare unit, and what a capture leaves in the units that select its source.
-/

namespace Sys2Proof

theorem length_upd {α : Type} (f : α → α) : ∀ (l : List α) (i : Nat), (upd l i f).length = l.length
  | [], _ => rfl
  | _ :: _, 0 => rfl
  | _ :: t, i + 1 => congrArg (· + 1) (length_upd f t i)

theorem nth_upd_same {α : Type} (f : α → α) (x : α) {l : List α} : ∀ {i : Nat}, i < l.length → nth (upd l i f) i x = f (nth l i x) := by
  induction l with
  | nil => exact fun h => absurd h (Nat.not_lt_zero _)
  | cons a t ih =>
    intro i h
    cases i with
    | zero => rfl
    | succ i => exact ih (Nat.lt_of_succ_lt_succ h)

theorem nth_upd_other {α : Type} (f : α → α) (x : α) : ∀ (l : List α) {i j : Nat}, j ≠ i → nth (upd l i f) j x = nth l j x
  | [], _, _, _ => rfl
  | _ :: _, 0, 0, h => absurd rfl h
  | _ :: _, 0, _ + 1, _ => rfl
  | _ :: _, _ + 1, 0, _ => rfl
  | _ :: t, _ + 1, _ + 1, h => nth_upd_other f x t (fun e => h (congrArg (· + 1) e))

/-- The word that starts at bit `k` of a counter. -/
theorem ofNat_toNat_div {w : Nat} (x : BitVec w) (k n : Nat) : BitVec.ofNat n (x.toNat / 2 ^ k) = (x >>> k).truncate n := by
  apply BitVec.eq_of_toNat_eq
  simp [Nat.shiftRight_eq_div_pow]

/-- A 48-bit value made of the low half of one word and of another word. -/
theorem ofNat_pair (hi lo : Word) : BitVec.ofNat 48 (hi.toNat % 65536 * 2 ^ 32 + lo.toNat) = (hi.truncate 16).append lo := by
  apply BitVec.eq_of_toNat_eq
  have ha : ((hi.truncate 16).append lo).toNat = (hi.toNat % 65536) <<< 32 ||| lo.toNat := by
    have h := BitVec.toNat_append (hi.truncate 16) lo
    rwa [BitVec.toNat_setWidth] at h
  rw [ha, ← Nat.shiftLeft_add_eq_or_of_lt lo.isLt, Nat.shiftLeft_eq, BitVec.toNat_ofNat]
  omega

end Sys2Proof

namespace Sys2Proof.Machine

namespace State

/-! ### The meanings of the commands of this part -/

section Exec
variable (s : State)

theorem exec_timebaseRead : exec .timebaseRead s = s.on (fun d => d.readTbl.2.emit (.value R.TIM_TBL d.readTbl.1)) := rfl

theorem exec_timebaseWrap : exec .timebaseWrap s = s.on Dev.timebaseWraps := rfl

theorem exec_phaseModelRead : exec .phaseModelRead s = s.on (fun d => d.readPmbl.2.emit (.value R.TIM_PMBL d.readPmbl.1)) := rfl

theorem exec_periodCountWrap : exec .periodCountWrap s = s.on Dev.countWraps := rfl

theorem exec_tokenRead : exec .tokenRead s = s.on (fun d => d.readTokl.2.emit (.value R.CHN_TOKL d.readTokl.1)) := rfl

theorem exec_timebaseCompareArm (n : Fin 4) (w : Word) : exec (.timebaseCompareArm n w) s = s.on (·.writeTcmph n w) := rfl

theorem exec_phaseCompareArm (n : Fin 4) (w : Word) : exec (.phaseCompareArm n w) s = s.on (·.writePcmp n w) := rfl

theorem exec_compareDisarm (mask : Byte) : exec (.compareDisarm mask) s = s.on (·.disarmUnits mask.toNat) := rfl

theorem exec_captureEvent (src : BitVec 3) (step : BitVec 5) :
    exec (.captureEvent src step) s = s.on (·.capture src.toNat step.toNat) := rfl

theorem exec_captureRead (u : Fin 4) :
    exec (.captureRead u) s = s.on (fun d => (d.readCapl u).2.emit (.value (R.TIM_CAPL u) (d.readCapl u).1)) := rfl

theorem exec_aux7ComparatorEdge (rising : Bool) (step : BitVec 5) : exec (.aux7ComparatorEdge rising step) s =
    s.on (fun d => if d.bit F.TIM_AUXCMP_EN then d.putB F.TIM_AUXCMP_STATE rising else d) := rfl

end Exec

/-- A command that acts on the device alone, in a state in which it acts. -/
theorem becomes_of_on {s : State} {c : Instr} {f : Dev → Dev} {d : Dev} (hs : s.awake = true) (he : exec c s = s.on f) (hd : f s.dev = d) :
    s.becomes c d := by
  rw [becomes, he, on_awake s f hs, hd]

theorem gives_of_on {s : State} {c : Instr} {f : Dev → Dev} {P : Dev → Prop} (hs : s.awake = true) (he : exec c s = s.on f)
    (hP : P (f s.dev)) : s.gives c P := ⟨f s.dev, becomes_of_on hs he rfl, hP⟩

end State

namespace Dev

/-! ### Bits of a field -/

theorem bitAt_eq_getLsbD (d : Dev) (f : Fld) (i : Nat) : d.bitAt f i = (decide (i < f.width) && (d.rd f.addr).getLsbD (f.lo + i)) :=
  testBit_bitsOf _ _ _ _

theorem bit_eq_bitAt (d : Dev) (f : Fld) : d.bit f = d.bitAt f 0 := (Nat.testBit_zero _).symm

theorem bitAt_of_rd {d t : Dev} {f : Fld} (h : t.rd f.addr = d.rd f.addr) (i : Nat) : t.bitAt f i = d.bitAt f i := by
  rw [bitAt, get_of_rd h, bitAt]

theorem bitAt_putAt (d : Dev) (f : Fld) {i : Nat} (b : Bool) (j : Nat) (hf : f.fits) (hi : i < f.width) :
    (d.putAt f i b).bitAt f j = if j = i then b else d.bitAt f j := by
  have hr : (d.putAt f i b).rd f.addr = putBits (d.rd f.addr) ⟨f.addr, f.lo + i, 1⟩ b.toNat := d.rd_put_same ⟨f.addr, f.lo + i, 1⟩ _
  have h1 : Fld.fits ⟨f.addr, f.lo + i, 1⟩ := by dsimp only [Fld.fits] at *; omega
  rw [bitAt_eq_getLsbD, bitAt_eq_getLsbD, hr, getLsbD_putBits _ _ _ _ h1]
  by_cases h : j = i
  · subst h
    cases b <;> simp [hi]
  · rw [if_neg h, if_neg (by dsimp only; omega)]

theorem get_putAt_apart (d : Dev) (f g : Fld) {i : Nat} (b : Bool) (hf : f.fits) (hi : i < f.width) (h : f.apart g) :
    (d.putAt f i b).get g = d.get g :=
  d.get_put_apart ⟨f.addr, f.lo + i, 1⟩ g _ (by dsimp only [Fld.fits] at *; omega) (by dsimp only [Fld.apart] at *; omega)

theorem keepsRegs_putAt (d : Dev) {f : Fld} (i : Nat) (b : Bool) {l : List Nat} (h : f.addr ∈ l) : d.keepsRegs (d.putAt f i b) l :=
  d.keepsRegs_wr _ h

/-- Hardware sets one bit of a field. -/
theorem bitAt_flagBits (d : Dev) (f : Fld) {i : Nat} (j : Nat) (hf : f.fits) (hi : i < f.width) :
    (d.flagBits f (2 ^ i)).bitAt f j = (d.bitAt f j || j == i) := by
  rw [bitAt, get_flagBits_same d f _ hf, Nat.testBit_or, Nat.mod_eq_of_lt (Nat.pow_lt_pow_right (by decide) hi), Nat.testBit_two_pow]
  rcases eq_or_ne j i with rfl | h
  · simp [bitAt]
  · simp [bitAt, h, h.symm]

theorem get_flagBits_apart (d : Dev) (f g : Fld) (v : Nat) (h : f.apart g) : (d.flagBits f v).get g = d.get g := by
  rcases Decidable.em (g.addr = f.addr) with ha | ha
  · apply Nat.eq_of_testBit_eq
    intro i
    have hr : (d.flagBits f v).rd f.addr = d.rd f.addr ||| BitVec.ofNat 32 ((v % 2 ^ f.width) <<< f.lo) := rd_wr_same d _ _
    change (d.flagBits f v).bitAt g i = d.bitAt g i
    rw [bitAt_eq_getLsbD, bitAt_eq_getLsbD, ha, hr, BitVec.getLsbD_or, BitVec.getLsbD_ofNat, Nat.testBit_shiftLeft, Nat.testBit_mod_two_pow]
    by_cases hi : i < g.width
    · have hout : ¬ (f.lo ≤ g.lo + i ∧ g.lo + i - f.lo < f.width) := by
        dsimp only [Fld.apart] at h
        omega
      have hz : (decide (f.lo ≤ g.lo + i) && decide (g.lo + i - f.lo < f.width)) = false := by simpa using hout
      rw [← Bool.and_assoc (decide (f.lo ≤ _)), hz, Bool.false_and, Bool.and_false, Bool.or_false]
    · simp [hi]
  · exact d.get_flagBits_other v ha

theorem bit_flag (d : Dev) (f : Fld) (hf : f.fits) (h1 : f.width = 1) : (d.flag f).bit f = true := by
  have h := d.bitAt_flagBits f (i := 0) 0 hf (by omega)
  rw [bit_eq_bitAt]
  exact h.trans (Bool.or_true _)

theorem keepsRegs_emit {d t : Dev} {l : List Nat} (o : Out) (h : d.keepsRegs t l) : d.keepsRegs (t.emit o) l := fun a ha => h a ha

/-! ### Reads that latch the rest of a value -/

theorem rd_readTbl (d : Dev) : d.readTbl.2.rd R.TIM_TBH = (d.tb >>> 32).truncate 32 :=
  (rd_wr_same d _ _).trans (ofNat_toNat_div d.tb 32 32)

theorem rd_readTokl (d : Dev) : d.readTokl.2.rd R.CHN_TOKH = (d.chain.token >>> 32).truncate 32 :=
  (rd_wr_same d _ _).trans (ofNat_toNat_div d.chain.token 32 32)

theorem inactive_timTbh (d : Dev) : d.inactive R.TIM_TBH = false := by
  unfold inactive
  split <;> rfl

/-- A read of TIM_TBH returns the shadow and leaves it (R196). -/
theorem readReg_timTbh (d : Dev) : d.readReg R.TIM_TBH = (d.rd R.TIM_TBH, d.wr R.TIM_TBH (d.rd R.TIM_TBH)) := by
  have hp : d.readReg R.TIM_TBH = d.readPlain R.TIM_TBH := by
    simp only [readReg, inactive_timTbh]
    rfl
  have hv : d.viewReg R.TIM_TBH = d.rd R.TIM_TBH := by
    simp only [viewReg, inactive_timTbh]
    rfl
  have hm : rcMask R.TIM_TBH = 0#32 := by decide
  have hf : d.readFields R.TIM_TBH = (d.rd R.TIM_TBH, d.wr R.TIM_TBH (d.rd R.TIM_TBH)) := rfl
  have ho : ~~~0#32 = BitVec.allOnes 32 := rfl
  rw [hp, readPlain, hv, hm, hf, ho, BitVec.and_allOnes, BitVec.and_zero, BitVec.or_zero]

/-- The registers that a read of TIM_PMBL latches (R231). -/
def modelRegs : List Nat := [R.TIM_PMBH, R.TIM_PMPC, R.TIM_PINC]

/-- The device with the three latched words of a phase model. -/
def latchModel (d : Dev) (high pc pinc : Word) : Dev := ((d.wr R.TIM_PMBH high).wr R.TIM_PMPC pc).wr R.TIM_PINC pinc

theorem readPmbl_none (d : Dev) (h : d.tim.model = none) : d.readPmbl = (0, d.latchModel 0 0 0) := by
  simp only [readPmbl, h]
  rfl

theorem readPmbl_some (d : Dev) {m : PhaseModel} (h : d.tim.model = some m) : d.readPmbl =
    (BitVec.ofNat 32 (m.tb / 32),
      d.latchModel (BitVec.ofNat 32 (m.tb % 32 * 65536 + m.tb / 32 / 2 ^ 32)) (BitVec.ofNat 32 m.pc.toNat) m.pinc) := by
  simp only [readPmbl, h]
  rfl

theorem rd_latchModel_pmbh (d : Dev) (high pc pinc : Word) : (d.latchModel high pc pinc).rd R.TIM_PMBH = high := by
  rw [latchModel, rd_wr_other _ _ (by decide), rd_wr_other _ _ (by decide), rd_wr_same]

theorem rd_latchModel_pmpc (d : Dev) (high pc pinc : Word) : (d.latchModel high pc pinc).rd R.TIM_PMPC = pc := by
  rw [latchModel, rd_wr_other _ _ (by decide), rd_wr_same]

theorem rd_latchModel_pinc (d : Dev) (high pc pinc : Word) : (d.latchModel high pc pinc).rd R.TIM_PINC = pinc := rd_wr_same _ _ _

theorem latchModel_keepsRegs (d : Dev) (high pc pinc : Word) : d.keepsRegs (d.latchModel high pc pinc) modelRegs :=
  keepsRegs_trans (keepsRegs_trans (d.keepsRegs_wr _ (by decide)) (keepsRegs_wr _ _ (by decide))) (keepsRegs_wr _ _ (by decide))

/-- FINE and TBH of TIM_PMBH hold the steps and the high ticks of a boundary in 1/32 ticks (R209, R231). -/
theorem bitsOf_modelHigh {tb : Nat} (h : tb < 2 ^ 53) :
    bitsOf (BitVec.ofNat 32 (tb % 32 * 65536 + tb / 32 / 2 ^ 32)).toNat 16 5 = tb % 32 ∧
      bitsOf (BitVec.ofNat 32 (tb % 32 * 65536 + tb / 32 / 2 ^ 32)).toNat 0 16 = tb / 2 ^ 37 % 65536 := by
  have hd : tb / 2 ^ 37 = tb / 32 / 2 ^ 32 := (Nat.div_div_eq_div_mul tb 32 (2 ^ 32)).symm
  have hh : tb / 32 / 2 ^ 32 < 65536 := by omega
  have hs : tb % 32 < 32 := Nat.mod_lt _ (by decide)
  rw [hd]
  generalize tb / 32 / 2 ^ 32 = high at hh ⊢
  generalize tb % 32 = fine at hs ⊢
  simp only [bitsOf, BitVec.toNat_ofNat, Nat.shiftRight_eq_div_pow]
  omega

/-! ### Wraps -/

theorem bit_timebaseWraps (d : Dev) : d.timebaseWraps.bit F.TIM_STAT_TBWRAP = (d.bit F.TIM_STAT_TBWRAP || d.tb == BitVec.allOnes 48) := by
  unfold timebaseWraps
  split
  next h =>
    rw [h, beq_self_eq_true, Bool.or_true]
    exact d.bit_flag _ (by decide) rfl
  next h => rw [beq_false_of_ne h, Bool.or_false]

theorem timebaseWraps_tb (d : Dev) : d.timebaseWraps.tb = d.tb := by
  unfold timebaseWraps
  split <;> rfl

theorem timebaseWraps_keepsRegs (d : Dev) : d.keepsRegs d.timebaseWraps [R.TIM_STAT] := by
  unfold timebaseWraps
  split
  · exact d.keepsRegs_flagBits _ (by decide)
  · exact d.keepsRegs_refl _

theorem countWraps_none (d : Dev) (h : d.tim.model = none) : d.countWraps = d := by simp only [countWraps, h]

/-- The count of a phase is 65535 or 0: the phase stands in the last or the first unit of its range (R208). -/
theorem phaseCount_eq_last_iff (w : Word) : w.toNat / 65536 = 65535 ↔ w ≥ 0xFFFF0000 := by
  rw [ge_iff_le, BitVec.le_def, show (0xFFFF0000 : Word).toNat = 0xFFFF0000 from rfl]
  omega

theorem phaseCount_eq_first_iff (w : Word) : w.toNat / 65536 = 0 ↔ w < 0x10000 := by
  rw [BitVec.lt_def, show (0x10000 : Word).toNat = 0x10000 from rfl]
  omega

theorem countWraps_some (d : Dev) {m : PhaseModel} (h : d.tim.model = some m) : d.countWraps =
    if m.phaseAt (d.now * 32) ≥ 0xFFFF0000 ∧ m.phaseAt ((d.now + 1) * 32) < 0x10000 then d.flag F.TIM_PHSTAT_PWRAP else d := by
  simp only [countWraps, h, Bool.and_eq_true, decide_eq_true_eq, phaseCount_eq_last_iff, phaseCount_eq_first_iff]

theorem bit_countWraps (d : Dev) {m : PhaseModel} (h : d.tim.model = some m) : d.countWraps.bit F.TIM_PHSTAT_PWRAP =
    (d.bit F.TIM_PHSTAT_PWRAP ||
      (decide (m.phaseAt (d.now * 32) ≥ 0xFFFF0000) && decide (m.phaseAt ((d.now + 1) * 32) < 0x10000))) := by
  rw [countWraps_some d h, ← Bool.decide_and]
  split
  next hw =>
    rw [decide_eq_true hw, Bool.or_true]
    exact d.bit_flag _ (by decide) rfl
  next hw => rw [decide_eq_false hw, Bool.or_false]

theorem countWraps_keepsRegs (d : Dev) : d.keepsRegs d.countWraps [R.TIM_PHSTAT] := by
  cases h : d.tim.model with
  | none => rw [countWraps_none d h]; exact d.keepsRegs_refl _
  | some m =>
    rw [countWraps_some d h]
    split
    · exact d.keepsRegs_flagBits _ (by decide)
    · exact d.keepsRegs_refl _

/-! ### Compare units -/

theorem bitAt_armUnit (d : Dev) {u : Nat} (v : Nat) (hu : u < 8) :
    (d.armUnit u).bitAt F.TIM_CMPSTAT_ARMED v = (d.bitAt F.TIM_CMPSTAT_ARMED v || v == u) := by
  have h : (d.armUnit u).bitAt F.TIM_CMPSTAT_ARMED v = if v = u then true else d.bitAt F.TIM_CMPSTAT_ARMED v :=
    d.bitAt_putAt F.TIM_CMPSTAT_ARMED true v (by decide) hu
  rw [h]
  split <;> simp [*]

theorem get_armUnit_fired (d : Dev) {u : Nat} (hu : u < 8) : (d.armUnit u).get F.TIM_CMPSTAT_FIRED = d.get F.TIM_CMPSTAT_FIRED :=
  d.get_putAt_apart F.TIM_CMPSTAT_ARMED F.TIM_CMPSTAT_FIRED true (by decide) hu (by decide)

theorem armUnit_keepsRegs (d : Dev) (u : Nat) : d.keepsRegs (d.armUnit u) [R.TIM_CMPSTAT] :=
  fun a ha => d.keepsRegs_putAt (f := F.TIM_CMPSTAT_ARMED) u true (by decide) a ha

theorem writeFields_tim (d : Dev) (a : Nat) (w : Word) (locked : Bool) : (d.writeFields a w locked).tim = d.tim := by
  rw [writeFields_eq_regs]

/-- The device before the unit arms: TIM_TCMPH is written, and the value is made of both words (R219). -/
def commitTcmp (d : Dev) (n : Nat) (w : Word) : Dev :=
  { d.writeFields (R.TIM_TCMPH n) w false with
    tim := { d.tim with tcmp := upd d.tim.tcmp n (fun _ => (w.truncate 16).append (nth d.tim.tcmpLow n 0)) } }

theorem writeTcmph_eq (d : Dev) (n : Nat) (w : Word) : d.writeTcmph n w = (d.commitTcmp n w).armUnit n := by
  simp only [writeTcmph, commitTcmp, writeFields_tim, ofNat_pair]

theorem commitTcmp_keepsRegs (d : Dev) (n : Nat) (w : Word) : d.keepsRegs (d.commitTcmp n w) [R.TIM_TCMPH n] :=
  fun a ha => d.writeFields_keepsRegs (R.TIM_TCMPH n) w false a ha

theorem rd_writePcmp (d : Dev) {n : Nat} (w : Word) (h : R.TIM_PCMP n ≠ R.TIM_CMPSTAT) : (d.writePcmp n w).rd (R.TIM_PCMP n) = w :=
  (armUnit_keepsRegs _ _ _ (by simpa using h)).trans (rd_wr_same d _ _)

/-- One unit of a write to TIM_CMPCTL.DIS. -/
def disarmUnit (mask : Nat) (d : Dev) (u : Nat) : Dev := if mask.testBit u then d.putAt F.TIM_CMPSTAT_ARMED u false else d

theorem bitAt_disarmUnit (mask : Nat) (d : Dev) {u : Nat} (v : Nat) (hu : u < 8) :
    (d.disarmUnit mask u).bitAt F.TIM_CMPSTAT_ARMED v = (d.bitAt F.TIM_CMPSTAT_ARMED v && !(v == u && mask.testBit v)) := by
  unfold disarmUnit
  split
  next hm =>
    rw [bitAt_putAt _ _ _ _ (by decide) hu]
    split
    next h => subst h; simp [hm]
    next h => simp [h]
  next hm =>
    by_cases h : v = u
    · subst h; simp [hm]
    · simp [h]

theorem get_disarmUnit_fired (mask : Nat) (d : Dev) {u : Nat} (hu : u < 8) :
    (d.disarmUnit mask u).get F.TIM_CMPSTAT_FIRED = d.get F.TIM_CMPSTAT_FIRED := by
  unfold disarmUnit
  split
  · exact d.get_putAt_apart F.TIM_CMPSTAT_ARMED F.TIM_CMPSTAT_FIRED false (by decide) hu (by decide)
  · rfl

theorem disarmUnit_tim (mask : Nat) (d : Dev) (u : Nat) : (d.disarmUnit mask u).tim = d.tim := by
  unfold disarmUnit
  split <;> rfl

theorem disarmUnit_keepsRegs (mask : Nat) (d : Dev) (u : Nat) : d.keepsRegs (d.disarmUnit mask u) [R.TIM_CMPSTAT] := by
  unfold disarmUnit
  split
  · exact d.keepsRegs_putAt _ _ (by decide)
  · exact d.keepsRegs_refl _

theorem disarmUnits_eq (d : Dev) (mask : Nat) : d.disarmUnits mask = (List.range 8).foldl (disarmUnit mask) d := rfl

/-- Of the units of a list, those of the mask leave ARMED; nothing else moves (R223). -/
theorem foldl_disarmUnit (mask : Nat) (l : List Nat) : ∀ d : Dev, (∀ u ∈ l, u < 8) →
    (∀ v, (l.foldl (disarmUnit mask) d).bitAt F.TIM_CMPSTAT_ARMED v =
      (d.bitAt F.TIM_CMPSTAT_ARMED v && !(decide (v ∈ l) && mask.testBit v))) ∧
    (l.foldl (disarmUnit mask) d).get F.TIM_CMPSTAT_FIRED = d.get F.TIM_CMPSTAT_FIRED ∧
    (l.foldl (disarmUnit mask) d).tim = d.tim ∧ d.keepsRegs (l.foldl (disarmUnit mask) d) [R.TIM_CMPSTAT] := by
  induction l with
  | nil => exact fun d _ => ⟨fun v => by simp, rfl, rfl, d.keepsRegs_refl _⟩
  | cons u t ih =>
    intro d hl
    have hu : u < 8 := hl u List.mem_cons_self
    obtain ⟨harmed, hfired, htim, hregs⟩ := ih (d.disarmUnit mask u) (fun x hx => hl x (List.mem_cons_of_mem u hx))
    refine ⟨fun v => ?_, hfired.trans (get_disarmUnit_fired mask d hu), htim.trans (disarmUnit_tim mask d u),
      keepsRegs_trans (disarmUnit_keepsRegs mask d u) hregs⟩
    rw [List.foldl_cons, harmed v, bitAt_disarmUnit mask d v hu]
    by_cases h : v = u
    · subst h
      cases mask.testBit v <;> simp
    · simp [h, beq_false_of_ne h]

/-! ### Captures -/

/-- The time in the words of a capture unit (R225): TIM_CAPL, and the high word that a read of it latches. -/
def captureWords (d : Dev) (t u : Nat) : Dev :=
  let d := d.wr (R.TIM_CAPL u) (BitVec.ofNat 32 (t / 32))
  { d with tim := { d.tim with capH := upd d.tim.capH u (fun _ => BitVec.ofNat 32 (t % 32 * 65536 + t / 2 ^ 37)) } }

/-- The flag of a capture: OVR where the unit was full, else FULL (R225). -/
def captureFlag (d : Dev) (full : Bool) (u : Nat) : Dev :=
  if full then d.flagBits F.TIM_CAPSTAT_OVR (2 ^ u) else d.putAt F.TIM_CAPSTAT_FULL u true

/-- A unit takes the time `t`. -/
def recordCapture (d : Dev) (t u : Nat) : Dev := ((d.captureWords t u).captureFlag (d.bitAt F.TIM_CAPSTAT_FULL u) u).irq 7

/-- A unit takes the time `t` where it selects the source. -/
def captureUnit (src t : Nat) (d : Dev) (u : Nat) : Dev := if d.get (F.TIM_CAPCFG_SRC u) != src then d else d.recordCapture t u

/-- The corrected time of a capture (R224). -/
def captureTime (d : Dev) (src step : Nat) : Nat := (d.now * 32 + step + 2 ^ 53 - captureDelay src) % 2 ^ 53

theorem capture_eq (d : Dev) (src step : Nat) : d.capture src step =
    if ((src = 1 || src = 2) && !d.isHead) = true then d
    else if (src = 0 || src = 7) = true then d
    else (List.range 4).foldl (captureUnit src (d.captureTime src step)) d := rfl

theorem capture_source (d : Dev) {src : Nat} (step : Nat) (hp : src = 1 ∨ src = 2 → d.isHead = true) (h0 : src ≠ 0) (h7 : src ≠ 7) :
    d.capture src step = (List.range 4).foldl (captureUnit src (d.captureTime src step)) d := by
  have hm : ¬ (((src = 1 || src = 2) && !d.isHead) = true) := by simpa using hp
  have hs : ¬ ((src = 0 || src = 7) = true) := by simp [h0, h7]
  rw [capture_eq, if_neg hm, if_neg hs]

/-- A source that fires nowhere: PHSYNC on a member, and the codes without a source (R224). -/
theorem capture_phsync_member (d : Dev) {src : Nat} (step : Nat) (hp : src = 1 ∨ src = 2) (hm : d.isHead = false) :
    d.capture src step = d := by
  rw [capture_eq, if_pos (by simpa [hm] using hp)]

theorem capture_noSource (d : Dev) {src : Nat} (step : Nat) (h : src = 0 ∨ src = 7) : d.capture src step = d := by
  rw [capture_eq, if_pos (c := (decide (src = 0) || decide (src = 7)) = true) (by simpa using h), ite_self]

section Flag
variable (d : Dev) {full : Bool} {u : Nat}

theorem captureFlag_tim : (d.captureFlag full u).tim = d.tim := by
  unfold captureFlag
  split <;> rfl

theorem captureFlag_keepsRegs : d.keepsRegs (d.captureFlag full u) [R.TIM_CAPSTAT] := by
  unfold captureFlag
  split
  · exact d.keepsRegs_flagBits _ (by decide)
  · exact d.keepsRegs_putAt _ _ (by decide)

theorem bitAt_captureFlag_full (hu : u < 4) (hf : d.bitAt F.TIM_CAPSTAT_FULL u = full) (v : Nat) :
    (d.captureFlag full u).bitAt F.TIM_CAPSTAT_FULL v = (d.bitAt F.TIM_CAPSTAT_FULL v || v == u) := by
  unfold captureFlag
  cases full with
  | true =>
    have hk : (d.flagBits F.TIM_CAPSTAT_OVR (2 ^ u)).bitAt F.TIM_CAPSTAT_FULL v = d.bitAt F.TIM_CAPSTAT_FULL v :=
      congrArg (·.testBit v) (d.get_flagBits_apart F.TIM_CAPSTAT_OVR F.TIM_CAPSTAT_FULL _ (by decide))
    by_cases h : v = u
    · subst h; simp [hk, hf]
    · simp [hk, h]
  | false =>
    rw [if_neg Bool.false_ne_true, bitAt_putAt _ _ _ _ (by decide) hu]
    by_cases h : v = u <;> simp [h]

theorem bitAt_captureFlag_ovr (hu : u < 4) (v : Nat) :
    (d.captureFlag full u).bitAt F.TIM_CAPSTAT_OVR v = (d.bitAt F.TIM_CAPSTAT_OVR v || (full && v == u)) := by
  unfold captureFlag
  cases full with
  | true => exact d.bitAt_flagBits _ v (by decide) hu
  | false =>
    rw [Bool.false_and, Bool.or_false]
    exact congrArg (·.testBit v) (d.get_putAt_apart F.TIM_CAPSTAT_FULL F.TIM_CAPSTAT_OVR true (by decide) hu (by decide))

end Flag

theorem timCapl_ne_capstat (u : Nat) : R.TIM_CAPL u ≠ R.TIM_CAPSTAT := by
  unfold R.TIM_CAPL R.TIM_CAPSTAT
  omega

theorem timCapl_ne_seqIp (u : Nat) : R.TIM_CAPL u ≠ R.SEQ_IP := by
  unfold R.TIM_CAPL R.SEQ_IP
  omega

theorem timCaph_ne_capstat (u : Nat) : R.TIM_CAPH u ≠ R.TIM_CAPSTAT := by
  unfold R.TIM_CAPH R.TIM_CAPSTAT
  omega

/-- The registers that a capture of unit `u` writes. -/
def captureRegs (u : Nat) : List Nat := [R.TIM_CAPL u, R.TIM_CAPSTAT, R.SEQ_IP]

section Record
variable (d : Dev) (t : Nat) {u : Nat}

theorem captureWords_keepsRegs : d.keepsRegs (d.captureWords t u) [R.TIM_CAPL u] :=
  fun a ha => d.keepsRegs_wr _ (List.mem_singleton_self _) a ha

theorem recordCapture_keepsRegs : d.keepsRegs (d.recordCapture t u) (captureRegs u) := by
  have hw : d.keepsRegs (d.captureWords t u) (captureRegs u) := keepsRegs_mono (d.captureWords_keepsRegs t) (by simp [captureRegs])
  have hf (e : Dev) (full : Bool) : e.keepsRegs (e.captureFlag full u) (captureRegs u) :=
    keepsRegs_mono e.captureFlag_keepsRegs (by simp [captureRegs])
  exact keepsRegs_trans (keepsRegs_trans hw (hf _ _)) (keepsRegs_flagBits _ _ (by simp [captureRegs, F.SEQ_IP_IP, R.SEQ_IP]))

theorem recordCapture_capH : (d.recordCapture t u).tim.capH =
    upd d.tim.capH u (fun _ => BitVec.ofNat 32 (t % 32 * 65536 + t / 2 ^ 37)) := by
  rw [recordCapture, irq_tim, captureFlag_tim]
  rfl

theorem bitAt_recordCapture_line : (d.recordCapture t u).bitAt F.SEQ_IP_IP 7 = true :=
  (bitAt_flagBits _ F.SEQ_IP_IP 7 (by decide) (by decide)).trans (Bool.or_true _)

theorem rd_recordCapture_capl : (d.recordCapture t u).rd (R.TIM_CAPL u) = BitVec.ofNat 32 (t / 32) :=
  calc (d.recordCapture t u).rd (R.TIM_CAPL u)
    _ = ((d.captureWords t u).captureFlag (d.bitAt F.TIM_CAPSTAT_FULL u) u).rd (R.TIM_CAPL u) :=
      rd_flagBits_other _ _ _ (timCapl_ne_seqIp u)
    _ = (d.captureWords t u).rd (R.TIM_CAPL u) := captureFlag_keepsRegs _ _ (by simpa using timCapl_ne_capstat u)
    _ = _ := rd_wr_same d _ _

theorem bitAt_captureWords {f : Fld} (hf : f.addr = R.TIM_CAPSTAT) (v : Nat) : (d.captureWords t u).bitAt f v = d.bitAt f v :=
  bitAt_of_rd (d.captureWords_keepsRegs t _ (by simpa [hf] using (timCapl_ne_capstat u).symm)) v

variable (hu : u < 4)
include hu

theorem bitAt_recordCapture_full (v : Nat) :
    (d.recordCapture t u).bitAt F.TIM_CAPSTAT_FULL v = (d.bitAt F.TIM_CAPSTAT_FULL v || v == u) := by
  have hl : (d.recordCapture t u).bitAt F.TIM_CAPSTAT_FULL v =
      ((d.captureWords t u).captureFlag (d.bitAt F.TIM_CAPSTAT_FULL u) u).bitAt F.TIM_CAPSTAT_FULL v :=
    bitAt_of_rd (rd_flagBits_other _ _ _ (by decide)) v
  rw [hl, bitAt_captureFlag_full _ hu (d.bitAt_captureWords t rfl u), d.bitAt_captureWords t rfl]

theorem bitAt_recordCapture_ovr (v : Nat) : (d.recordCapture t u).bitAt F.TIM_CAPSTAT_OVR v =
    (d.bitAt F.TIM_CAPSTAT_OVR v || (d.bitAt F.TIM_CAPSTAT_FULL u && v == u)) := by
  have hl : (d.recordCapture t u).bitAt F.TIM_CAPSTAT_OVR v =
      ((d.captureWords t u).captureFlag (d.bitAt F.TIM_CAPSTAT_FULL u) u).bitAt F.TIM_CAPSTAT_OVR v :=
    bitAt_of_rd (rd_flagBits_other _ _ _ (by decide)) v
  rw [hl, bitAt_captureFlag_ovr _ hu, d.bitAt_captureWords t rfl]

end Record

/-- What a capture by other units leaves of unit `v`; line 7 may only be set. -/
def SameCapture (v : Nat) (d t : Dev) : Prop :=
  t.get (F.TIM_CAPCFG_SRC v) = d.get (F.TIM_CAPCFG_SRC v) ∧ t.rd (R.TIM_CAPL v) = d.rd (R.TIM_CAPL v) ∧
    nth t.tim.capH v 0 = nth d.tim.capH v 0 ∧ t.tim.capH.length = d.tim.capH.length ∧
    t.bitAt F.TIM_CAPSTAT_FULL v = d.bitAt F.TIM_CAPSTAT_FULL v ∧ t.bitAt F.TIM_CAPSTAT_OVR v = d.bitAt F.TIM_CAPSTAT_OVR v ∧
    (d.bitAt F.SEQ_IP_IP 7 = true → t.bitAt F.SEQ_IP_IP 7 = true)

theorem sameCapture_refl (v : Nat) (d : Dev) : SameCapture v d d := ⟨rfl, rfl, rfl, rfl, rfl, rfl, id⟩

theorem sameCapture_trans {v : Nat} {a b c : Dev} (h : SameCapture v a b) (k : SameCapture v b c) : SameCapture v a c := by
  obtain ⟨hsrc, hcapl, hhigh, hlen, hfull, hovr, hline⟩ := h
  obtain ⟨ksrc, kcapl, khigh, klen, kfull, kovr, kline⟩ := k
  exact ⟨ksrc.trans hsrc, kcapl.trans hcapl, khigh.trans hhigh, klen.trans hlen, kfull.trans hfull, kovr.trans hovr, kline ∘ hline⟩

theorem sameCapture_captureUnit (d : Dev) (src t : Nat) {u v : Nat} (hu : u < 4) (hv : v < 4) (h : v ≠ u) :
    SameCapture v d (d.captureUnit src t u) := by
  unfold captureUnit
  split
  · exact sameCapture_refl v d
  · have hr : d.keepsRegs (d.recordCapture t u) (captureRegs u) := d.recordCapture_keepsRegs t
    refine ⟨get_of_rd (hr _ ?_), hr _ ?_, ?_, ?_, ?_, ?_, fun _ => d.bitAt_recordCapture_line t⟩
    · simp only [captureRegs, F.TIM_CAPCFG_SRC, R.TIM_CAPL, R.TIM_CAPSTAT, R.SEQ_IP, List.mem_cons, List.not_mem_nil, or_false]
      omega
    · simp only [captureRegs, R.TIM_CAPL, R.TIM_CAPSTAT, R.SEQ_IP, List.mem_cons, List.not_mem_nil, or_false]
      omega
    · rw [recordCapture_capH, nth_upd_other _ _ _ h]
    · rw [recordCapture_capH, length_upd]
    · rw [bitAt_recordCapture_full d t hu, beq_false_of_ne h, Bool.or_false]
    · rw [bitAt_recordCapture_ovr d t hu, beq_false_of_ne h, Bool.and_false, Bool.or_false]

theorem sameCapture_foldl (src t : Nat) {v : Nat} (hv : v < 4) (l : List Nat) : ∀ d : Dev, (∀ u ∈ l, u < 4 ∧ v ≠ u) →
    SameCapture v d (l.foldl (captureUnit src t) d) := by
  induction l with
  | nil => exact fun d _ => sameCapture_refl v d
  | cons u r ih =>
    intro d h
    obtain ⟨hu, hne⟩ := h u List.mem_cons_self
    exact sameCapture_trans (d.sameCapture_captureUnit src t hu hv hne) (ih _ (fun x hx => h x (List.mem_cons_of_mem u hx)))

/-- What unit `u` holds after it has taken the time `t` on the device `d` (R225). -/
def Captured (d e : Dev) (t u : Nat) : Prop :=
  e.rd (R.TIM_CAPL u) = BitVec.ofNat 32 (t / 32) ∧ nth e.tim.capH u 0 = BitVec.ofNat 32 (t % 32 * 65536 + t / 2 ^ 37) ∧
    e.bitAt F.TIM_CAPSTAT_FULL u = true ∧
    e.bitAt F.TIM_CAPSTAT_OVR u = (d.bitAt F.TIM_CAPSTAT_OVR u || d.bitAt F.TIM_CAPSTAT_FULL u) ∧ e.bitAt F.SEQ_IP_IP 7 = true

theorem captured_recordCapture (d : Dev) (t : Nat) {u : Nat} (hu : u < 4) (hl : d.tim.capH.length = 4) :
    Captured d (d.recordCapture t u) t u := by
  refine ⟨d.rd_recordCapture_capl t, ?high, ?full, ?ovr, d.bitAt_recordCapture_line t⟩
  case high => rw [recordCapture_capH, nth_upd_same _ _ (hu.trans_eq hl.symm)]
  case full => rw [bitAt_recordCapture_full d t hu, beq_self_eq_true, Bool.or_true]
  case ovr => rw [bitAt_recordCapture_ovr d t hu, beq_self_eq_true, Bool.and_true]

/-- The other units, before and after, leave what a unit has taken. -/
theorem captured_of_same {a b c e : Dev} {t u : Nat} (h : SameCapture u a b) (hc : Captured b c t u) (k : SameCapture u c e) :
    Captured a e t u := by
  obtain ⟨-, -, -, -, hfull, hovr, -⟩ := h
  obtain ⟨-, kcapl, khigh, -, kfull, kovr, kline⟩ := k
  obtain ⟨capl, high, full, ovr, line⟩ := hc
  exact ⟨kcapl.trans capl, khigh.trans high, kfull.trans full, by rw [kovr, ovr, hovr, hfull], kline line⟩

/-- The units before and after a unit. -/
theorem range_four_split (u : Fin 4) : List.range 4 = List.range u ++ u.val :: List.range' (u + 1) (3 - u) := by
  decide +revert

/-- A unit that selects the source takes the corrected time (R225). -/
theorem captured_capture (d : Dev) {src : Nat} (step : Nat) (u : Fin 4) (hp : src = 1 ∨ src = 2 → d.isHead = true) (h0 : src ≠ 0)
    (h7 : src ≠ 7) (hs : d.get (F.TIM_CAPCFG_SRC u) = src) (hl : d.tim.capH.length = 4) :
    Captured d (d.capture src step) (d.captureTime src step) u := by
  rw [d.capture_source step hp h0 h7, range_four_split u, List.foldl_append, List.foldl_cons]
  generalize d.captureTime src step = t
  have hbefore : SameCapture u d ((List.range u).foldl (captureUnit src t) d) :=
    sameCapture_foldl src t u.isLt _ d (fun x hx => by rw [List.mem_range] at hx; omega)
  generalize (List.range u).foldl (captureUnit src t) d = b at hbefore ⊢
  obtain ⟨hsrc, -, -, hlen, -⟩ := id hbefore
  have hc : b.captureUnit src t u = b.recordCapture t u := by simp [captureUnit, hsrc, hs]
  have hafter := sameCapture_foldl src t u.isLt (List.range' (u + 1) (3 - u)) (b.recordCapture t u)
    (fun x hx => by rw [List.mem_range'_1] at hx; omega)
  rw [hc]
  exact captured_of_same hbefore (b.captured_recordCapture t u.isLt (hlen.trans hl)) hafter

/-! ### A read of TIM_CAPL (R225) -/

theorem rd_readCapl_caph (d : Dev) (u : Nat) : (d.readCapl u).2.rd (R.TIM_CAPH u) = nth d.tim.capH u 0 :=
  (rd_put_other _ _ _ (timCaph_ne_capstat u)).trans (rd_wr_same d _ _)

theorem bitAt_readCapl_full (d : Dev) {u : Nat} (hu : u < 4) : (d.readCapl u).2.bitAt F.TIM_CAPSTAT_FULL u = false :=
  (bitAt_putAt _ F.TIM_CAPSTAT_FULL false u (by decide) hu).trans (if_pos rfl)

theorem get_readCapl_ovr (d : Dev) {u : Nat} (hu : u < 4) : (d.readCapl u).2.get F.TIM_CAPSTAT_OVR = d.get F.TIM_CAPSTAT_OVR :=
  (get_putAt_apart _ F.TIM_CAPSTAT_FULL F.TIM_CAPSTAT_OVR false (by decide) hu (by decide)).trans
    (get_of_rd (rd_wr_other d _ (timCaph_ne_capstat u).symm))

theorem readCapl_keepsRegs (d : Dev) (u : Nat) : d.keepsRegs (d.readCapl u).2 [R.TIM_CAPH u, R.TIM_CAPSTAT] :=
  keepsRegs_trans (d.keepsRegs_wr _ List.mem_cons_self) (keepsRegs_putAt _ _ _ (by simp [F.TIM_CAPSTAT_FULL, R.TIM_CAPSTAT]))

end Dev

theorem claim_timeReadsLatchTheirPairs : Claims.TimeReadsLatchTheirPairs := by
  intro s m hs d
  refine ⟨State.gives_of_on hs s.exec_timebaseRead ?tbl, ?tbh, ?tbhStays, State.gives_of_on hs s.exec_timebaseWrap ?wrap,
    fun hm => State.gives_of_on hs s.exec_phaseModelRead ?noModel, fun hm ht => State.gives_of_on hs s.exec_phaseModelRead ?model,
    fun hm => State.becomes_of_on hs s.exec_periodCountWrap (d.countWraps_none hm),
    fun hm => State.gives_of_on hs s.exec_periodCountWrap ?count, State.gives_of_on hs s.exec_tokenRead ?token⟩
  case tbl => exact ⟨rfl, d.rd_readTbl, Dev.keepsRegs_emit _ (d.keepsRegs_wr _ (by decide))⟩
  case tbh => rw [Dev.readReg_timTbh]
  case tbhStays => rw [Dev.readReg_timTbh, Dev.rd_wr_same]
  case wrap => exact ⟨d.bit_timebaseWraps, d.timebaseWraps_tb, d.timebaseWraps_keepsRegs⟩
  case noModel =>
    rw [d.readPmbl_none hm]
    exact ⟨rfl, d.rd_latchModel_pmbh 0 0 0, d.rd_latchModel_pmpc 0 0 0, d.rd_latchModel_pinc 0 0 0,
      Dev.keepsRegs_emit _ (d.latchModel_keepsRegs _ _ _)⟩
  case model =>
    obtain ⟨hfine, htbh⟩ := Dev.bitsOf_modelHigh ht
    rw [d.readPmbl_some hm]
    refine ⟨rfl, ?_, ?_, ?_, d.rd_latchModel_pinc _ _ _, Dev.keepsRegs_emit _ (d.latchModel_keepsRegs _ _ _)⟩
    · exact (congrArg (fun w : Word => bitsOf w.toNat 16 5) (d.rd_latchModel_pmbh _ _ _)).trans hfine
    · exact (congrArg (fun w : Word => bitsOf w.toNat 0 16) (d.rd_latchModel_pmbh _ _ _)).trans htbh
    · refine (congrArg (fun w : Word => bitsOf w.toNat 0 16) (d.rd_latchModel_pmpc _ _ _)).trans ?_
      have := m.pc.isLt
      simp only [bitsOf, BitVec.toNat_ofNat, Nat.shiftRight_zero]
      omega
  case count => exact ⟨d.countWraps_keepsRegs, d.bit_countWraps hm⟩
  case token => exact ⟨rfl, d.rd_readTokl, Dev.keepsRegs_emit _ (d.keepsRegs_wr _ (by decide))⟩

theorem claim_compareWritesArmAndDisarm : Claims.CompareWritesArmAndDisarm := by
  intro s n w mask u hs d
  refine ⟨fun hl => State.gives_of_on hs (s.exec_timebaseCompareArm n w) ?timebase, State.gives_of_on hs (s.exec_phaseCompareArm n w) ?phase,
    State.gives_of_on hs (s.exec_compareDisarm mask) ?disarm⟩
  case timebase =>
    have hn : n.val < 8 := by omega
    have hr : (d.commitTcmp n w).rd R.TIM_CMPSTAT = d.rd R.TIM_CMPSTAT :=
      d.commitTcmp_keepsRegs n w _ (by decide +revert)
    rw [d.writeTcmph_eq]
    refine ⟨nth_upd_same _ _ (n.isLt.trans_eq hl.symm), ?_, ?_, ?_⟩
    · rw [Dev.bitAt_armUnit _ _ hn, Dev.bitAt_of_rd hr]
    · rw [Dev.get_armUnit_fired _ hn, Dev.get_of_rd hr]
    · exact Dev.keepsRegs_trans (Dev.keepsRegs_mono (d.commitTcmp_keepsRegs n w) (by simp))
        (Dev.keepsRegs_mono (Dev.armUnit_keepsRegs _ _) (by simp))
  case phase =>
    have hn : 4 + n.val < 8 := by omega
    have hne : R.TIM_CMPSTAT ≠ R.TIM_PCMP n := by decide +revert
    have hr : (d.wr (R.TIM_PCMP n) w).rd R.TIM_CMPSTAT = d.rd R.TIM_CMPSTAT := d.rd_wr_other w hne
    refine ⟨d.rd_writePcmp w hne.symm, (Dev.bitAt_armUnit _ _ hn).trans ?_, (Dev.get_armUnit_fired _ hn).trans (Dev.get_of_rd hr), ?_⟩
    · rw [Dev.bitAt_of_rd hr]
    · exact Dev.keepsRegs_trans (d.keepsRegs_wr w List.mem_cons_self) (Dev.keepsRegs_mono (Dev.armUnit_keepsRegs _ _) (by simp))
  case disarm =>
    obtain ⟨harmed, hfired, htim, hregs⟩ := Dev.foldl_disarmUnit mask.toNat (List.range 8) d (fun _ => List.mem_range.mp)
    rw [d.disarmUnits_eq]
    refine ⟨(harmed u).trans ?_, hfired, htim, hregs⟩
    rw [decide_eq_true (List.mem_range.mpr u.isLt), Bool.true_and]
    rfl

theorem claim_capturesRecordTheirTime : Claims.CapturesRecordTheirTime := by
  intro s u step rising hs d takes hl
  have htakes (src : BitVec 3) (delay : Nat) (hp : 2 < src.toNat ∨ d.isHead = true) (h0 : src.toNat ≠ 0) (h7 : src.toNat ≠ 7)
      (hd : Dev.captureDelay src.toNat = delay) : takes src delay := by
    intro hsel
    have hc := d.captured_capture step.toNat u (fun h => hp.resolve_left (by omega)) h0 h7 hsel hl
    rw [Dev.captureTime, hd] at hc
    exact State.gives_of_on hs (s.exec_captureEvent src step) hc
  have hstays (src : BitVec 3) (h : d.capture src.toNat step.toNat = d) : s.becomes (.captureEvent src step) d :=
    State.becomes_of_on hs (s.exec_captureEvent src step) h
  have hedge := State.becomes_of_on (d := if d.bit F.TIM_AUXCMP_EN then d.putB F.TIM_AUXCMP_STATE rising else d) hs
    (s.exec_aux7ComparatorEdge rising step) rfl
  refine ⟨htakes 3 0 (.inl (by decide)) (by decide) (by decide) rfl, htakes 4 0 (.inl (by decide)) (by decide) (by decide) rfl,
    htakes 5 640 (.inl (by decide)) (by decide) (by decide) rfl, htakes 6 640 (.inl (by decide)) (by decide) (by decide) rfl,
    fun hh => ⟨htakes 1 192 (.inr hh) (by decide) (by decide) rfl, htakes 2 192 (.inr hh) (by decide) (by decide) rfl⟩,
    fun hm => ⟨hstays 1 (d.capture_phsync_member _ (.inl rfl) hm), hstays 2 (d.capture_phsync_member _ (.inr rfl) hm)⟩,
    hstays 0 (d.capture_noSource _ (.inl rfl)), hstays 7 (d.capture_noSource _ (.inr rfl)),
    State.gives_of_on hs (s.exec_captureRead u) ?read, fun he => ?runs, fun he => ?off⟩
  case read =>
    exact ⟨rfl, d.rd_readCapl_caph u, d.bitAt_readCapl_full u.isLt, d.get_readCapl_ovr u.isLt,
      Dev.keepsRegs_emit _ (d.readCapl_keepsRegs u)⟩
  case runs => rwa [if_pos he] at hedge
  case off => rwa [if_neg (Bool.eq_false_iff.mp he)] at hedge

/-- Settles O32: what the reads of the time registers latch, what arms and disarms a compare unit, and what a capture records. -/
theorem timeReadsComparesAndCaptures : Obligations.TimeReadsComparesAndCaptures :=
  ⟨claim_timeReadsLatchTheirPairs, claim_compareWritesArmAndDisarm, claim_capturesRecordTheirTime⟩

end Sys2Proof.Machine
end

section
/-!
PROOF. Condition codes (R257): what each code tests, the inverse of a code, and the ILL exception of code 8 in B (R264) and CSEL (R260).
-/

namespace Sys2Proof.Machine

namespace Dev

/-- Bit 3 of a code inverts the predicate that bits [2:0] name. -/
theorem cond_add_eight (d : Dev) {c : BitVec 4} (h : c.toNat < 8) : d.cond (c + 8) = !d.cond c := by
  have hsum : (c + 8).toNat = c.toNat + 8 := BitVec.toNat_add_of_lt (Nat.add_lt_add_right h 8)
  simp only [cond, hsum, Nat.add_mod_right, if_pos (Nat.le_add_left 8 c.toNat), if_neg (Nat.not_le.mpr h)]

theorem issue_error (d : Dev) (n : Nat) (f : Dev → Except Exc Dev) (e : Exc) (h : d.willRun = true) (hf : f d = .error e) :
    d.issue n f = d.exception e false := by
  rw [issue_runs d n f h, hf]

end Dev

namespace State

theorem exec_branch (s : State) (cond : BitVec 4) (off : BitVec 14) : exec (.branch cond off) s = execB cond off s := rfl

theorem exec_csel (s : State) (rd ra rb cond : BitVec 4) : exec (.csel rd ra rb cond) s = execCsel rd ra rb cond s := rfl

/-- A branch on the inverse of ALW raises ILL in place of jumping. -/
theorem becomes_branch_eight {s : State} (off : BitVec 14) (hs : s.awake = true) (hr : s.dev.willRun = true) :
    s.becomes (.branch 8 off) (s.dev.exception (Exc.ill (BitVec.ofNat 32 s.dev.pcOfs)) false) :=
  becomes_of_on hs (s.exec_branch 8 off) (Dev.issue_error _ _ _ _ hr (if_pos rfl))

/-- CSEL on the inverse of ALW raises ILL and selects nothing. -/
theorem becomes_csel_eight {s : State} (rd ra rb : BitVec 4) (hs : s.awake = true) (hr : s.dev.willRun = true) :
    s.becomes (.csel rd ra rb 8) (s.dev.exception (Exc.ill (BitVec.ofNat 32 s.dev.pcOfs)) false) :=
  becomes_of_on hs (s.exec_csel rd ra rb 8) (Dev.issueNext_error _ _ _ _ hr (if_pos rfl))

end State

theorem claim_conditionCodesTestTheFlags : Claims.ConditionCodesTestTheFlags := by
  refine ⟨fun d => ⟨rfl, rfl, rfl, rfl, rfl, rfl, rfl, rfl, fun _ => d.cond_add_eight⟩, ?_⟩
  intro s rd ra rb off hs hr
  exact ⟨State.becomes_branch_eight off hs hr, State.becomes_csel_eight rd ra rb hs hr⟩

/-- Settles O17: codes 0 to 7 read the flags, bit 3 inverts the predicate, and code 8 reaches the ILL exception of B and of CSEL. -/
theorem conditionCodesTestTheFlags : Obligations.ConditionCodesTestTheFlags :=
  claim_conditionCodesTestTheFlags

end Sys2Proof.Machine
end

section
/-!
PROOF. The end of a cycle (R502, R512, R640): what latching a fault leaves of the faults of the cycle, and what the close of the cycle stages and
which lines of SEQ_IP it sets.
-/

namespace Sys2Proof.Machine

namespace Dev

/-! ### The faults of the cycle: `fltNow` is written where faults are latched, and nowhere else in the end of a cycle -/

theorem fltNow_foldl {α : Type} (f : Dev → α → Dev) (h : ∀ (d : Dev) a, (f d a).fltNow = d.fltNow) (l : List α) :
    ∀ d : Dev, (l.foldl f d).fltNow = d.fltNow := by
  induction l with
  | nil => exact fun _ => rfl
  | cons a t ih => exact fun d => (ih _).trans (h d a)

@[simp] theorem selOff_fltNow (d : Dev) (k : Nat) : (d.selOff k).fltNow = d.fltNow := by
  unfold selOff
  split <;> rfl

@[simp] theorem setShelf_fltNow (d : Dev) (k : Nat) (f : Shelf → Shelf) : (d.setShelf k f).fltNow = d.fltNow := rfl

@[simp] theorem dropExcWindows_fltNow (d : Dev) (k : Nat) : (d.dropExcWindows k).fltNow = d.fltNow := by
  unfold dropExcWindows
  dsimp only
  split
  · rfl
  · exact fltNow_foldl (fun e i => e.dropDrawer (i / 4) (i % 4)) (fun _ _ => rfl) _ d

@[simp] theorem finishWork_fltNow (d : Dev) (k code : Nat) : (d.finishWork k code).fltNow = d.fltNow := by
  unfold finishWork
  dsimp only
  split_ifs <;> simp

@[simp] theorem endWork_fltNow (d : Dev) (k code : Nat) : (d.endWork k code).fltNow = d.fltNow := by
  unfold endWork
  dsimp only
  split_ifs <;> simp

@[simp] theorem discardBal_fltNow (d : Dev) (mask : Nat) (only : Bool) : (d.discardBal mask only).fltNow = d.fltNow := by
  refine fltNow_foldl _ (fun e k => ?_) _ d
  split
  · exact endWork_fltNow e k 6
  · rfl

@[simp] theorem discardLog_fltNow (d : Dev) (progOnly : Bool) : (d.discardLog progOnly).fltNow = d.fltNow := by
  unfold discardLog
  dsimp only
  split <;> rfl

@[simp] theorem chkEnd_fltNow (d : Dev) (e : Nat) : (d.chkEnd e).fltNow = d.fltNow := by
  unfold chkEnd
  split <;> rfl

@[simp] theorem memStop_fltNow (d : Dev) : d.memStop.fltNow = d.fltNow := by
  unfold memStop
  split <;> rfl

@[simp] theorem abortLoad_fltNow (d : Dev) : d.abortLoad.fltNow = d.fltNow := by
  unfold abortLoad
  split <;> rfl

@[simp] theorem abortDiag_fltNow (d : Dev) (cause : Nat) : (d.abortDiag cause).fltNow = d.fltNow := by
  unfold abortDiag diagSourcesOff
  dsimp only
  split_ifs
  · rfl
  · exact endWork_fltNow d _ 2
  · rfl
  · rfl

theorem tagDrop_fltNow (d : Dev) : d.tagDrop.fltNow = d.fltNow := by
  unfold tagDrop tagClose
  split
  · rfl
  · dsimp only
    split <;> rfl

@[simp] theorem dropOwn_fltNow (d : Dev) (keep : Own → Bool) : (d.dropOwn keep).fltNow = d.fltNow := by
  unfold dropOwn
  dsimp only
  split_ifs
  · exact tagDrop_fltNow _
  · rfl
  · exact tagDrop_fltNow _
  · rfl

@[simp] theorem discardChain_fltNow (d : Dev) : d.discardChain.fltNow = d.fltNow := by
  have he (e : Dev) : (e.endStream 4).fltNow = e.fltNow := by
    unfold endStream
    split <;> rfl
  unfold discardChain
  dsimp only
  split
  · exact (he _).trans (dropOwn_fltNow _ _)
  · exact (he _).trans (dropOwn_fltNow _ _)

@[simp] theorem discardSweeps_fltNow (d : Dev) : d.discardSweeps.fltNow = d.fltNow := rfl

theorem discardAll_fltNow (d : Dev) : d.discardAll.fltNow = d.fltNow := by
  unfold discardAll
  simp only [memStop_fltNow, chkEnd_fltNow, discardLog_fltNow]
  rw [fltNow_foldl _ selOff_fltNow]
  simp

theorem discardFor_fltNow (d : Dev) (x : Latched) : (d.discardFor x).fltNow = d.fltNow := by
  unfold discardFor
  split
  · exact discardAll_fltNow d
  · split
    · rfl
    · split
      · simp
      · dsimp only
        split <;> simp
      · simp
      · rw [fltNow_foldl, discardBal_fltNow]
        intro e k
        split <;> simp
      · exact (abortLoad_fltNow _).trans (dropOwn_fltNow _ _)
      · simp [discardSends]
      · rfl

@[simp] theorem halt_fltNow (d : Dev) (cause : Nat) : (d.halt cause).fltNow = d.fltNow := by
  unfold halt
  split <;> rfl

@[simp] theorem cancelRun_fltNow (d : Dev) (cause : Nat) : (d.cancelRun cause).fltNow = d.fltNow := by
  unfold cancelRun
  split <;> rfl

@[simp] theorem safeDemandBy_fltNow (d : Dev) (src : Nat) : (d.safeDemandBy src).fltNow = d.fltNow := by
  unfold safeDemandBy setOut
  dsimp only
  split_ifs <;> rfl

@[simp] theorem enterLockout_fltNow (d : Dev) : d.enterLockout.fltNow = d.fltNow := by
  unfold enterLockout
  split
  · rfl
  · exact halt_fltNow _ 2

@[simp] theorem startHandover_fltNow (d : Dev) (auto : Bool) : (d.startHandover auto).fltNow = d.fltNow := by
  unfold startHandover endAll
  rw [fltNow_foldl _ (fun e k => endWork_fltNow e k 5)]
  rfl

@[simp] theorem shelfFault_fltNow (d : Dev) (x : Latched) : (d.shelfFault x).fltNow = d.fltNow := by
  unfold shelfFault
  split <;> simp

theorem reactTo_fltNow (d : Dev) (x : Latched) : (d.reactTo x).fltNow = d.fltNow := by
  unfold reactTo
  dsimp only
  split_ifs <;> simp

theorem stageQueues_fltNow (d : Dev) : d.stageQueues.fltNow = d.fltNow := by
  rw [(cycleEnds_stageQueues d).1]
  rfl

@[simp] theorem logHw_fltNow (d : Dev) (ty : Nat) (tag : BitVec 16) (body : List Byte) : (d.logHw ty tag body).fltNow = d.fltNow := by
  unfold logHw
  dsimp only
  split
  · rfl
  · exact stageQueues_fltNow _

@[simp] theorem snapTrigger_fltNow (d : Dev) (fsrc fstl : Word) : (d.snapTrigger fsrc fstl).fltNow = d.fltNow := by
  unfold snapTrigger snapRecords
  dsimp only
  split
  · rfl
  · split
    · rfl
    · exact (fltNow_foldl _ (fun e p => logHw_fltNow e _ _ _) _ _).trans rfl

theorem recordFault_fltNow (d : Dev) (x : Latched) : (d.recordFault x).fltNow = d.fltNow := by
  unfold recordFault
  dsimp only
  split_ifs <;> simp

/-- The faults of the cycle are those latched before in it and those posted now (R502). -/
theorem latchFaults_fltNow (d : Dev) (h : d.posted ≠ []) : d.latchFaults.fltNow = d.fltNow ++ d.posted := by
  have he : d.posted.isEmpty = false := by simpa using h
  simp only [latchFaults, he, Bool.false_eq_true, if_false, irq_fltNow]
  rw [fltNow_foldl _ recordFault_fltNow, fltNow_foldl _ reactTo_fltNow, fltNow_foldl _ discardFor_fltNow]

end Dev

/-! ### The staging of the log's queues -/

/-- A record as the refutation below tells it apart in the staging buffer: its type, and whether its body has at most 16,320 bytes. -/
def LogRec.mark (r : LogRec) : Nat × Bool := (r.ty, (r.body.drop 16320).isEmpty)

/-- The mark of an element of the staging buffer; a cut has none. -/
def Staged.mark? : Staged → Option (Nat × Bool)
  | .record r => some r.mark
  | .cut => none

/-- The marks of the records in the staging buffer, in their order. -/
def Log.marks (l : Log) : List (Nat × Bool) := l.staged.filterMap Staged.mark?

/-- A record whose body has more than 16,320 bytes leaves no room in the hardware queue for another (R640). -/
theorem Log.long_of_mark {r : LogRec} {ty : Nat} (h : r.mark = (ty, false)) : 16384 ≤ Log.recLen r := by
  obtain ⟨-, hb⟩ := Prod.mk.injEq _ _ _ _ ▸ h
  have hl : 16320 < r.body.length := by
    by_contra hc
    simp [List.drop_eq_nil_iff.mpr (Nat.le_of_not_lt hc)] at hb
  unfold Log.recLen
  omega

namespace Dev

theorem bitAt_irq (d : Dev) {n : Nat} (j : Nat) (hn : n < 16) : (d.irq n).bitAt F.SEQ_IP_IP j = (d.bitAt F.SEQ_IP_IP j || j == n) :=
  d.bitAt_flagBits F.SEQ_IP_IP j (by decide) hn

/-- The queues may empty into the staging buffer (R536, R640). -/
def mayStage (d : Dev) : Bool := d.mounted && d.logPowered && !d.bit F.BST_STAT_LBUSY

/-- The records of the queues in the order in which they are staged (R57, R655). -/
def merged (d : Dev) : List LogRec := mergeQueues (d.log.hwQ.length + d.log.progQ.length) d.log.hwQ d.log.progQ

/-- The device with its queues empty and their records staged. -/
def staged (d : Dev) : Dev := d.merged.foldl stage { d with log := { d.log with hwQ := [], progQ := [] } }

theorem stageQueues_idle {d : Dev} (h : d.mayStage = false) : d.stageQueues = d := by
  have hn : (!d.mounted || !d.logPowered || d.bit F.BST_STAT_LBUSY) = true := by
    simpa only [mayStage, Bool.not_and, Bool.not_not, Bool.not_false] using congrArg not h
  rw [stageQueues, if_pos hn]

theorem stageQueues_runs {d : Dev} (h : d.mayStage = true) :
    d.stageQueues = if d.log.progQ.length = 0 then d.staged else d.staged.irq 11 := by
  have hn : ¬ (!d.mounted || !d.logPowered || d.bit F.BST_STAT_LBUSY) = true := by
    simpa only [mayStage, Bool.not_and, Bool.not_not, Bool.not_true, Bool.not_eq_true] using congrArg not h
  rw [stageQueues, if_neg hn]
  rfl

theorem marks_foldl_stage (l : List LogRec) : ∀ d : Dev, (l.foldl stage d).log.marks = d.log.marks ++ l.map LogRec.mark := by
  induction l with
  | nil => exact fun d => (List.append_nil _).symm
  | cons r t ih =>
    intro d
    have hs : (d.stage r).log.marks = d.log.marks ++ [r.mark] := by
      by_cases hu : Log.urgent r.ty <;> simp [Log.marks, stage, hu, Staged.mark?, LogRec.mark]
    rw [List.foldl_cons, ih, hs, List.append_assoc]
    rfl

theorem queues_foldl_stage (l : List LogRec) : ∀ d : Dev, (l.foldl stage d).log.hwQ = d.log.hwQ ∧ (l.foldl stage d).log.progQ = d.log.progQ := by
  induction l with
  | nil => exact fun _ => ⟨rfl, rfl⟩
  | cons r t ih => exact fun d => ih (d.stage r)

theorem staged_line (d : Dev) (j : Nat) : d.staged.bitAt F.SEQ_IP_IP j = d.bitAt F.SEQ_IP_IP j := bitAt_congr (foldl_stage_regs _ _) _ _

/-- Staging sets line 11 when it frees an entry of the program queue (R245), and no other. -/
theorem stageQueues_line (d : Dev) (j : Nat) : d.stageQueues.bitAt F.SEQ_IP_IP j =
    (d.bitAt F.SEQ_IP_IP j || (d.mayStage && decide (d.log.progQ ≠ []) && j == 11)) := by
  cases h : d.mayStage with
  | false => rw [stageQueues_idle h, Bool.false_and, Bool.false_and, Bool.or_false]
  | true =>
    rw [stageQueues_runs h]
    by_cases hp : d.log.progQ = []
    · rw [if_pos (List.length_eq_zero_iff.mpr hp), staged_line]
      simp [hp]
    · rw [if_neg (fun e => hp (List.length_eq_zero_iff.mp e)), bitAt_irq _ _ (by decide), staged_line]
      simp [hp]

/-- What staging does to the queues and to the staging buffer (R640). -/
theorem stageQueues_log {d : Dev} (h : d.mayStage = true) : d.stageQueues.log.hwQ = [] ∧ d.stageQueues.log.progQ = [] ∧
    d.stageQueues.log.marks = d.log.marks ++ d.merged.map LogRec.mark := by
  obtain ⟨hhw, hprog⟩ := queues_foldl_stage d.merged { d with log := { d.log with hwQ := [], progQ := [] } }
  have hmarks : d.staged.log.marks = d.log.marks ++ d.merged.map LogRec.mark := marks_foldl_stage _ _
  rw [stageQueues_runs h]
  split <;> exact ⟨hhw, hprog, hmarks⟩

/-! ### The end of a cycle behind the latching of faults -/

/-- What `settle` does once faults are latched. -/
def cycleClose (d : Dev) : Dev := (d.handoverStep.stageQueues.memPause).updateSymbol

theorem settle_eq (d : Dev) : d.settle = d.passPublications.latchFaults.cycleClose := rfl

theorem cycleEnds_cycleClose (d : Dev) : d.cycleEnds d.cycleClose :=
  cycleEnds_trans (cycleEnds_trans (cycleEnds_trans (cycleEnds_handoverStep d) (cycleEnds_stageQueues _)) (cycleEnds_memPause _))
    (cycleEnds_updateSymbol _)

theorem sendMsg_frame (d : Dev) (ty : Nat) (l : List Byte) :
    (d.sendMsg ty l).regs = d.regs ∧ (d.sendMsg ty l).log = d.log ∧ (d.sendMsg ty l).power = d.power := by
  unfold sendMsg
  split <;> exact ⟨rfl, rfl, rfl⟩

theorem selOff_frame (d : Dev) (k : Nat) : (d.selOff k).regs = d.regs ∧ (d.selOff k).log = d.log ∧ (d.selOff k).power = d.power := by
  unfold selOff
  split <;> exact ⟨rfl, rfl, rfl⟩

/-- A step of a handover touches neither registers nor the log. -/
theorem handoverStep_frame (d : Dev) :
    d.handoverStep.regs = d.regs ∧ d.handoverStep.log = d.log ∧ d.handoverStep.power = d.power := by
  have hoff (l : List Nat) : ∀ e : Dev, (l.foldl (fun d k => d.selOff k) e).regs = e.regs ∧
      (l.foldl (fun d k => d.selOff k) e).log = e.log ∧ (l.foldl (fun d k => d.selOff k) e).power = e.power := by
    induction l with
    | nil => exact fun _ => ⟨rfl, rfl, rfl⟩
    | cons k t ih =>
      intro e
      obtain ⟨hr, hl, hp⟩ := e.selOff_frame k
      obtain ⟨ihr, ihl, ihp⟩ := ih (e.selOff k)
      exact ⟨ihr.trans hr, ihl.trans hl, ihp.trans hp⟩
  unfold handoverStep
  split
  · exact ⟨rfl, rfl, rfl⟩
  · split
    · exact sendMsg_frame { d with bal := { d.bal with returning := false } } _ _
    · split
      · exact ⟨rfl, rfl, rfl⟩
      · obtain ⟨hr, hl, hp⟩ := hoff (List.range 4) d
        generalize (List.range 4).foldl (fun d k => d.selOff k) d = e at hr hl hp ⊢
        obtain ⟨sr, sl, sp⟩ := sendMsg_frame { e with bal := { e.bal with hoSent := true } } 4
          [BitVec.ofNat 8 1, BitVec.ofNat 8 e.bal.handAuto.toNat]
        exact ⟨sr.trans hr, sl.trans hl, sp.trans hp⟩

theorem memPause_frame (d : Dev) : d.memPause.log = d.log ∧ d.memPause.rd R.SEQ_IP = d.rd R.SEQ_IP := by
  unfold memPause
  split
  · exact ⟨rfl, rfl⟩
  · exact ⟨rfl, rd_put_other _ _ _ (by decide)⟩

theorem updateSymbol_frame (d : Dev) : d.updateSymbol.log = d.log ∧ d.updateSymbol.rd R.SEQ_IP = d.rd R.SEQ_IP := by
  have hr (e : Dev) (fg fr sym pin out : Bool) :
      (({ ((e.putB F.GRD_STAT_FGSYM fg).putB F.FLT_STAT_FRSYM fr).putB F.GRD_STAT_SYM sym with
        power := { e.power with fltPin := pin, wakeout := out } } : Dev).putB F.GRD_STAT_FLTPIN pin).rd R.SEQ_IP = e.rd R.SEQ_IP := by
    rw [putB, rd_put_other _ _ _ (by decide)]
    exact (rd_put_other _ _ _ (by decide)).trans ((rd_put_other _ _ _ (by decide)).trans (rd_put_other _ _ _ (by decide)))
  unfold updateSymbol
  dsimp only
  split
  · exact ⟨rfl, hr _ _ _ _ _ _⟩
  · exact ⟨rfl, hr _ _ _ _ _ _⟩

theorem mayStage_congr {d t : Dev} (hr : ∀ a, a ≠ R.SEQ_IP → t.rd a = d.rd a) (hp : t.power = d.power) : t.mayStage = d.mayStage := by
  simp only [mayStage, mounted, logPowered, banked, pstate, bit, hp]
  rw [get_of_rd (hr _ (by decide)), get_of_rd (hr _ (by decide)), get_of_rd (hr _ (by decide))]

theorem handoverStep_mayStage (d : Dev) : d.handoverStep.mayStage = d.mayStage := by
  obtain ⟨hr, -, hp⟩ := d.handoverStep_frame
  exact mayStage_congr (fun a _ => rd_congr hr a) hp

/-- The close of a cycle sets line 11 when it frees an entry of the program queue, and no other line. -/
theorem cycleClose_line (d : Dev) (j : Nat) : d.cycleClose.bitAt F.SEQ_IP_IP j =
    (d.bitAt F.SEQ_IP_IP j || (d.mayStage && decide (d.log.progQ ≠ []) && j == 11)) := by
  obtain ⟨hr, hl, -⟩ := d.handoverStep_frame
  rw [cycleClose, bitAt_of_rd (updateSymbol_frame _).2, bitAt_of_rd (memPause_frame _).2, stageQueues_line, handoverStep_mayStage, hl,
    bitAt_congr hr]

/-- With both queues empty the close of a cycle stages nothing. -/
theorem cycleClose_marks {d : Dev} (hhw : d.log.hwQ = []) (hprog : d.log.progQ = []) : d.cycleClose.log.marks = d.log.marks := by
  obtain ⟨-, hl, -⟩ := d.handoverStep_frame
  rw [cycleClose, (updateSymbol_frame _).1, (memPause_frame _).1]
  cases h : d.handoverStep.mayStage with
  | false => rw [stageQueues_idle h, hl]
  | true =>
    obtain ⟨-, -, hmarks⟩ := stageQueues_log h
    have hnone : d.handoverStep.merged = [] := by rw [merged, hl, hhw, hprog]; rfl
    rw [hmarks, hnone, hl, List.map_nil, List.append_nil]

/-! ### The order of the merged queues -/

theorem mergeQueues_nil_left (n : Nat) (b : List LogRec) : mergeQueues n [] b = b := by cases n <;> rfl

theorem mergeQueues_nil_right (n : Nat) (a : List LogRec) : mergeQueues n a [] = a := by
  cases n with
  | zero => exact List.append_nil a
  | succ n => cases a <;> rfl

theorem mergeQueues_cons (n : Nat) (x y : LogRec) (a b : List LogRec) : mergeQueues (n + 1) (x :: a) (y :: b) =
    if x.stagedAt ≤ y.stagedAt then x :: mergeQueues n a (y :: b) else y :: mergeQueues n (x :: a) b := rfl

/-- Where the program queue is not empty, and the last hardware record `q` arose in cycle 0: either a record of the program queue is merged
last, behind `q`, or `q` is last and the record before it is a hardware record, since `q` goes before every program record it meets. -/
theorem mergeQueues_ends {q : LogRec} (hq : q.stagedAt = 0) (n : Nat) : ∀ (h p : List LogRec), p ≠ [] →
    (∃ pre z, mergeQueues n (h ++ [q]) p = pre ++ [z] ∧ q ∈ pre) ∨ (∃ pre x, mergeQueues n (h ++ [q]) p = pre ++ [x, q] ∧ x ∈ h) := by
  have behind (h p : List LogRec) (hp : p ≠ []) : ∃ pre z, h ++ [q] ++ p = pre ++ [z] ∧ q ∈ pre :=
    ⟨h ++ [q] ++ p.dropLast, p.getLast hp, by rw [List.append_assoc _ p.dropLast, List.dropLast_append_getLast], by simp⟩
  induction n with
  | zero => exact fun h p hp => .inl (behind h p hp)
  | succ n ih =>
    intro h p hp
    obtain ⟨y, p, rfl⟩ := List.exists_cons_of_ne_nil hp
    cases h with
    | nil =>
      left
      rw [List.nil_append, mergeQueues_cons, if_pos (hq.trans_le (Nat.zero_le _)), mergeQueues_nil_left]
      exact behind [] (y :: p) hp
    | cons x h =>
      rw [List.cons_append, mergeQueues_cons]
      split
      · obtain ⟨pre, z, he, hz⟩ | ⟨pre, w, he, hw⟩ := ih h (y :: p) hp
        · exact .inl ⟨x :: pre, z, by rw [he]; rfl, List.mem_cons_of_mem _ hz⟩
        · exact .inr ⟨x :: pre, w, by rw [he]; rfl, List.mem_cons_of_mem _ hw⟩
      · rw [← List.cons_append]
        rcases eq_or_ne p [] with rfl | hp'
        · right
          refine ⟨y :: (x :: h).dropLast, (x :: h).getLast (by simp), ?_, List.getLast_mem _⟩
          rw [mergeQueues_nil_right]
          conv_lhs => rw [← List.dropLast_append_getLast (l := x :: h) (by simp)]
          simp
        · obtain ⟨pre, z, he, hz⟩ | ⟨pre, w, he, hw⟩ := ih (x :: h) p hp'
          · exact .inl ⟨y :: pre, z, by rw [he]; rfl, List.mem_cons_of_mem _ hz⟩
          · exact .inr ⟨y :: pre, w, by rw [he]; rfl, hw⟩

/-! ### The latching of one L0 fault -/

theorem passPublications_line (d : Dev) (j : Nat) : d.passPublications.bitAt F.SEQ_IP_IP j = d.bitAt F.SEQ_IP_IP j := by
  have htwin (l : List Nat) : (d.twinPublish l).rd R.SEQ_IP = d.rd R.SEQ_IP := by
    unfold twinPublish
    dsimp only
    split
    · rfl
    · split
      · split
        · rfl
        · split
          · exact (rd_flagBits_other _ _ _ (by decide)).trans (rd_count_other _ _ _ (by decide))
          · exact rd_congr (sendMsg_frame _ _ _).1 _
      · split <;> rfl
  have hsnap (e : Dev) (b : List Byte) : (e.snapPublish b).regs = e.regs := by
    unfold snapPublish
    split <;> dsimp only <;> split_ifs <;> rfl
  unfold passPublications
  split
  · rfl
  · exact bitAt_of_rd ((rd_congr (hsnap _ _) _).trans (htwin d.pub0)) j

/-- The L0 notice of a frame whose CMAC failed (R619). -/
def cmacNotice : FaultEvt := ⟨7, 0, 1, 0, false⟩

/-- Alone in its cycle, the notice makes no discard and no reaction: it is recorded and posts line 12 (R47, R509, R512). -/
theorem latchFaults_cmacNotice {d : Dev} (hp : d.posted = [cmacNotice]) (hn : d.fltNow = []) :
    ∃ x : Dev, x.regs = d.regs ∧ d.latchFaults = (x.recordFault ⟨cmacNotice, 0⟩).irq 12 := by
  refine ⟨{ d with flt := (d.fltBase.latch [cmacNotice] (d.tb + 1) d.scopeOf).1, fltNow := [cmacNotice], posted := [] }, rfl, ?_⟩
  simp only [latchFaults, hp, hn]
  rfl

/-- The notice is recorded unless its class has had its records of the interval (R512). -/
theorem recordFault_cmacNotice (d : Dev) :
    (max 1 (d.get F.FLT_CFG_L0RATE) ≤ nth d.log.l0 7 0 ∧ d.recordFault ⟨cmacNotice, 0⟩ = d) ∨
      ∃ (x : Dev) (body : List Byte), x.regs = d.regs ∧ d.recordFault ⟨cmacNotice, 0⟩ = x.logHw 5 0 body := by
  rcases Decidable.em (max 1 (d.get F.FLT_CFG_L0RATE) ≤ nth d.log.l0 7 0) with h | h
  · exact .inl ⟨h, if_pos h⟩
  · exact .inr ⟨{ d with log := { d.log with l0 := upd d.log.l0 7 (· + 1) } }, _, rfl, if_neg h⟩

theorem le_foldl_recLen (l : List LogRec) : ∀ n : Nat, n ≤ l.foldl (fun n x => n + Log.recLen x) n := by
  induction l with
  | nil => exact fun n => le_refl n
  | cons x t ih => exact fun n => (Nat.le_add_right _ _).trans (ih _)

theorem recLen_le_foldl {x : LogRec} {l : List LogRec} (h : x ∈ l) : ∀ n : Nat, Log.recLen x ≤ l.foldl (fun n x => n + Log.recLen x) n := by
  induction l with
  | nil => exact absurd h List.not_mem_nil
  | cons y t ih =>
    intro n
    rcases List.mem_cons.mp h with rfl | h
    · exact (Nat.le_add_left _ _).trans (le_foldl_recLen t _)
    · exact ih h _

theorem logHw_cycle (d : Dev) (ty : Nat) (tag : BitVec 16) (body : List Byte) : (d.logHw ty tag body).cycle = d.cycle := by
  unfold logHw
  dsimp only
  split
  · rfl
  · rw [(cycleEnds_stageQueues _).1]
    rfl

/-- A hardware record is dropped and counted, or it joins a queue in which no record has 16,384 bytes and is staged (R640). -/
theorem logHw_cases (d : Dev) (ty : Nat) (tag : BitVec 16) (body : List Byte) :
    d.logHw ty tag body = d.count F.LOG_DROP_HW 1 ∨ ∃ y : Dev, y.regs = d.regs ∧
      y.log.hwQ = d.log.hwQ ++ [d.mkRec ty tag body false] ∧ (∀ x ∈ d.log.hwQ, Log.recLen x < 16384) ∧
      d.logHw ty tag body = y.stageQueues := by
  unfold logHw
  dsimp only
  split
  · exact .inl rfl
  · next h =>
    refine .inr ⟨{ d with log := { d.log with hwQ := d.log.hwQ ++ [d.mkRec ty tag body false] } }, rfl, rfl, fun x hx => ?_, rfl⟩
    have hu := recLen_le_foldl hx 0
    simp only [Bool.or_eq_true, decide_eq_true_eq, not_or, not_lt] at h
    have hr : 32 ≤ Log.recLen (d.mkRec ty tag body false) := Nat.le_add_right _ _
    omega

end Dev

end Sys2Proof.Machine
end

section
/-!
PROOF. The boundary of a RUN (R299, R549) does not keep SEQ_IP in every state: a state of which RUN_BOUNDARY makes a next state that no device
with the old lines settles to.
-/

namespace Sys2Proof.Machine

namespace Dev

/-- How the marks of a staging buffer end behind a fault record that cycle 0 brought while the program queue was not empty: with a record
behind the fault record, or with the fault record behind a record of the hardware queue, which is shorter than 16,384 bytes. -/
def EndsAfterFault (l : List (Nat × Bool)) : Prop :=
  (∃ pre z b, l = pre ++ [z] ∧ (5, b) ∈ pre) ∨ (∃ pre x b, l = pre ++ [LogRec.mark x, (5, b)] ∧ Log.recLen x < 16384)

theorem endsAfterFault_append {l : List (Nat × Bool)} (k : List (Nat × Bool)) (h : EndsAfterFault l) : EndsAfterFault (k ++ l) := by
  obtain ⟨pre, z, b, rfl, hz⟩ | ⟨pre, x, b, rfl, hx⟩ := h
  · exact .inl ⟨k ++ pre, z, b, (List.append_assoc ..).symm, List.mem_append_right _ hz⟩
  · exact .inr ⟨k ++ pre, x, b, (List.append_assoc ..).symm, hx⟩

/-- The queues of a device to which a fault record is added in cycle 0. -/
theorem endsAfterFault_merged {d : Dev} {h : List LogRec} {q : LogRec} (hq : d.log.hwQ = h ++ [q]) (hty : q.ty = 5) (h0 : q.stagedAt = 0)
    (hlen : ∀ x ∈ h, Log.recLen x < 16384) (hp : d.log.progQ ≠ []) : EndsAfterFault (d.merged.map LogRec.mark) := by
  have hmark : q.mark = (5, (q.body.drop 16320).isEmpty) := by rw [LogRec.mark, hty]
  rw [merged, hq]
  obtain ⟨pre, z, he, hz⟩ | ⟨pre, x, he, hx⟩ := mergeQueues_ends h0 ((h ++ [q]).length + d.log.progQ.length) h _ hp
  · exact .inl ⟨pre.map LogRec.mark, z.mark, _, by rw [he, List.map_append]; rfl, by rw [← hmark]; exact List.mem_map_of_mem hz⟩
  · exact .inr ⟨pre.map LogRec.mark, x, _, by rw [he, List.map_append, ← hmark]; rfl, hlen x hx⟩

/-- In cycle 0 a fault record is logged, and line 11, which was clear, is set when the cycle has closed: an entry of the program queue was freed
when the record was staged. -/
theorem endsAfterFault_cycleClose {d : Dev} {body : List Byte} (h11 : d.bitAt F.SEQ_IP_IP 11 = false) (h0 : d.cycle = 0) {t : Dev}
    (ht : t = ((d.logHw 5 0 body).irq 12).cycleClose) (hd : t.get F.LOG_DROP_HW = 0) (hl : t.bitAt F.SEQ_IP_IP 11 = true) :
    EndsAfterFault t.log.marks := by
  subst ht
  obtain hdrop | ⟨y, hregs, hq, hlen, hstage⟩ := d.logHw_cases 5 0 body
  · rw [hdrop, get_of_rd ((cycleEnds_cycleClose _).2 _ (by decide)), irq, get_flagBits_other _ _ (by decide),
      get_count_same _ _ _ (by decide)] at hd
    have hw : 2 ^ F.LOG_DROP_HW.width - 1 = 65535 := rfl
    omega
  · rw [hstage, cycleClose_line, bitAt_irq _ _ (by decide), stageQueues_line, bitAt_congr hregs, h11] at hl
    rw [hstage]
    cases hm : y.mayStage with
    | false =>
      have hi : (y.irq 12).mayStage = false := (mayStage_congr (fun a ha => rd_flagBits_other _ _ _ ha) rfl).trans hm
      rw [stageQueues_idle hm, hi, hm] at hl
      simp at hl
    | true =>
      obtain ⟨hhw, hprog, hmarks⟩ := stageQueues_log hm
      have hp : y.log.progQ ≠ [] := by
        intro hp
        rw [hm, hp, irq_log, hprog] at hl
        simp at hl
      rw [cycleClose_marks (d := y.stageQueues.irq 12) hhw hprog, irq_log, hmarks]
      exact endsAfterFault_append _ (endsAfterFault_merged hq rfl h0 hlen hp)

/-- A cycle that begins with lines 11 and 12 clear and ends with both set, and with the notice as its only fault, recorded and not dropped: line 12
tells that faults were latched, and the faults of the cycle tell that it was the notice. -/
theorem endsAfterFault_settle {d t : Dev} (ht : d.settle = t) (h11 : d.bitAt F.SEQ_IP_IP 11 = false) (h12 : d.bitAt F.SEQ_IP_IP 12 = false)
    (hn : t.fltNow = [cmacNotice]) (hc : t.cycle = 0) (hr : nth t.log.l0 7 0 < max 1 (t.get F.FLT_CFG_L0RATE))
    (hd : t.get F.LOG_DROP_HW = 0) (hl11 : t.bitAt F.SEQ_IP_IP 11 = true) (hl12 : t.bitAt F.SEQ_IP_IP 12 = true) :
    EndsAfterFault t.log.marks := by
  rw [settle_eq] at ht
  rw [← passPublications_line] at h11 h12
  generalize d.passPublications = u at ht h11 h12
  obtain ⟨hends, hkeeps⟩ := ht ▸ cycleEnds_cycleClose u.latchFaults
  have hnow : u.latchFaults.fltNow = [cmacNotice] := (congrArg Dev.fltNow hends).symm.trans hn
  have hl0 : u.latchFaults.log.l0 = t.log.l0 := (congrArg (fun e : Dev => e.log.l0) hends).symm
  have hcycle : u.latchFaults.cycle = 0 := (congrArg Dev.cycle hends).symm.trans hc
  have hposted : u.posted ≠ [] := by
    intro hp
    have hv : u.latchFaults = u := by simp [latchFaults, hp]
    rw [← ht, hv, cycleClose_line, h12] at hl12
    simp at hl12
  rw [latchFaults_fltNow u hposted, List.append_eq_singleton_iff] at hnow
  obtain ⟨hfirst, hpost⟩ := hnow.resolve_right (fun h => hposted h.2)
  obtain ⟨x, hregs, hv⟩ := latchFaults_cmacNotice hpost hfirst
  obtain ⟨hrate, hrec⟩ | ⟨y, body, hregs', hrec⟩ := recordFault_cmacNotice x
  · have hg : t.get F.FLT_CFG_L0RATE = x.get F.FLT_CFG_L0RATE := by
      rw [get_of_rd (hkeeps _ (by decide)), hv, hrec, irq, get_flagBits_other _ _ (by decide)]
    rw [← hl0, hv, hrec, hg] at hr
    exact absurd hrate (Nat.not_le.mpr hr)
  · have hy11 : y.bitAt F.SEQ_IP_IP 11 = false := (bitAt_congr (hregs'.trans hregs) _ _).trans h11
    rw [hv, hrec, irq_cycle, logHw_cycle] at hcycle
    rw [hv, hrec] at ht
    exact endsAfterFault_cycleClose hy11 hcycle ht.symm hd hl11

end Dev

/-! ### The counterexample -/

/-- A record of the program queue whose body is longer than the hardware queue admits. -/
def longRecord : LogRec := ⟨0x80, 0, List.replicate 16384 0, true, 0, 0, 0⟩

/-- A device in Measure with its log mounted, whose pending SWAP is due, and in whose program queue a record waits: that suffices for the meaning of
RUN_BOUNDARY to set line 11. Three things more keep every other device from settling alike. A fault waits to be latched, so that its record is staged
behind those of the boundary; the record is too long for the hardware queue, from which it could be staged as well; and in cycle 0 no record of the
program queue is staged before the fault's. -/
def crossing : Dev :=
  let d := (((Dev.reset.put F.SYS_PWRSTAT_STATE 2).put F.LOG_STAT_MOUNT 2).putB F.SEQ_RUNSTAT_PEND true).put F.FLT_CFG_L0RATE 10
  { d.post 7 0 1 0 with
    power := { d.power with released := true }
    tim := { d.tim with model := some ⟨0, 0, 175921860, 0, true, false, false⟩ }
    log := { d.log with progQ := [longRecord] } }

/-- The counterexample after RUN_BOUNDARY. -/
def crossed : Dev := crossing.runBoundary.settle

theorem crossing_meets : ({ State.reset with dev := crossing } : State).awake = true ∧ crossing.bit F.SEQ_RUNSTAT_PEND = true ∧
    crossing.boundaryOf (crossing.get F.SEQ_RUNSTAT_PCB) = some 0 ∧ wrapDiff 53 (0 / 32 * 32) (crossing.now * 32) ≤ 0 ∧
    crossing.bit F.BST_STAT_LBUSY = false ∧ crossing.bitAt F.SEQ_IP_IP 11 = false ∧ crossing.bitAt F.SEQ_IP_IP 12 = false := by
  decide +kernel

/-- The PROGRAM record of the boundary and the long record are staged, which sets line 11, and then the notice is recorded behind them. -/
theorem crossed_runs : crossed.fltNow = [Dev.cmacNotice] ∧ crossed.cycle = 0 ∧
    nth crossed.log.l0 7 0 < max 1 (crossed.get F.FLT_CFG_L0RATE) ∧ crossed.get F.LOG_DROP_HW = 0 ∧
    crossed.bitAt F.SEQ_IP_IP 11 = true ∧ crossed.bitAt F.SEQ_IP_IP 12 = true ∧
    crossed.log.marks = [(0x0A, true), (0x80, false), (5, true)] := by
  decide +kernel

/-- No device with lines 11 and 12 clear settles to the counterexample after its boundary: the fault record stands last, behind the long record, which
no hardware queue holds. -/
theorem settle_ne_crossed {d : Dev} (h11 : d.bitAt F.SEQ_IP_IP 11 = false) (h12 : d.bitAt F.SEQ_IP_IP 12 = false) : d.settle ≠ crossed := by
  intro ht
  obtain ⟨hn, hc, hr, hd, hl11, hl12, hm⟩ := crossed_runs
  have hends := Dev.endsAfterFault_settle ht h11 h12 hn hc hr hd hl11 hl12
  rw [hm] at hends
  obtain ⟨pre, z, b, he, hz⟩ | ⟨pre, x, b, he, hx⟩ := hends
  · have hpre : pre = [(0x0A, true), (0x80, false)] := (List.append_inj_left' (s₁ := [(0x0A, true), (0x80, false)]) he rfl).symm
    simp [hpre] at hz
  · have hlast : [((0x80 : Nat), false), (5, true)] = [x.mark, (5, b)] := List.append_inj_right' (s₁ := [(0x0A, true)]) he rfl
    have hmark : x.mark = (0x80, false) := (List.cons.inj hlast).1.symm
    exact absurd (Log.long_of_mark hmark) (Nat.not_le.mpr hx)

/-- Refutes O37: RUN_BOUNDARY appends its PROGRAM record (R299), and where a record waits in the program queue of a mounted log this frees its entry
and sets line 11 (R245), while the statement keeps SEQ_IP. In the state `crossing` no device that keeps SEQ_IP settles to the same next state. -/
theorem not_programsRunAtTheirBoundary : ¬ Obligations.ProgramsRunAtTheirBoundary := by
  rintro ⟨-, hboundary, -⟩
  obtain ⟨hs, hpend, hat, hdue, hbusy, h11, h12⟩ := crossing_meets
  obtain ⟨-, -, henters⟩ := hboundary { State.reset with dev := crossing } 0 hs
  obtain ⟨t, ht, -, -, -, -, -, -, -, -, -, -, -, -, -, -, -, -, -, -, -, -, hip, -⟩ := henters hpend hat hdue hbusy
  have hrun : ({ State.reset with dev := crossing } : State).becomes .runBoundary crossing.runBoundary :=
    State.becomes_of_on hs rfl rfl
  have hsettle : t.settle = crossed := congrArg State.dev (Host.Outcome.next.inj (ht.symm.trans hrun))
  exact settle_ne_crossed ((Dev.bitAt_of_rd (f := F.SEQ_IP_IP) hip 11).trans h11) ((Dev.bitAt_of_rd (f := F.SEQ_IP_IP) hip 12).trans h12) hsettle

end Sys2Proof.Machine
end

section
/-!
PROOF. What the collector holds (R502 to R506) and which operations leave it alone: the discards of R47 to R49, the reactions of R509, the
records of R512 and the publications of R168 neither latch nor post a fault.
-/

namespace Sys2Proof.Machine

namespace Dev

/-- What latching reads and writes at the collector: the timebase for the stamp, the collector now and as its cycle began, and the faults latched
and posted in the cycle. -/
def collected (d : Dev) : BitVec 48 × Collector × Collector × List FaultEvt × List FaultEvt :=
  (d.tb, d.flt, d.fltBase, d.fltNow, d.posted)

theorem flt_of_collected {d t : Dev} (h : t.collected = d.collected) : t.flt = d.flt := congrArg (·.2.1) h

theorem posted_of_collected {d t : Dev} (h : t.collected = d.collected) : t.posted = d.posted := congrArg (·.2.2.2.2) h

theorem collected_foldl {α : Type} (f : Dev → α → Dev) (h : ∀ (d : Dev) a, (f d a).collected = d.collected) (l : List α) :
    ∀ d : Dev, (l.foldl f d).collected = d.collected := by
  induction l with
  | nil => exact fun _ => rfl
  | cons a t ih => exact fun d => (ih _).trans (h d a)

/-- The end of a cycle behind the latching of faults leaves the collector alone. -/
theorem collected_of_cycleEnds {d t : Dev} (h : d.cycleEnds t) : t.collected = d.collected := by
  rw [h.1]
  rfl

/-! ### The discards (R47 to R49) -/

@[simp] theorem selOff_collected (d : Dev) (k : Nat) : (d.selOff k).collected = d.collected := collected_of_cycleEnds (d.cycleEnds_selOff k)

@[simp] theorem setShelf_collected (d : Dev) (k : Nat) (f : Shelf → Shelf) : (d.setShelf k f).collected = d.collected := rfl

theorem dropExcWindows_collected (d : Dev) (k : Nat) : (d.dropExcWindows k).collected = d.collected := by
  unfold dropExcWindows
  dsimp only
  split
  · rfl
  · exact collected_foldl (fun e i => e.dropDrawer (i / 4) (i % 4)) (fun _ _ => rfl) _ d

theorem finishWork_collected (d : Dev) (k code : Nat) : (d.finishWork k code).collected = d.collected := by
  unfold finishWork
  extract_lets w off idle dropped ended evt
  have hdropped : dropped.collected = d.collected := by
    unfold dropped
    split
    · exact dropExcWindows_collected idle k
    · rfl
  have hevt : evt.collected = dropped.collected := by unfold evt; split <;> rfl
  exact hevt.trans hdropped

@[simp] theorem endWork_collected (d : Dev) (k code : Nat) : (d.endWork k code).collected = d.collected := by
  unfold endWork
  dsimp only
  split_ifs
  · rfl
  · rfl
  · exact finishWork_collected d k code

@[simp] theorem discardBal_collected (d : Dev) (mask : Nat) (only : Bool) : (d.discardBal mask only).collected = d.collected := by
  refine collected_foldl _ (fun e k => ?_) _ d
  split
  · exact endWork_collected e k 6
  · rfl

@[simp] theorem discardLog_collected (d : Dev) (progOnly : Bool) : (d.discardLog progOnly).collected = d.collected := by
  unfold discardLog
  dsimp only
  split <;> rfl

@[simp] theorem chkEnd_collected (d : Dev) (e : Nat) : (d.chkEnd e).collected = d.collected := by
  unfold chkEnd
  split <;> rfl

@[simp] theorem memStop_collected (d : Dev) : d.memStop.collected = d.collected := by
  unfold memStop
  split <;> rfl

@[simp] theorem abortLoad_collected (d : Dev) : d.abortLoad.collected = d.collected := by
  unfold abortLoad
  split <;> rfl

@[simp] theorem abortDiag_collected (d : Dev) (cause : Nat) : (d.abortDiag cause).collected = d.collected := by
  unfold abortDiag diagSourcesOff
  dsimp only
  split_ifs
  · rfl
  · exact endWork_collected d _ 2
  · rfl
  · rfl

theorem tagDrop_collected (d : Dev) : d.tagDrop.collected = d.collected := by
  unfold tagDrop tagClose
  split
  · rfl
  · dsimp only
    split <;> rfl

@[simp] theorem dropOwn_collected (d : Dev) (keep : Own → Bool) : (d.dropOwn keep).collected = d.collected := by
  unfold dropOwn
  dsimp only
  split_ifs
  · exact tagDrop_collected _
  · rfl
  · exact tagDrop_collected _
  · rfl

theorem endStream_collected (d : Dev) (st : Nat) : (d.endStream st).collected = d.collected := by
  unfold endStream
  split <;> rfl

@[simp] theorem discardChain_collected (d : Dev) : d.discardChain.collected = d.collected := by
  unfold discardChain
  dsimp only
  split <;> exact (endStream_collected _ 4).trans (dropOwn_collected _ _)

@[simp] theorem discardSweeps_collected (d : Dev) : d.discardSweeps.collected = d.collected := rfl

theorem discardAuth_collected (d : Dev) : d.discardAuth.collected = d.collected :=
  (abortLoad_collected _).trans (dropOwn_collected d _)

theorem discardAll_collected (d : Dev) : d.discardAll.collected = d.collected := by
  unfold discardAll
  simp only [memStop_collected, chkEnd_collected, discardLog_collected]
  rw [collected_foldl _ selOff_collected]
  simp

/-- A discard neither latches nor posts a fault. -/
theorem discardFor_collected (d : Dev) (x : Latched) : (d.discardFor x).collected = d.collected := by
  unfold discardFor
  split
  · exact discardAll_collected d
  · split
    · rfl
    · split
      · simp
      · dsimp only
        split <;> simp
      · simp
      · rw [collected_foldl, discardBal_collected]
        intro e k
        split <;> simp
      · exact discardAuth_collected d
      · simp [discardSends]
      · rfl

/-! ### The reactions (R509, R510) -/

@[simp] theorem halt_collected (d : Dev) (cause : Nat) : (d.halt cause).collected = d.collected := by
  unfold halt
  split <;> rfl

@[simp] theorem cancelRun_collected (d : Dev) (cause : Nat) : (d.cancelRun cause).collected = d.collected := by
  unfold cancelRun
  split <;> rfl

@[simp] theorem safeDemandBy_collected (d : Dev) (src : Nat) : (d.safeDemandBy src).collected = d.collected := by
  unfold safeDemandBy setOut
  dsimp only
  split_ifs <;> rfl

@[simp] theorem enterLockout_collected (d : Dev) : d.enterLockout.collected = d.collected := by
  unfold enterLockout
  split
  · rfl
  · exact halt_collected _ 2

@[simp] theorem startHandover_collected (d : Dev) (auto : Bool) : (d.startHandover auto).collected = d.collected := by
  unfold startHandover endAll
  rw [collected_foldl _ (fun e k => endWork_collected e k 5)]
  rfl

@[simp] theorem shelfFault_collected (d : Dev) (x : Latched) : (d.shelfFault x).collected = d.collected := by
  unfold shelfFault
  split
  · rfl
  · exact setShelf_collected _ _ _

/-- A reaction neither latches nor posts a fault. -/
theorem reactTo_collected (d : Dev) (x : Latched) : (d.reactTo x).collected = d.collected := by
  unfold reactTo
  extract_lets shelved memStop log stopped halted demanded locked
  have hstopped : stopped.collected = shelved.collected := by unfold stopped; split <;> rfl
  have hhalted : halted.collected = stopped.collected := by unfold halted; split <;> simp
  have hdemanded : demanded.collected = halted.collected := by unfold demanded; split <;> simp
  have hlocked : locked.collected = demanded.collected := by unfold locked; split <;> simp
  have hall : locked.collected = d.collected :=
    hlocked.trans (hdemanded.trans (hhalted.trans (hstopped.trans (shelfFault_collected d x))))
  split
  · exact (startHandover_collected _ _).trans hall
  · exact hall

/-! ### The records (R512, R639) and the publications (R168) -/

@[simp] theorem logHw_collected (d : Dev) (ty : Nat) (tag : BitVec 16) (body : List Byte) : (d.logHw ty tag body).collected = d.collected := by
  unfold logHw
  dsimp only
  split
  · rfl
  · exact collected_of_cycleEnds (cycleEnds_stageQueues _)

@[simp] theorem snapTrigger_collected (d : Dev) (fsrc fstl : Word) : (d.snapTrigger fsrc fstl).collected = d.collected := by
  unfold snapTrigger snapRecords
  dsimp only
  split
  · rfl
  · split
    · rfl
    · exact collected_foldl _ (fun e p => logHw_collected e _ _ _) _ _

/-- A fault record and a snapshot neither latch nor post a fault. -/
theorem recordFault_collected (d : Dev) (x : Latched) : (d.recordFault x).collected = d.collected := by
  unfold recordFault
  extract_lets f src body n log recorded
  have hrecorded : recorded.collected = d.collected := by
    unfold recorded
    split_ifs
    · rfl
    · exact logHw_collected { d with log := { d.log with l0 := upd d.log.l0 x.ev.cls (· + 1) } } _ _ _
    · exact logHw_collected _ _ _ _
  split
  · exact (snapTrigger_collected _ _ _).trans hrecorded
  · exact hrecorded

theorem twinPublish_collected (d : Dev) (l : List Nat) : (d.twinPublish l).collected = d.collected := by
  unfold twinPublish
  extract_lets cells r vals mask sent
  have hsent : sent.collected = d.collected := collected_of_cycleEnds (d.cycleEnds_sendMsg _ _)
  split_ifs
  · rfl
  · rfl
  · rfl
  · exact hsent
  · rfl
  · rfl

theorem snapPublish_collected (d : Dev) (e : List Byte) : (d.snapPublish e).collected = d.collected := by
  unfold snapPublish
  dsimp only
  split
  · split <;> rfl
  · split_ifs <;> rfl

theorem passPublications_collected (d : Dev) : d.passPublications.collected = d.collected := by
  unfold passPublications
  split
  · rfl
  · exact (snapPublish_collected _ _).trans (twinPublish_collected d _)

end Dev

end Sys2Proof.Machine
end

section
/-!
PROOF. How the one fault of a cycle is latched (R503 to R508): its effective level, what the collector becomes, and what of it stands when the
cycle has ended.
-/

namespace Sys2Proof

/-- An element that the list holds does not depend on the default. -/
theorem nth_default {α : Type} (x y : α) {l : List α} {i : Nat} (h : i < l.length) : nth l i x = nth l i y := by
  simp [nth, List.getElem?_eq_getElem h]

end Sys2Proof

namespace Sys2Proof.Machine

/-! ### The effective level (R506, R507) -/

theorem effectiveLevel_zero (mask : Nat) : effectiveLevel 0 mask = 0 := rfl

theorem effectiveLevel_le {l : Nat} (mask : Nat) (h : l ≤ 3) : effectiveLevel l mask ≤ 3 := by
  unfold effectiveLevel
  split
  · exact Nat.zero_le 3
  · split
    · exact h
    · exact max_le h (Nat.min_le_right _ 3)

/-- The levels that a class holds decide: none of them leaves the nominal level, and the lowest of them raises it. -/
theorem effectiveLevel_eq (l mask : Nat) : effectiveLevel l mask =
    if l = 0 ∨ (mask.testBit 1 || mask.testBit 2 || mask.testBit 3) = false then l
    else max l (min ((if mask.testBit 1 then 1 else if mask.testBit 2 then 2 else 3) + 1) 3) := by
  rcases eq_or_ne l 0 with rfl | h
  · simp [effectiveLevel_zero]
  · cases h1 : mask.testBit 1
    · cases h2 : mask.testBit 2
      · cases h3 : mask.testBit 3 <;> simp [effectiveLevel, h, h1, h2, h3]
      · simp [effectiveLevel, h, h1, h2]
    · simp [effectiveLevel, h, h1]

namespace Collector

/-! ### The collector with one more fault -/

/-- The effective level of a fault as the collector stands. -/
def levelOf (c : Collector) (e : FaultEvt) : Nat := effectiveLevel e.lvl (nth c.cls e.cls 0)

theorem levelOf_le (c : Collector) {e : FaultEvt} (h : e.lvl ≤ 3) : c.levelOf e ≤ 3 := effectiveLevel_le _ h

theorem latch_nil (c : Collector) (stamp : BitVec 48) (scope : Latched → Nat) : c.latch [] stamp scope = (c, []) := rfl

/-- A fault alone in its cycle is latched, whatever its class, and from L1 on makes a discard (R53). -/
theorem latch_singleton (c : Collector) {e : FaultEvt} (stamp : BitVec 48) (scope : Latched → Nat) (h : e.cls < 9) :
    (c.latch [e] stamp scope).1 =
      if c.levelOf e = 0 then (c.latchOne e false stamp).1
      else { (c.latchOne e false stamp).1 with
        gen := c.gen + 1, dcnt := min (c.dcnt + 1) 255, scope := 0 ||| scope ⟨e, c.levelOf e⟩ } := by
  obtain ⟨cls, lvl, code, info, sw⟩ := e
  have hone : c.latch [⟨cls, lvl, code, info, sw⟩] stamp scope =
      let x : Latched := ⟨⟨cls, lvl, code, info, sw⟩, c.levelOf ⟨cls, lvl, code, info, sw⟩⟩
      let p : Collector := (c.latchOne x.ev false stamp).1
      let disc := [x].filter (fun x => decide (1 ≤ x.eff))
      if disc.isEmpty then (p, [x])
      else ({ p with gen := p.gen + 1, dcnt := min (p.dcnt + 1) 255, scope := disc.foldl (fun m x => m ||| scope x) 0 }, [x]) := by
    dsimp only at h
    interval_cases cls <;> rfl
  rw [hone]
  cases c.levelOf ⟨cls, lvl, code, info, sw⟩ with
  | zero => rfl
  | succ n => rfl

section One
variable (c : Collector) {e : FaultEvt} (stamp : BitVec 48) (scope : Latched → Nat) (h : e.cls < 9)
include h

/-- First sources, classes and counts do not depend on the discard. -/
theorem latch_singleton_lists : (c.latch [e] stamp scope).1.first = upd c.first (c.levelOf e) (fun f => take f e (c.levelOf e) false stamp) ∧
    (c.latch [e] stamp scope).1.cls = (if c.levelOf e = 0 then c.cls else upd c.cls e.cls (fun m => m ||| 2 ^ c.levelOf e)) ∧
    (c.latch [e] stamp scope).1.cnt = upd c.cnt (c.levelOf e) (fun n => min (n + 1) 255) := by
  have hdiscard : (c.latch [e] stamp scope).1.first = (c.latchOne e false stamp).1.first ∧
      (c.latch [e] stamp scope).1.cls = (c.latchOne e false stamp).1.cls ∧
      (c.latch [e] stamp scope).1.cnt = (c.latchOne e false stamp).1.cnt := by
    rw [latch_singleton c stamp scope h]
    split <;> exact ⟨rfl, rfl, rfl⟩
  exact hdiscard

theorem latch_singleton_first (x : FirstSrc) (hl : c.levelOf e < c.first.length) :
    nth (c.latch [e] stamp scope).1.first (c.levelOf e) x = take (nth c.first (c.levelOf e) x) e (c.levelOf e) false stamp := by
  rw [(latch_singleton_lists c stamp scope h).1, nth_upd_same _ _ hl]

theorem latch_singleton_cnt (hl : c.levelOf e < c.cnt.length) :
    nth (c.latch [e] stamp scope).1.cnt (c.levelOf e) 0 = min (nth c.cnt (c.levelOf e) 0 + 1) 255 := by
  rw [(latch_singleton_lists c stamp scope h).2.2, nth_upd_same _ _ hl]

theorem latch_singleton_other_level (x : FirstSrc) {l : Nat} (hl : l ≠ c.levelOf e) :
    nth (c.latch [e] stamp scope).1.first l x = nth c.first l x ∧ nth (c.latch [e] stamp scope).1.cnt l 0 = nth c.cnt l 0 := by
  obtain ⟨hfirst, -, hcnt⟩ := latch_singleton_lists c stamp scope h
  rw [hfirst, hcnt]
  exact ⟨nth_upd_other _ _ _ hl, nth_upd_other _ _ _ hl⟩

theorem latch_singleton_cls (hl : e.cls < c.cls.length) : nth (c.latch [e] stamp scope).1.cls e.cls 0 =
    if c.levelOf e = 0 then nth c.cls e.cls 0 else nth c.cls e.cls 0 ||| 2 ^ c.levelOf e := by
  rw [(latch_singleton_lists c stamp scope h).2.1]
  split
  · rfl
  · exact nth_upd_same _ _ hl

theorem latch_singleton_other_cls {k : Nat} (hk : k ≠ e.cls) : nth (c.latch [e] stamp scope).1.cls k 0 = nth c.cls k 0 := by
  rw [(latch_singleton_lists c stamp scope h).2.1]
  split
  · rfl
  · exact nth_upd_other _ _ _ hk

theorem latch_singleton_discards (hl : 1 ≤ c.levelOf e) :
    (c.latch [e] stamp scope).1.gen = c.gen + 1 ∧ (c.latch [e] stamp scope).1.dcnt = min (c.dcnt + 1) 255 := by
  rw [latch_singleton c stamp scope h, if_neg (Nat.ne_of_gt hl)]
  exact ⟨rfl, rfl⟩

theorem latch_singleton_keeps (hl : c.levelOf e = 0) : (c.latch [e] stamp scope).1.gen = c.gen ∧
    (c.latch [e] stamp scope).1.dcnt = c.dcnt ∧ (c.latch [e] stamp scope).1.scope = c.scope := by
  rw [latch_singleton c stamp scope h, if_pos hl]
  exact ⟨rfl, rfl, rfl⟩

end One

end Collector

namespace Dev

/-! ### The end of a cycle in which one fault is posted -/

theorem latchFaults_posting {d : Dev} {e : FaultEvt} (hp : d.posted = [e]) (hn : d.fltNow = []) (hb : d.fltBase = d.flt) :
    d.latchFaults.collected = (d.tb, (d.flt.latch [e] (d.tb + 1) d.scopeOf).1, d.flt, [e], []) := by
  have hirq (t : Dev) : (t.irq 12).collected = t.collected := rfl
  simp only [latchFaults, hp, hn, hb, List.isEmpty_cons, Bool.false_eq_true, if_false, List.nil_append, Collector.latch_nil, List.any_nil]
  rw [hirq, collected_foldl _ recordFault_collected, collected_foldl _ reactTo_collected, collected_foldl _ discardFor_collected]
  rfl

/-- The latching of faults ends with line 12 (R245, R502). -/
theorem latchFaults_line12 {d : Dev} (hp : d.posted ≠ []) : d.latchFaults.bitAt F.SEQ_IP_IP 12 = true := by
  have he : ¬ d.posted.isEmpty = true := by simpa using hp
  rw [latchFaults, if_neg he]
  exact (bitAt_irq _ 12 (by decide)).trans (Bool.or_true _)

section Posting
variable {d : Dev} {e : FaultEvt} (hp : d.posted = [e])
include hp

/-- At the end of the cycle its one fault is latched, in some scope, and nothing is posted. -/
theorem settle_posting (hn : d.fltNow = []) (hb : d.fltBase = d.flt) :
    ∃ scope, d.settle.flt = (d.flt.latch [e] (d.tb + 1) scope).1 ∧ d.settle.posted = [] := by
  have hpass : (d.tb, d.flt, d.fltBase, d.fltNow, d.posted) = d.passPublications.collected := (passPublications_collected d).symm
  rw [settle_eq]
  generalize d.passPublications = u at hpass
  obtain ⟨htb, hflt, hbase, hnow, hposted⟩ : d.tb = u.tb ∧ d.flt = u.flt ∧ d.fltBase = u.fltBase ∧ d.fltNow = u.fltNow ∧
    d.posted = u.posted := by simpa [collected] using hpass
  have hend : u.latchFaults.cycleClose.collected = (u.tb, (u.flt.latch [e] (u.tb + 1) u.scopeOf).1, u.flt, [e], []) :=
    (collected_of_cycleEnds (cycleEnds_cycleClose _)).trans
      (latchFaults_posting (hposted ▸ hp) (hnow ▸ hn) (hbase.symm.trans (hb.trans hflt)))
  refine ⟨u.scopeOf, ?_, ?_⟩
  · rw [htb, hflt]
    exact congrArg (·.2.1) hend
  · exact congrArg (·.2.2.2.2) hend

theorem settle_line12 : d.settle.bitAt F.SEQ_IP_IP 12 = true := by
  have hposted : d.passPublications.posted = [e] := (congrArg (·.2.2.2.2) (passPublications_collected d)).trans hp
  rw [settle_eq, cycleClose_line, latchFaults_line12 (by simp [hposted]), Bool.true_or]

end Posting

/-- A device with the list lengths of reset has four first sources, nine classes and four counts. -/
theorem collector_lengths {d : Dev} (h : d.lengths = Dev.reset.lengths) :
    d.flt.first.length = 4 ∧ d.flt.cls.length = 9 ∧ d.flt.cnt.length = 4 := by
  have at_ (i : Nat) : d.lengths[i]? = Dev.reset.lengths[i]? := congrArg (·[i]?) h
  exact ⟨Option.some.inj (at_ 12), Option.some.inj (at_ 13), Option.some.inj (at_ 14)⟩

end Dev

theorem claim_aFaultIsLatchedAtItsEffectiveLevel : Claims.AFaultIsLatchedAtItsEffectiveLevel := by
  intro d e hp hn hb hlen hcls hlvl held m eff old t
  have heff : d.flt.levelOf e = eff := effectiveLevel_eq e.lvl held
  have hlt : d.flt.levelOf e < 4 := Nat.lt_succ_of_le (d.flt.levelOf_le (Nat.le_of_lt_succ hlvl))
  obtain ⟨hfirst, hclasses, hcnt⟩ := Dev.collector_lengths hlen
  rw [← hfirst] at hlt
  obtain ⟨scope, hflt, hposted⟩ := Dev.settle_posting hp hn hb
  change t.flt = _ at hflt
  rw [hflt]
  refine ⟨?_, fun l hne => ?_, ?_, ?_, fun k hk => ?_, fun h1 => ?_, fun h0 => ?_, Dev.settle_line12 hp, hposted⟩
  · rw [← heff, Collector.latch_singleton_first _ _ _ hcls _ hlt, heff, nth_default old _ (heff ▸ hlt)]
    rfl
  · exact Collector.latch_singleton_other_level _ _ _ hcls _ (fun h => hne (h.trans heff))
  · rw [← heff]
    exact Collector.latch_singleton_cnt _ _ _ hcls (hlt.trans_eq (hfirst.trans hcnt.symm))
  · rw [← heff]
    exact Collector.latch_singleton_cls _ _ _ hcls (hcls.trans_eq hclasses.symm)
  · exact Collector.latch_singleton_other_cls _ _ _ hcls hk
  · exact Collector.latch_singleton_discards _ _ _ hcls (h1.trans_eq heff.symm)
  · exact Collector.latch_singleton_keeps _ _ _ hcls (heff.trans h0)

end Sys2Proof.Machine
end

section
/-!
PROOF. Acknowledgement by level (R513, R514), the unlock of Lockout (R518), the read of a stamp (R521) and the window of L0 records (R512).
-/

namespace Sys2Proof

/-- Where bit `a` stands, subtracting its power clears it and leaves every other bit. -/
theorem testBit_sub_two_pow (a : Nat) : ∀ {m : Nat}, m.testBit a = true → ∀ l, (m - 2 ^ a).testBit l = (m.testBit l && decide (l ≠ a)) := by
  induction a with
  | zero =>
    intro m hm l
    have hodd : m % 2 = 1 := by simpa [Nat.testBit_zero] using hm
    cases l with
    | zero =>
      have heven : (m - 1) % 2 = 0 := by omega
      simp [Nat.testBit_zero, heven]
    | succ l =>
      have hhalf : (m - 1) / 2 = m / 2 := by omega
      simp [Nat.testBit_succ, hhalf]
  | succ a ih =>
    intro m hm l
    rw [Nat.testBit_succ] at hm
    have hle : 2 ^ a ≤ m / 2 := Nat.ge_two_pow_of_testBit hm
    cases l with
    | zero =>
      have hpar : (m - 2 ^ (a + 1)) % 2 = m % 2 := by rw [Nat.pow_succ]; omega
      simp [Nat.testBit_zero, hpar]
    | succ l =>
      have hhalf : (m - 2 ^ (a + 1)) / 2 = m / 2 - 2 ^ a := by rw [Nat.pow_succ]; omega
      rw [Nat.testBit_succ, hhalf, ih hm l, Nat.testBit_succ]
      simp

theorem nth_map {α : Type} (f : α → α) (x : α) (hx : f x = x) : ∀ (l : List α) (i : Nat), nth (l.map f) i x = f (nth l i x)
  | [], _ => hx.symm
  | _ :: _, 0 => rfl
  | _ :: t, i + 1 => nth_map f x hx t i

end Sys2Proof

namespace Sys2Proof.Machine

/-- A first source once its level is acknowledged (R513). -/
def FirstSrc.acked (f : FirstSrc) : FirstSrc := { f with valid := false, ovf := false, esc := false }

namespace Collector

/-! ### Acknowledged levels of the collector -/

/-- The collector with several levels acknowledged. -/
def ackAll (c : Collector) (ls : List Nat) : Collector := ls.foldl ack c

theorem ackAll_cons (c : Collector) (a : Nat) (t : List Nat) : c.ackAll (a :: t) = (c.ack a).ackAll t := rfl

theorem ackAll_cnt (ls : List Nat) : ∀ c : Collector, (c.ackAll ls).cnt = c.cnt := by
  induction ls with
  | nil => exact fun _ => rfl
  | cons a t ih => exact fun c => ih (c.ack a)

/-- A level among those acknowledged keeps what its first source was and is no longer held; every other level stays. -/
theorem ackAll_first (ls : List Nat) (x : FirstSrc) {l : Nat} : ∀ {c : Collector}, l < c.first.length →
    nth (c.ackAll ls).first l x = if l ∈ ls then (nth c.first l x).acked else nth c.first l x := by
  induction ls with
  | nil => exact fun _ => (if_neg List.not_mem_nil).symm
  | cons a t ih =>
    intro c hl
    rw [ackAll_cons, ih (c := c.ack a) (hl.trans_eq (length_upd _ _ _).symm)]
    rcases eq_or_ne l a with rfl | hne
    · have hack : nth (c.ack l).first l x = (nth c.first l x).acked := nth_upd_same _ _ hl
      rw [hack, if_pos List.mem_cons_self]
      split <;> rfl
    · have hkeep : nth (c.ack a).first l x = nth c.first l x := nth_upd_other _ _ _ hne
      simp only [hkeep, List.mem_cons, hne, false_or]

theorem ack_cls (c : Collector) (a k l : Nat) : (nth (c.ack a).cls k 0).testBit l = ((nth c.cls k 0).testBit l && decide (l ≠ a)) := by
  have hmap : nth (c.ack a).cls k 0 = _ := nth_map (fun m : Nat => if m.testBit a then m - 2 ^ a else m) 0 (by simp) c.cls k
  rw [hmap]
  split
  · next h => exact testBit_sub_two_pow a h l
  · next h =>
    rcases eq_or_ne l a with rfl | hne
    · simp [h]
    · simp [hne]

/-- No class holds an acknowledged level, and each holds the others as before. -/
theorem ackAll_cls (ls : List Nat) (k l : Nat) : ∀ c : Collector,
    (nth (c.ackAll ls).cls k 0).testBit l = ((nth c.cls k 0).testBit l && decide (l ∉ ls)) := by
  induction ls with
  | nil => exact fun c => by simp [ackAll]
  | cons a t ih =>
    intro c
    rw [ackAll_cons, ih, ack_cls, Bool.and_assoc]
    simp

end Collector

namespace Dev

/-! ### Acknowledged levels of the device -/

/-- An acknowledgement touches neither registers nor Hearth, and draws nothing. -/
theorem ackLevel_frame (d : Dev) (l : Nat) :
    (d.ackLevel l).regs = d.regs ∧ (d.ackLevel l).draws = d.draws ∧ (d.ackLevel l).hearth = d.hearth := by
  unfold ackLevel
  dsimp only
  split_ifs <;> exact ⟨rfl, rfl, rfl⟩

/-- Before any fault of its cycle, an acknowledgement acts on the collector as it stands. -/
theorem ackLevel_collected {d : Dev} (l : Nat) (hn : d.fltNow = []) (hb : d.fltBase = d.flt) :
    (d.ackLevel l).collected = (d.tb, d.flt.ack l, d.flt.ack l, [], d.posted) := by
  unfold ackLevel
  simp only [hn, hb, Collector.latch_nil]
  split_ifs <;> rfl

/-- The device with several levels acknowledged. -/
def ackLevels (d : Dev) (ls : List Nat) : Dev := ls.foldl ackLevel d

theorem ackLevels_frame (ls : List Nat) : ∀ d : Dev,
    (d.ackLevels ls).regs = d.regs ∧ (d.ackLevels ls).draws = d.draws ∧ (d.ackLevels ls).hearth = d.hearth := by
  induction ls with
  | nil => exact fun _ => ⟨rfl, rfl, rfl⟩
  | cons a t ih =>
    intro d
    obtain ⟨hregs, hdraws, hhearth⟩ := d.ackLevel_frame a
    obtain ⟨tregs, tdraws, thearth⟩ := ih (d.ackLevel a)
    exact ⟨tregs.trans hregs, tdraws.trans hdraws, thearth.trans hhearth⟩

theorem ackLevels_collector (ls : List Nat) : ∀ {d : Dev}, d.fltNow = [] → d.fltBase = d.flt →
    (d.ackLevels ls).flt = d.flt.ackAll ls ∧ (d.ackLevels ls).posted = d.posted := by
  induction ls with
  | nil => exact fun _ _ => ⟨rfl, rfl⟩
  | cons a t ih =>
    intro d hn hb
    obtain ⟨-, hflt, hbase, hnow, hposted⟩ : (d.ackLevel a).tb = d.tb ∧ (d.ackLevel a).flt = d.flt.ack a ∧
        (d.ackLevel a).fltBase = d.flt.ack a ∧ (d.ackLevel a).fltNow = [] ∧ (d.ackLevel a).posted = d.posted := by
      simpa [collected] using ackLevel_collected a hn hb
    obtain ⟨htflt, htposted⟩ := ih hnow (hbase.trans hflt.symm)
    exact ⟨htflt.trans (congrArg (·.ackAll t) hflt), htposted.trans hposted⟩

theorem ackLevels_keepsRegs (d : Dev) (ls l : List Nat) : d.keepsRegs (d.ackLevels ls) l :=
  fun a _ => rd_congr (ackLevels_frame ls d).1 a

/-! ### FLT_ACK (R513, R514) -/

/-- The levels that a write of FLT_ACK acknowledges: L2 under authentication only. -/
def ackedBy (by_ : By) (w : Word) : List Nat := [0, 1, 2].filter (fun l => w.getLsbD l && decide (l < 2 ∨ by_ = .auth))

theorem mem_ackedBy (by_ : By) (w : Word) (l : Nat) :
    l ∈ ackedBy by_ w ↔ (l < 2 ∧ w.getLsbD l = true) ∨ (l = 2 ∧ w.getLsbD 2 = true ∧ by_ = .auth) := by
  simp only [ackedBy, List.mem_filter, List.mem_cons, List.not_mem_nil, or_false, Bool.and_eq_true, decide_eq_true_eq]
  constructor
  · rintro ⟨rfl | rfl | rfl, hw, hby⟩
    · exact .inl ⟨by decide, hw⟩
    · exact .inl ⟨by decide, hw⟩
    · exact .inr ⟨rfl, hw, hby.resolve_left (by decide)⟩
  · rintro (⟨hl, hw⟩ | ⟨rfl, hw, hby⟩)
    · exact ⟨by omega, hw, .inl hl⟩
    · exact ⟨.inr (.inr rfl), hw, .inr hby⟩

theorem ackLevels_filter_cons (d : Dev) (p : Nat → Bool) (a : Nat) (t : List Nat) :
    d.ackLevels ((a :: t).filter p) = (if p a = true then d.ackLevel a else d).ackLevels (t.filter p) := by
  rw [List.filter_cons]
  split <;> rfl

/-- A write of FLT_ACK acknowledges its levels, and a refusal of L2 sets ACKREF. -/
theorem fltAckCmd_eq (d : Dev) (by_ : By) (w : Word) : d.fltAckCmd by_ w =
    if w.getLsbD 2 = true ∧ by_ ≠ .auth then (d.ackLevels (ackedBy by_ w)).flag F.FLT_STAT_ACKREF else d.ackLevels (ackedBy by_ w) := by
  unfold fltAckCmd
  extract_lets e₀ e₁
  have hacked : d.ackLevels (ackedBy by_ w) = if w.getLsbD 2 = true ∧ by_ = .auth then e₁.ackLevel 2 else e₁ := by
    unfold ackedBy e₁ e₀
    simp only [ackLevels_filter_cons, Nat.zero_lt_two, Nat.one_lt_two, true_or, decide_true, Bool.and_true, Nat.lt_irrefl, false_or,
      Bool.and_eq_true, decide_eq_true_eq]
    rfl
  rw [hacked]
  cases w.getLsbD 2 with
  | false => simp
  | true => by_cases hb : by_ = .auth <;> simp [hb]

theorem fltAckCmd_flt {d : Dev} (by_ : By) (w : Word) (hn : d.fltNow = []) (hb : d.fltBase = d.flt) :
    (d.fltAckCmd by_ w).flt = d.flt.ackAll (ackedBy by_ w) ∧ (d.fltAckCmd by_ w).posted = d.posted := by
  rw [fltAckCmd_eq]
  split <;> exact ackLevels_collector _ hn hb

theorem fltAckCmd_keepsRegs (d : Dev) (by_ : By) (w : Word) : d.keepsRegs (d.fltAckCmd by_ w) [R.FLT_STAT] := by
  rw [fltAckCmd_eq]
  split
  · exact keepsRegs_trans (d.ackLevels_keepsRegs _ _) (keepsRegs_flagBits _ _ (by decide))
  · exact d.ackLevels_keepsRegs _ _

theorem fltAckCmd_ackref (d : Dev) {by_ : By} {w : Word} (hw : w.getLsbD 2 = true) (hb : by_ ≠ .auth) :
    (d.fltAckCmd by_ w).bit F.FLT_STAT_ACKREF = true := by
  rw [fltAckCmd_eq, if_pos ⟨hw, hb⟩]
  exact bit_flag _ _ (by decide) rfl

/-! ### FLT_UNLOCK (R518) -/

/-- Whether a word is the unlock value under the session key. -/
def unlocks (d : Dev) (w : Word) : Bool := (d.keys.ks.map (fun ks => d.unlockValue ks == w)).getD false

theorem unlocks_iff (d : Dev) (w : Word) : d.unlocks w = true ↔ ∃ ks, d.keys.ks = some ks ∧ w = d.unlockValue ks := by
  unfold unlocks
  cases d.keys.ks with
  | none => simp
  | some ks =>
    simp only [Option.map_some, Option.getD_some, beq_iff_eq, Option.some.injEq, exists_eq_left']
    exact eq_comm

theorem l3Now_of_quiet {d : Dev} (hn : d.fltNow = []) : d.l3Now = false := by
  simp [l3Now, hn, Collector.latch_nil]

theorem fltUnlockCmd_outside (d : Dev) (w : Word) (h : d.bit F.FLT_STAT_LKO = false) : d.fltUnlockCmd w = d := by
  simp [fltUnlockCmd, h]

theorem fltUnlockCmd_right {d : Dev} {w : Word} (h : d.bit F.FLT_STAT_LKO = true) (hn : d.fltNow = []) (hw : d.unlocks w = true) :
    d.fltUnlockCmd w = d.unlocked := by
  unfold unlocks at hw
  simp [fltUnlockCmd, h, hw, l3Now_of_quiet hn]

/-- A refused unlock posts its notice, counts as a failed CMAC, and draws a new challenge. -/
def unlockRefused (d : Dev) : Dev := (d.post 7 0 4 0).cmacFail.drawChal

theorem fltUnlockCmd_wrong {d : Dev} {w : Word} (h : d.bit F.FLT_STAT_LKO = true) (hw : d.unlocks w = false) :
    d.fltUnlockCmd w = d.unlockRefused := by
  unfold unlocks at hw
  simp [fltUnlockCmd, unlockRefused, h, hw]

/-- The device enters Measure from Lockout under a new challenge. -/
def leaveLockout (d : Dev) : Dev := ((d.putB F.FLT_STAT_LKO false).setState 2).drawChal

/-- Lockout is left in two steps: every level is acknowledged, and the device enters Measure. -/
theorem unlocked_eq (d : Dev) : d.unlocked = (d.ackLevels (List.range 4)).leaveLockout := rfl

theorem rd_drawChal (d : Dev) (a : Nat) : d.drawChal.rd a = d.rd a := rfl

theorem leaveLockout_collected (d : Dev) : d.leaveLockout.collected = d.collected := rfl

theorem leaveLockout_hearth (d : Dev) : d.leaveLockout.hearth = d.hearth := rfl

theorem leaveLockout_chal (d : Dev) : d.leaveLockout.keys.chal = Config.random d.draws := rfl

theorem leaveLockout_keepsRegs (d : Dev) : d.keepsRegs d.leaveLockout [R.FLT_STAT, R.SYS_PWRSTAT] := by
  have hstate : d.keepsRegs ((d.putB F.FLT_STAT_LKO false).setState 2) [R.FLT_STAT, R.SYS_PWRSTAT] :=
    keepsRegs_trans (d.keepsRegs_put _ (by decide)) (keepsRegs_trans (keepsRegs_put _ _ (by decide)) (keepsRegs_put _ _ (by decide)))
  exact fun a ha => (rd_drawChal _ a).trans (hstate a ha)

theorem leaveLockout_lko (d : Dev) : d.leaveLockout.bit F.FLT_STAT_LKO = false := by
  rw [leaveLockout, bit, get_of_rd (rd_drawChal _ _), ← bit, setState, bit_putB_apart _ _ _ _ (by decide) (by decide),
    bit_put_apart _ _ _ _ (by decide) (by decide)]
  exact bit_putB_same d _ _ (by decide) rfl

theorem leaveLockout_pstate (d : Dev) : d.leaveLockout.pstate = 2 := by
  rw [pstate, leaveLockout, get_of_rd (rd_drawChal _ _), setState, get_putB_apart _ _ _ _ (by decide) (by decide),
    get_put_same _ _ _ (by decide)]
  rfl

theorem unlocked_keepsRegs (d : Dev) : d.keepsRegs d.unlocked [R.FLT_STAT, R.SYS_PWRSTAT] := by
  rw [unlocked_eq]
  exact keepsRegs_trans (d.ackLevels_keepsRegs _ _) (leaveLockout_keepsRegs _)

theorem unlocked_lko (d : Dev) : d.unlocked.bit F.FLT_STAT_LKO = false := by
  rw [unlocked_eq]
  exact leaveLockout_lko _

theorem unlocked_pstate (d : Dev) : d.unlocked.pstate = 2 := by
  rw [unlocked_eq]
  exact leaveLockout_pstate _

theorem unlocked_frame (d : Dev) : d.unlocked.hearth = d.hearth ∧ d.unlocked.keys.chal = Config.random d.draws := by
  obtain ⟨-, hdraws, hhearth⟩ := ackLevels_frame (List.range 4) d
  rw [unlocked_eq, leaveLockout_hearth, leaveLockout_chal, hdraws, hhearth]
  exact ⟨rfl, rfl⟩

theorem unlocked_collector {d : Dev} (hn : d.fltNow = []) (hb : d.fltBase = d.flt) :
    d.unlocked.flt = d.flt.ackAll (List.range 4) ∧ d.unlocked.posted = d.posted := by
  obtain ⟨hflt, hposted⟩ := ackLevels_collector (List.range 4) hn hb
  rw [unlocked_eq, flt_of_collected (leaveLockout_collected _), posted_of_collected (leaveLockout_collected _)]
  exact ⟨hflt, hposted⟩

/-! ### A failed CMAC (R619, R626) -/

/-- The device once a failed CMAC is counted, before an alarm. -/
def cmacCounted (d : Dev) : Dev :=
  (d.count F.SEC_AFAIL_TOTAL 1).put F.SEC_AFAIL_CONSEC (if 16 ≤ d.get F.SEC_AFAIL_CONSEC + 1 then 0 else d.get F.SEC_AFAIL_CONSEC + 1)

/-- The sixteenth failure in a row raises the alarm. -/
theorem cmacFail_eq (d : Dev) :
    d.cmacFail = if 16 ≤ d.get F.SEC_AFAIL_CONSEC + 1 then d.cmacCounted.alarm 1 else d.cmacCounted := by
  unfold cmacFail cmacCounted
  dsimp only
  split <;> rfl

theorem cmacCounted_keepsRegs (d : Dev) : d.keepsRegs d.cmacCounted [R.SEC_AFAIL] :=
  keepsRegs_trans (d.keepsRegs_count _ (by decide)) (keepsRegs_put _ _ (by decide))

theorem cmacFail_keepsRegs (d : Dev) : d.cmacCounted.keepsRegs d.cmacFail alarmRegs := by
  rw [cmacFail_eq]
  split
  · exact alarm_keepsRegs _ 1
  · exact keepsRegs_refl _ _

theorem cmacFail_consec (d : Dev) : d.cmacFail.get F.SEC_AFAIL_CONSEC =
    if 16 ≤ d.get F.SEC_AFAIL_CONSEC + 1 then 0 else d.get F.SEC_AFAIL_CONSEC + 1 := by
  rw [get_of_rd (cmacFail_keepsRegs d _ (by decide)), cmacCounted, get_put_same _ _ _ (by decide)]
  have hw : 2 ^ F.SEC_AFAIL_CONSEC.width = 32 := rfl
  split
  · rfl
  · exact Nat.mod_eq_of_lt (by omega)

/-- An alarm latches nothing: what it posts waits for the end of the cycle. -/
theorem alarm_flt (d : Dev) (src : Nat) : (d.alarm src).flt = d.flt := by
  have herase (kp : Bool) : (d.alarmErase kp).flt = d.flt := by cases kp <;> rfl
  rw [alarm_eq, alarmReport, secRecord]
  exact (flt_of_collected (logHw_collected _ _ _ _)).trans (herase _)

theorem cmacFail_flt (d : Dev) : d.cmacFail.flt = d.flt := by
  rw [cmacFail_eq]
  split
  · exact alarm_flt _ 1
  · rfl

theorem cmacFail_posted {d : Dev} {e : FaultEvt} (h : e ∈ d.posted) : e ∈ d.cmacFail.posted := by
  rw [cmacFail_eq]
  split
  · rw [alarm_posts]
    exact List.mem_append_left _ h
  · exact h

theorem cmacFail_draws {d : Dev} (h : d.get F.SEC_AFAIL_CONSEC + 1 < 16) : d.cmacFail.draws = d.draws := by
  rw [cmacFail_eq, if_neg (Nat.not_le.mpr h)]
  rfl

/-! ### A refused unlock (R518) -/

theorem unlockRefused_keepsRegs (d : Dev) : d.keepsRegs d.unlockRefused (R.SEC_AFAIL :: alarmRegs) :=
  keepsRegs_trans (b := (d.post 7 0 4 0).cmacCounted) (keepsRegs_mono (cmacCounted_keepsRegs _) (by simp))
    (keepsRegs_mono (cmacFail_keepsRegs (d.post 7 0 4 0)) (List.subset_cons_self _ _))

theorem unlockRefused_lko (d : Dev) : d.unlockRefused.bit F.FLT_STAT_LKO = d.bit F.FLT_STAT_LKO := by
  rw [bit, get_of_rd (d.unlockRefused_keepsRegs _ (by decide)), bit]

theorem unlockRefused_pstate (d : Dev) : d.unlockRefused.pstate = d.pstate := get_of_rd (d.unlockRefused_keepsRegs _ (by decide))

theorem unlockRefused_flt (d : Dev) : d.unlockRefused.flt = d.flt := cmacFail_flt _

theorem unlockRefused_posted (d : Dev) : (⟨7, 0, 4, 0, false⟩ : FaultEvt) ∈ d.unlockRefused.posted :=
  cmacFail_posted (d := d.post 7 0 4 0) (by simp)

theorem unlockRefused_consec (d : Dev) : d.unlockRefused.get F.SEC_AFAIL_CONSEC =
    if 16 ≤ d.get F.SEC_AFAIL_CONSEC + 1 then 0 else d.get F.SEC_AFAIL_CONSEC + 1 := cmacFail_consec (d.post 7 0 4 0)

theorem unlockRefused_chal {d : Dev} (h : d.get F.SEC_AFAIL_CONSEC + 1 < 16) : d.unlockRefused.keys.chal = Config.random d.draws :=
  congrArg Config.random (cmacFail_draws (d := d.post 7 0 4 0) h)

/-! ### The read of a stamp (R521) -/

theorem readFstl_keepsRegs (d : Dev) (l : Nat) : d.keepsRegs (d.readFstl l).2 [R.FLT_FSTH l] := d.keepsRegs_wr _ (by simp)

theorem readFstl_high (d : Dev) (l : Nat) : (d.readFstl l).2.rd (R.FLT_FSTH l) =
    BitVec.ofNat 32 ((nth d.flt.first l ⟨false, false, false, false, 0, 0, 0, 0, 0⟩).stamp.toNat / 2 ^ 32) := rd_wr_same _ _ _

end Dev

/-! ### The meanings of the commands of this part -/

namespace State

theorem exec_fltAck (s : State) (by_ : By) (w : Word) : exec (.fltAck by_ w) s = s.on (·.fltAckCmd by_ w) := rfl

theorem exec_fltUnlock (s : State) (w : Word) : exec (.fltUnlock w) s = s.on (·.fltUnlockCmd w) := rfl

theorem exec_faultStampRead (s : State) (l : Fin 4) : exec (.faultStampRead l) s =
    s.on (fun d => (d.readFstl l.val).2.emit (.value (R.FLT_FSTL l.val) (d.readFstl l.val).1)) := rfl

theorem exec_l0RateWindow (s : State) : exec .l0RateWindow s = s.on Dev.l0Window := rfl

end State

theorem claim_faultsAreAcknowledgedAndUnlocked : Claims.FaultsAreAcknowledgedAndUnlocked := by
  intro s by_ w l hs hn hb hlen d f acks low right lko
  have hl (k : Nat) (hk : k < 4) : k < d.flt.first.length := hk.trans_eq hlen.symm
  have hright : right ↔ d.unlocks w = true := (d.unlocks_iff w).symm
  refine ⟨State.gives_of_on hs (s.exec_fltAck by_ w) ?ack, fun h => ?outside, fun h hr => ?unlock, fun h hr => ?refused, ?stamp, fun h => ?early, fun h => ?due⟩
  case ack =>
    obtain ⟨hflt, hposted⟩ := Dev.fltAckCmd_flt by_ w hn hb
    have hfirst (k : Nat) (hk : k < 4) := Collector.ackAll_first (Dev.ackedBy by_ w) ⟨false, false, false, false, 0, 0, 0, 0, 0⟩ (hl k hk)
    rw [hflt]
    refine ⟨fun k hk ha => ?_, fun k hk ha => ?_, fun k l _ => ?_, fun h2 hp => d.fltAckCmd_ackref h2 hp, Collector.ackAll_cnt _ _, hposted,
      d.fltAckCmd_keepsRegs by_ w⟩
    · exact (hfirst k hk).trans (if_pos ((Dev.mem_ackedBy by_ w k).mpr ha))
    · exact (hfirst k hk).trans (if_neg (fun hm => ha ((Dev.mem_ackedBy by_ w k).mp hm)))
    · rw [Collector.ackAll_cls, Bool.and_eq_true, decide_eq_true_eq, Dev.mem_ackedBy]
  case outside => exact State.becomes_of_on hs (s.exec_fltUnlock w) (d.fltUnlockCmd_outside w h)
  case unlock =>
    obtain ⟨hflt, hposted⟩ := Dev.unlocked_collector hn hb
    obtain ⟨hhearth, hchal⟩ := d.unlocked_frame
    refine ⟨d.unlocked, State.becomes_of_on hs (s.exec_fltUnlock w) (Dev.fltUnlockCmd_right h hn (hright.mp hr)), d.unlocked_lko,
      d.unlocked_pstate, hhearth, fun k hk => ?_, hchal, hposted, d.unlocked_keepsRegs⟩
    have hfirst : f (d.flt.ackAll (List.range 4)) k = (f d.flt k).acked :=
      (Collector.ackAll_first _ _ (hl k hk)).trans (if_pos (List.mem_range.mpr hk))
    rw [hflt, hfirst]
    rfl
  case refused =>
    have hwrong : d.unlocks w = false := Bool.eq_false_iff.mpr (fun h => hr (hright.mpr h))
    exact ⟨d.unlockRefused, State.becomes_of_on hs (s.exec_fltUnlock w) (Dev.fltUnlockCmd_wrong h hwrong),
      d.unlockRefused_lko.trans h, d.unlockRefused_pstate, d.unlockRefused_flt, d.unlockRefused_chal, d.unlockRefused_posted,
      d.unlockRefused_consec⟩
  case stamp =>
    exact ⟨_, State.becomes_of_on hs (s.exec_faultStampRead l) rfl, rfl, d.readFstl_high l, Dev.keepsRegs_emit _ (d.readFstl_keepsRegs l)⟩
  case early => exact State.becomes_of_on hs s.exec_l0RateWindow (if_pos h)
  case due => exact State.becomes_of_on hs s.exec_l0RateWindow (if_neg (Nat.not_lt.mpr h))

/-- Settles O8: nothing that follows the latching of the one fault touches the collector again, and an acknowledgement before any fault of its
cycle acts on the collector as it stands. -/
theorem faultsAreLatchedAndAcknowledged : Obligations.FaultsAreLatchedAndAcknowledged :=
  ⟨claim_aFaultIsLatchedAtItsEffectiveLevel, claim_faultsAreAcknowledgedAndUnlocked⟩

end Sys2Proof.Machine
end

section
/-!
PROOF. The cycle counter (R658) where STATE holds a code that R588 gives to no state.
-/

namespace Sys2Proof.Machine

/-- The reset state but for a device out of reset whose STATE holds 0, a code to which R588 gives no state. -/
def noPowerState : State :=
  let d := Dev.reset.put F.SYS_PWRSTAT_STATE 0
  { State.reset with dev := { d with power := { d.power with released := true } } }

theorem noPowerState_pending : noPowerState.pending = [] := rfl

/-- It is out of reset and not in Banked, and a system cycle leaves its cycle counter at 0. -/
theorem clock_noPowerState : noPowerState.awake = true ∧ noPowerState.dev.perf.cyc = 0 ∧
    (Dev.clock noPowerState.mems noPowerState.dev).perf.cyc = 0 := by
  decide +kernel

theorem State.tick_dev (s : State) : s.tick.dev = Dev.clock s.mems s.dev := rfl

/-- On an empty queue a step is the system cycle. -/
theorem step_of_empty {s : State} (h : s.pending = []) : step s = .next s.tick := by
  rw [step, h]

/-- Refutes O13: the counter counts while STATE holds the code of Start, Measure or Lockout (R658). The statement asks it of every state out of reset
whose STATE is not that of Banked, and so of the codes 0 and 5 to 7 too, which R588 gives to no state. With STATE at 0 a cycle passes uncounted.
The refutation says nothing of the four codes that R588 names. -/
theorem not_theCycleCounterCountsSystemCycles : ¬ Obligations.TheCycleCounterCountsSystemCycles := by
  intro h
  obtain ⟨hawake, hbefore, hafter⟩ := clock_noPowerState
  obtain ⟨hcycle, -⟩ := h noPowerState
  obtain ⟨t, ht, hcounts, -⟩ := hcycle noPowerState_pending
  have htick := Host.Outcome.next.inj (ht.symm.trans (step_of_empty noPowerState_pending))
  have hone := hcounts hawake
  rw [htick, State.tick_dev, hafter, hbefore] at hone
  exact absurd hone (by decide)

end Sys2Proof.Machine
end

section
/-!
PROOF. The performance counters and the frame tagger (R659, R663, R664, R667, R668, R671, R675): what clears the counters, what an overflow sets and
carries on, what a read latches, and what a tag record holds once it has closed.
-/

namespace Sys2Proof

/-- Where `f` fixes the default, a replaced element reads as `f` of the old one beyond the end of the list too. -/
theorem nth_upd_of_fixed {α : Type} {f : α → α} {x : α} (hx : f x = x) (l : List α) (i : Nat) : nth (upd l i f) i x = f (nth l i x) := by
  by_cases h : i < l.length
  · exact nth_upd_same f x h
  · have hl : l.length ≤ i := Nat.le_of_not_lt h
    rw [nth, nth, List.getD_eq_default _ _ ((length_upd f l i).trans_le hl), List.getD_eq_default _ _ hl, hx]

end Sys2Proof

namespace Sys2Proof.Machine

/-- A record as a read of its word 0 leaves it (R671). -/
def TagRec.taken (t : TagRec) : TagRec := ⟨upd t.words 1 (fun w => w &&& 0x7FFFFFFF), t.words.drop 1⟩

theorem TagRec.taken_valid (t : TagRec) : (nth t.taken.words 1 0).getLsbD 31 = false := by
  have hw : nth t.taken.words 1 0 = nth t.words 1 0 &&& 0x7FFFFFFF := 
    nth_upd_of_fixed (f := fun w => w &&& 0x7FFFFFFF) BitVec.zero_and t.words 1
  rw [hw, BitVec.getLsbD_and]
  exact Bool.and_false _

theorem TagRec.taken_header (t : TagRec) : nth t.taken.words 0 0 = nth t.words 0 0 := nth_upd_other _ _ _ (by decide)

namespace State

section Exec
variable (s : State)

theorem exec_prfClr : exec .prfClr s = s.on Dev.prfClear := rfl

theorem exec_pmcOverflow (n : Fin 6) : exec (.pmcOverflow n) s = s.on (·.pmcOverflow n) := rfl

theorem exec_pmcRead (n : Fin 6) : exec (.pmcRead n) s = s.on (fun d => (d.readPmc n).2.emit (.value (R.PRF_PMC n) (d.readPmc n).1)) := rfl

theorem exec_cycleCounterRead : exec .cycleCounterRead s = s.on (fun d => d.readCycl.2.emit (.value R.PRF_CYCL d.readCycl.1)) := rfl

theorem exec_tagRecordClose (dropped : Bool) : exec (.tagRecordClose dropped) s =
    s.on (fun d => if dropped then d.tagDrop else d.tagClose) := rfl

theorem exec_tagRecordRead (r : Fin 8) : exec (.tagRecordRead r) s =
    s.on (fun d => (d.readTag r).2.emit (.value (R.PRF_TAG0 r) (d.readTag r).1)) := rfl

end Exec

end State

namespace Dev

/-! ### A register that is one field -/

theorem putBits_whole (w : Word) (a v : Nat) : putBits w ⟨a, 0, 32⟩ v = BitVec.ofNat 32 v := by
  apply BitVec.eq_of_getLsbD_eq
  intro i hi
  rw [getLsbD_putBits w ⟨a, 0, 32⟩ v i (Nat.le_refl 32), if_pos ⟨Nat.zero_le i, by omega⟩, BitVec.getLsbD_ofNat]
  simp [hi]

theorem get_whole (d : Dev) (a : Nat) : d.get ⟨a, 0, 32⟩ = (d.rd a).toNat := by
  rw [get, bitsOf, Nat.shiftRight_zero]
  exact Nat.mod_eq_of_lt (d.rd a).isLt

theorem rd_put_cnt (d : Dev) (n v : Nat) : (d.put (F.PRF_PMC_CNT n) v).rd (R.PRF_PMC n) = BitVec.ofNat 32 v :=
  (d.rd_put_same (F.PRF_PMC_CNT n) v).trans (putBits_whole _ _ v)

theorem put_cnt_keepsRegs (d : Dev) (n v : Nat) : d.keepsRegs (d.put (F.PRF_PMC_CNT n) v) [R.PRF_PMC n] :=
  d.keepsRegs_put (f := F.PRF_PMC_CNT n) v List.mem_cons_self

theorem prfPmc_inj {m n : Nat} (h : R.PRF_PMC m = R.PRF_PMC n) : m = n := by
  unfold R.PRF_PMC at h
  omega

theorem prfStat_ne_prfPmc (n : Nat) : R.PRF_STAT ≠ R.PRF_PMC n := by
  unfold R.PRF_STAT R.PRF_PMC
  omega

/-! ### PRF_CTL.CLR (R675) -/

/-- The counters of a list at 0. -/
def clearPmcs (d : Dev) (l : List Nat) : Dev := l.foldl (fun d n => d.put (F.PRF_PMC_CNT n) 0) d

theorem prfClear_eq (d : Dev) : d.prfClear = (d.clearPmcs (List.range 6)).put F.PRF_STAT_OVF 0 := rfl

theorem clearPmcs_keepsRegs (l : List Nat) : ∀ d : Dev, d.keepsRegs (d.clearPmcs l) (l.map R.PRF_PMC) := by
  induction l with
  | nil => exact fun d => d.keepsRegs_refl _
  | cons n t ih => exact fun d => keepsRegs_trans (keepsRegs_mono (d.put_cnt_keepsRegs n 0) (by simp)) (keepsRegs_mono (ih _) (by simp))

theorem rd_clearPmcs {k : Nat} (l : List Nat) : ∀ d : Dev, k ∈ l ∨ d.rd (R.PRF_PMC k) = 0 → (d.clearPmcs l).rd (R.PRF_PMC k) = 0 := by
  induction l with
  | nil => exact fun d h => h.resolve_left List.not_mem_nil
  | cons n t ih =>
    intro d h
    refine ih (d.put (F.PRF_PMC_CNT n) 0) ?_
    by_cases hn : k = n
    · exact .inr (hn ▸ d.rd_put_cnt n 0)
    · refine h.imp (fun hk => (List.mem_cons.mp hk).resolve_left hn) (fun h0 => ?_)
      exact (d.put_cnt_keepsRegs n 0 _ (by simpa using fun he => hn (prfPmc_inj he))).trans h0

/-! ### The overflow of a counter (R663, R667, R668) -/

theorem pmcAdd_regs (d : Dev) (n k : Nat) : (d.pmcAdd n k).regs = (d.put (F.PRF_PMC_CNT n) (d.get (F.PRF_PMC_CNT n) + k)).regs := by
  unfold pmcAdd
  dsimp only
  split <;> rfl

theorem pmcAdd_keepsRegs (d : Dev) (n k : Nat) : d.keepsRegs (d.pmcAdd n k) [R.PRF_PMC n] :=
  fun a ha => (rd_congr (d.pmcAdd_regs n k) a).trans (d.put_cnt_keepsRegs n _ a ha)

theorem rd_pmcAdd (d : Dev) (n k : Nat) : (d.pmcAdd n k).rd (R.PRF_PMC n) = d.rd (R.PRF_PMC n) + BitVec.ofNat 32 k := by
  rw [rd_congr (d.pmcAdd_regs n k), rd_put_cnt, show d.get (F.PRF_PMC_CNT n) = (d.rd (R.PRF_PMC n)).toNat from d.get_whole _,
    BitVec.ofNat_add, BitVec.ofNat_toNat, BitVec.setWidth_eq]

/-- The overflow of counter `n` is taken: OVF shows it (R663). -/
def noteOverflow (d : Dev) (n : Nat) : Dev :=
  ({ d with perf := { d.perf with wrapped := d.perf.wrapped.erase n } } : Dev).flagBits F.PRF_STAT_OVF (2 ^ n)

/-- The overflow of counter `n` advances a chained counter above it that counts (R663). -/
def carryOverflow (d : Dev) (n : Nat) : Dev :=
  if n < 5 && d.chained (n + 1) && d.pmcCounts (n + 1) then d.pmcAdd (n + 1) 1 else d

/-- Counter `n` waits to sample Hearth at the entry to the handler of line 13 (R667). -/
def awaitSample (d : Dev) (n : Nat) : Dev :=
  ({ d with perf := { d.perf with sampOvr := d.perf.sampOvr || d.perf.sampling.isSome, sampling := some n } } : Dev).irq 13

/-- A sampling overflow freezes the counters under FRZOVF (R668). -/
def freezeSampled (d : Dev) : Dev := if d.bit F.PRF_CTL_FRZOVF then d.flag F.PRF_CTL_FRZ else d

/-- The registers that an overflow of counter `n` writes before it samples. -/
def overflowRegs (n : Nat) : List Nat := [R.PRF_STAT, R.PRF_PMC (n + 1)]

section Overflow
variable (d : Dev) (n : Nat)

theorem noteOverflow_keepsRegs : d.keepsRegs (d.noteOverflow n) [R.PRF_STAT] :=
  fun a ha => d.keepsRegs_flagBits (f := F.PRF_STAT_OVF) (2 ^ n) List.mem_cons_self a ha

theorem carryOverflow_keepsRegs : d.keepsRegs (d.carryOverflow n) [R.PRF_PMC (n + 1)] := by
  unfold carryOverflow
  split
  · exact d.pmcAdd_keepsRegs _ _
  · exact d.keepsRegs_refl _

theorem carried_keepsRegs : d.keepsRegs ((d.noteOverflow n).carryOverflow n) (overflowRegs n) :=
  keepsRegs_trans (keepsRegs_mono (d.noteOverflow_keepsRegs n) (by simp [overflowRegs]))
    (keepsRegs_mono ((d.noteOverflow n).carryOverflow_keepsRegs n) (by simp [overflowRegs]))

/-- An overflow leaves the settings of the counters. -/
theorem carried_bit {f : Fld} (hs : f.addr ≠ R.PRF_STAT) (hp : f.addr ≠ R.PRF_PMC (n + 1)) :
    ((d.noteOverflow n).carryOverflow n).bit f = d.bit f :=
  congrArg (· % 2 == 1) (get_of_rd (d.carried_keepsRegs n f.addr (by simp [overflowRegs, hs, hp])))

theorem noteOverflow_chained (k : Nat) : (d.noteOverflow n).chained k = d.chained k := by
  have h : (d.noteOverflow n).get (F.PRF_PMCFG_CHAIN k) = d.get (F.PRF_PMCFG_CHAIN k) :=
    get_of_rd (d.noteOverflow_keepsRegs n _ (by simp only [F.PRF_PMCFG_CHAIN, R.PRF_STAT, List.mem_singleton]; omega))
  simp only [chained, bit, h]

theorem noteOverflow_pmcCounts (k : Nat) : (d.noteOverflow n).pmcCounts k = d.pmcCounts k := by
  have h {f : Fld} (hf : f.addr ≠ R.PRF_STAT) : (d.noteOverflow n).get f = d.get f :=
    get_of_rd (d.noteOverflow_keepsRegs n f.addr (by simpa using hf))
  simp only [pmcCounts, pstate, bit, bitAt, h (f := F.PRF_CTL_EN) (by decide), h (f := F.PRF_CTL_FRZ) (by decide),
    h (f := F.SYS_PWRSTAT_STATE) (by decide)]

theorem carryOverflow_unchained (h : (decide (n < 5) && d.chained (n + 1)) = false) : d.carryOverflow n = d := by
  simp [carryOverflow, h]

theorem rd_carryOverflow (h : (decide (n < 5) && d.chained (n + 1)) = true) (hc : d.pmcCounts (n + 1) = true) :
    (d.carryOverflow n).rd (R.PRF_PMC (n + 1)) = d.rd (R.PRF_PMC (n + 1)) + 1 := by
  rw [carryOverflow, h, hc]
  exact d.rd_pmcAdd _ _

/-- OVF stands once the overflow is carried on. -/
theorem bitAt_carried_ovf (hn : n < 6) : ((d.noteOverflow n).carryOverflow n).bitAt F.PRF_STAT_OVF n = true :=
  calc ((d.noteOverflow n).carryOverflow n).bitAt F.PRF_STAT_OVF n
    _ = (d.noteOverflow n).bitAt F.PRF_STAT_OVF n :=
      bitAt_of_rd ((d.noteOverflow n).carryOverflow_keepsRegs n _ (mt List.mem_singleton.mp (prfStat_ne_prfPmc (n + 1)))) n
    _ = true := by
      rw [noteOverflow, bitAt_flagBits _ F.PRF_STAT_OVF n (by decide) hn, beq_self_eq_true, Bool.or_true]

theorem awaitSample_keepsRegs : d.keepsRegs (d.awaitSample n) [R.SEQ_IP] :=
  fun a ha => d.keepsRegs_flagBits (f := F.SEQ_IP_IP) (2 ^ 13) List.mem_cons_self a ha

theorem bitAt_awaitSample_line : (d.awaitSample n).bitAt F.SEQ_IP_IP 13 = true :=
  (bitAt_irq _ 13 (by decide)).trans (Bool.or_true _)

theorem freezeSampled_perf : d.freezeSampled.perf = d.perf := by
  unfold freezeSampled
  split <;> rfl

theorem freezeSampled_keepsRegs : d.keepsRegs d.freezeSampled [R.PRF_CTL] := by
  unfold freezeSampled
  split
  · exact d.keepsRegs_flagBits _ (by decide)
  · exact d.keepsRegs_refl _

theorem bit_freezeSampled (h : d.bit F.PRF_CTL_FRZOVF = true) : d.freezeSampled.bit F.PRF_CTL_FRZ = true := by
  rw [freezeSampled, if_pos h]
  exact d.bit_flag _ (by decide) rfl

theorem pmcOverflow_of_not_wrapped (h : n ∉ d.perf.wrapped) : d.pmcOverflow n = d := by
  simp [pmcOverflow, h]

theorem pmcOverflow_eq (h : n ∈ d.perf.wrapped) : d.pmcOverflow n =
    if ((d.noteOverflow n).carryOverflow n).bit (F.PRF_PMCFG_SEN n) then (((d.noteOverflow n).carryOverflow n).awaitSample n).freezeSampled
    else (d.noteOverflow n).carryOverflow n := by
  unfold pmcOverflow
  rw [if_neg (by simp [h])]
  rfl

theorem carried_sen : ((d.noteOverflow n).carryOverflow n).bit (F.PRF_PMCFG_SEN n) = d.bit (F.PRF_PMCFG_SEN n) :=
  d.carried_bit n (by unfold F.PRF_PMCFG_SEN R.PRF_STAT; dsimp only; omega) (by unfold F.PRF_PMCFG_SEN R.PRF_PMC; dsimp only; omega)

theorem carried_frzovf : ((d.noteOverflow n).carryOverflow n).bit F.PRF_CTL_FRZOVF = d.bit F.PRF_CTL_FRZOVF :=
  d.carried_bit n (by decide) (by unfold F.PRF_CTL_FRZOVF R.PRF_PMC; dsimp only; omega)

theorem pmcOverflow_plain (h : n ∈ d.perf.wrapped) (hs : d.bit (F.PRF_PMCFG_SEN n) = false) :
    d.pmcOverflow n = (d.noteOverflow n).carryOverflow n := by
  rw [d.pmcOverflow_eq n h, carried_sen, hs]
  rfl

theorem pmcOverflow_sampling (h : n ∈ d.perf.wrapped) (hs : d.bit (F.PRF_PMCFG_SEN n) = true) :
    d.pmcOverflow n = (((d.noteOverflow n).carryOverflow n).awaitSample n).freezeSampled := by
  rw [d.pmcOverflow_eq n h, carried_sen, hs]
  rfl

end Overflow

/-! ### Reads that latch (R659, R664) -/

theorem readPmc_regs (d : Dev) (n : Nat) : (d.readPmc n).2.regs = d.regs := rfl

theorem readPmc_shadow_self (d : Dev) {n : Nat} (hn : n < d.perf.shadow.length) : nth (d.readPmc n).2.perf.shadow n none = none := by
  have hc : nth (upd d.perf.shadow n (fun _ => none)) n none = none := nth_upd_same _ _ hn
  unfold readPmc
  dsimp only
  split
  · rw [nth_upd_other _ _ _ (Nat.ne_of_lt (Nat.lt_succ_self n)), hc]
  · exact hc

theorem readPmc_shadow_above (d : Dev) {n : Nat} (hn : n + 1 < d.perf.shadow.length) : nth (d.readPmc n).2.perf.shadow (n + 1) none =
    if (decide (n < 5) && d.chained (n + 1)) = true then some (d.rd (R.PRF_PMC (n + 1))) else nth d.perf.shadow (n + 1) none := by
  unfold readPmc
  dsimp only
  split
  · rw [nth_upd_same _ _ (hn.trans_eq (length_upd _ _ _).symm)]
  · rw [nth_upd_other _ _ _ (Nat.succ_ne_self n)]

theorem rd_readCycl (d : Dev) : d.readCycl.2.rd R.PRF_CYCH = (d.perf.cyc >>> 32).truncate 32 :=
  (rd_wr_same d _ _).trans (ofNat_toNat_div d.perf.cyc 32 32)

theorem inactive_prfCych (d : Dev) : d.inactive R.PRF_CYCH = false := by
  unfold inactive
  split <;> rfl

/-- A read of PRF_CYCH returns the shadow and leaves it (R659). -/
theorem readReg_prfCych (d : Dev) : d.readReg R.PRF_CYCH = (d.rd R.PRF_CYCH, d.wr R.PRF_CYCH (d.rd R.PRF_CYCH)) := by
  have hp : d.readReg R.PRF_CYCH = d.readPlain R.PRF_CYCH := by
    simp only [readReg, inactive_prfCych]
    rfl
  have hv : d.viewReg R.PRF_CYCH = d.rd R.PRF_CYCH := by
    simp only [viewReg, inactive_prfCych]
    rfl
  have hm : rcMask R.PRF_CYCH = 0#32 := by decide
  have hf : d.readFields R.PRF_CYCH = (d.rd R.PRF_CYCH, d.wr R.PRF_CYCH (d.rd R.PRF_CYCH)) := rfl
  have ho : ~~~0#32 = BitVec.allOnes 32 := rfl
  rw [hp, readPlain, hv, hm, hf, ho, BitVec.and_allOnes, BitVec.and_zero, BitVec.or_zero]

/-! ### Tag records (R671) -/

/-- The words of a closed record (R676). -/
def closedWords (d : Dev) (o : TagOpen) : List Word :=
  [o.hdr, BitVec.ofNat 32 (2 ^ 31 + o.out.toNat * 2 ^ 28 + o.inn.toNat * 2 ^ 26 + o.len % 512), o.tarr, o.tq, o.tfwd, d.stamp]

/-- A closed record has VALID at 1, whatever stands beside it. -/
theorem closedWords_valid (d : Dev) (o : TagOpen) : (nth (d.closedWords o) 1 0).getLsbD 31 = true := by
  have hout := o.out.isLt
  have hinn := o.inn.isLt
  have hlen : o.len % 512 < 512 := Nat.mod_lt _ (by decide)
  change (BitVec.ofNat 32 _).getLsbD 31 = true
  rw [BitVec.getLsbD_ofNat, Nat.testBit_eq_decide_div_mod_eq]
  simp only [Nat.reduceLT, decide_true, Bool.true_and, decide_eq_true_eq]
  omega

theorem tagClose_none {d : Dev} (h : d.perf.tagOpen = none) : d.tagClose = d := by
  simp [tagClose, h]

theorem tagDrop_none {d : Dev} (h : d.perf.tagOpen = none) : d.tagDrop = d := by
  have hl : d.tagLeaves 5 = d := by
    rw [tagLeaves, h, Option.map_none, ← h]
  rw [tagDrop, hl, tagClose_none h]

section TagClose
variable {d : Dev} {o : TagOpen} (h : d.perf.tagOpen = some o)
include h

theorem tagClose_perf : d.tagClose.perf = { d.perf with
    tagOpen := none, tags := upd d.perf.tags (d.get F.PRF_TAGSTAT_NEXT) (fun r => { r with words := d.closedWords o }) } := by
  simp only [tagClose, h]
  split <;> rfl

/-- PRF_TAGSTAT after a record has closed: what LOST took and the count of unread records stand beside OPEN and NEXT. -/
theorem tagClose_regs : ∃ (e : Dev) (unread : Nat), d.tagClose.regs =
    ((((e.putB F.PRF_TAGSTAT_OPEN false).put F.PRF_TAGSTAT_NEXT (d.get F.PRF_TAGSTAT_NEXT + 1)).count F.PRF_TAGSTAT_TAGGED 1).put
      F.PRF_TAGSTAT_NVAL unread).regs := by
  simp only [tagClose, h]
  exact ⟨_, _, rfl⟩

theorem tagClose_next : d.tagClose.get F.PRF_TAGSTAT_NEXT = (d.get F.PRF_TAGSTAT_NEXT + 1) % 8 := by
  obtain ⟨e, unread, hr⟩ := tagClose_regs h
  rw [get_congr hr, get_put_apart _ _ _ _ (by decide) (by decide), get_count_apart _ _ _ _ (by decide) (by decide),
    get_put_same _ _ _ (by decide)]
  rfl

theorem tagClose_open : d.tagClose.bit F.PRF_TAGSTAT_OPEN = false := by
  obtain ⟨e, unread, hr⟩ := tagClose_regs h
  have hc (g : Dev) : (g.count F.PRF_TAGSTAT_TAGGED 1).bit F.PRF_TAGSTAT_OPEN = g.bit F.PRF_TAGSTAT_OPEN :=
    congrArg (· % 2 == 1) (g.get_count_apart _ _ 1 (by decide) (by decide))
  rw [bit_congr hr, bit_put_apart _ _ _ _ (by decide) (by decide), hc, bit_put_apart _ _ _ _ (by decide) (by decide),
    bit_putB_same _ _ _ (by decide) rfl]

theorem tagClose_record (hl : d.perf.tags.length = 8) :
    (nth d.tagClose.perf.tags (d.get F.PRF_TAGSTAT_NEXT) ⟨[], []⟩).words = d.closedWords o := by
  have hn : d.get F.PRF_TAGSTAT_NEXT < d.perf.tags.length := hl ▸ d.get_lt F.PRF_TAGSTAT_NEXT
  rw [tagClose_perf h, nth_upd_same _ _ hn]

end TagClose

theorem readTag_sent (d : Dev) (r : Nat) : (d.readTag r).2.sent = d.sent := by
  unfold readTag
  dsimp only
  split <;> rfl

theorem readTag_record (d : Dev) {r : Nat} (hr : r < d.perf.tags.length) :
    nth (d.readTag r).2.perf.tags r ⟨[], []⟩ = (nth d.perf.tags r ⟨[], []⟩).taken := by
  have ht : (d.readTag r).2.perf.tags = upd d.perf.tags r (fun _ => (nth d.perf.tags r ⟨[], []⟩).taken) := by
    unfold readTag
    dsimp only
    split <;> rfl
  rw [ht, nth_upd_same _ _ hr]

end Dev

theorem claim_countersOverflowLatchAndClear : Claims.CountersOverflowLatchAndClear := by
  intro s n r o hs d above
  have hn : n.val < 6 := n.isLt
  refine ⟨State.gives_of_on hs s.exec_prfClr ?clear, fun hw => State.becomes_of_on hs (s.exec_pmcOverflow n) (d.pmcOverflow_of_not_wrapped n hw),
    fun hw hsen => State.gives_of_on hs (s.exec_pmcOverflow n) ?plain, fun hw hsen => State.gives_of_on hs (s.exec_pmcOverflow n) ?sampling,
    State.gives_of_on hs (s.exec_pmcRead n) ?read, State.gives_of_on hs s.exec_cycleCounterRead ?cycle, ?cych, ?cychStays,
    fun ho x => State.becomes_of_on hs (s.exec_tagRecordClose x) ?noRecord, fun ho hl => State.gives_of_on hs (s.exec_tagRecordClose false) ?close,
    fun hl => State.gives_of_on hs (s.exec_tagRecordRead r) ?take⟩
  case clear =>
    rw [d.prfClear_eq]
    refine ⟨fun k => ?_, Dev.get_put_same _ _ _ (by decide), ?_⟩
    · exact (Dev.rd_put_other _ _ _ (Dev.prfStat_ne_prfPmc k).symm).trans (Dev.rd_clearPmcs _ d (.inl (List.mem_range.mpr k.isLt)))
    · exact Dev.keepsRegs_trans (Dev.keepsRegs_mono (Dev.clearPmcs_keepsRegs _ d) (List.subset_cons_self _ _))
        (Dev.keepsRegs_put _ _ List.mem_cons_self)
  case plain =>
    rw [d.pmcOverflow_plain n hw hsen]
    refine ⟨d.bitAt_carried_ovf n hn, fun ha => ?_, fun ha hc => ?_⟩
    · have hu : (d.noteOverflow n).carryOverflow n = d.noteOverflow n :=
        Dev.carryOverflow_unchained _ _ ((d.noteOverflow_chained n _).symm ▸ ha)
      rw [hu]
      exact ⟨rfl, d.noteOverflow_keepsRegs n⟩
    · have hkept : (d.noteOverflow n).rd (R.PRF_PMC (n + 1)) = d.rd (R.PRF_PMC (n + 1)) :=
        d.noteOverflow_keepsRegs n _ (by simpa using (Dev.prfStat_ne_prfPmc (n + 1)).symm)
      rw [← hkept]
      exact Dev.rd_carryOverflow _ _ ((d.noteOverflow_chained n _).symm ▸ ha) ((d.noteOverflow_pmcCounts n _).trans hc)
  case sampling =>
    rw [d.pmcOverflow_sampling n hw hsen]
    refine ⟨by rw [Dev.freezeSampled_perf]; rfl, ?_, fun hf => Dev.bit_freezeSampled _ ?_⟩
    · exact (Dev.bitAt_of_rd (Dev.freezeSampled_keepsRegs _ _ (by decide)) 13).trans (Dev.bitAt_awaitSample_line _ n)
    · exact (congrArg (· % 2 == 1) (Dev.get_of_rd (Dev.awaitSample_keepsRegs _ n _ (by decide)))).trans ((d.carried_frzovf n).trans hf)
  case read =>
    exact ⟨rfl, Dev.keepsRegs_emit _ (fun _ _ => rfl), fun hl => ⟨d.readPmc_shadow_self (by omega), d.readPmc_shadow_above (by omega)⟩⟩
  case cycle => exact ⟨rfl, d.rd_readCycl, Dev.keepsRegs_emit _ (d.keepsRegs_wr _ List.mem_cons_self)⟩
  case cych => rw [Dev.readReg_prfCych]
  case cychStays => rw [Dev.readReg_prfCych, Dev.rd_wr_same]
  case noRecord =>
    cases x with
    | true => exact Dev.tagDrop_none ho
    | false => exact Dev.tagClose_none ho
  case close =>
    rw [if_neg Bool.false_ne_true]
    have hk : (nth d.tagClose.perf.tags (d.get F.PRF_TAGSTAT_NEXT) ⟨[], []⟩).words = d.closedWords o := Dev.tagClose_record ho hl
    dsimp only
    rw [hk]
    exact ⟨congrArg Perf.tagOpen (Dev.tagClose_perf ho), rfl, d.closedWords_valid o, rfl, rfl, rfl, rfl, Dev.tagClose_next ho, Dev.tagClose_open ho⟩
  case take =>
    have hr : nth (d.readTag r).2.perf.tags r ⟨[], []⟩ = (nth d.perf.tags r ⟨[], []⟩).taken := d.readTag_record (r.isLt.trans_eq hl.symm)
    dsimp only [Dev.emit_perf]
    rw [hr]
    exact ⟨congrArg (· ++ _) (d.readTag_sent r), rfl, TagRec.taken_valid _, TagRec.taken_header _⟩

/-- Settles O38: an overflow writes OVF and the counter above it, and so moves no setting by which it carries on or samples; a read of a latched pair
or record returns what the low word latched. -/
theorem countersOverflowLatchAndClear : Obligations.CountersOverflowLatchAndClear := claim_countersOverflowLatchAndClear

end Sys2Proof.Machine
end
